-- ==== Sys2Proof/Word.lean ====
section
/-! DEFINITION. The byte, the total lookup of an index, and the update of one place of a table. -/

namespace Sys2Proof

/-- One byte of a frame. -/
abbrev Byte := BitVec 8

/-- The index `x` of a table of `n` places, when there is such a place. -/
def index? (n x : Nat) : Option (Fin n) :=
  if h : x < n then some ⟨x, h⟩ else none

/-- The table `v` with its place `i` passed through `f`. -/
def modifyAt {α : Type} {n : Nat} (v : Vector α n) (i : Fin n) (f : α → α) : Vector α n :=
  v.set i (f v[i])

/-- Every index of a table of `n` places, in ascending order. -/
def indices (n : Nat) : List (Fin n) := List.finRange n

/-- The members of a set of `n` things held as bits, in ascending order. -/
def members {n : Nat} (set : BitVec n) : List (Fin n) :=
  (indices n).filter fun i => set.getLsbD i

end Sys2Proof
end

