-- ==== Sys2Proof/Syntax.lean ====
section
/-! DEFINITION. The commands of the block: one constructor of `Instr` for each row of spec/opcode_table.json. A host
command carries its frame's header and its payload fields, raw, in the widths of chapter 11; an event carries what it
concerns. -/

namespace Sys2Proof

/-- The three bytes that open the payload of a GUARDED frame (11.1). -/
structure Guard where
  slot : Byte
  gen  : Byte
  mode : Byte
  deriving DecidableEq, Repr

/-- What bytes 1 and 2 of a command frame say (11.1), with the guard bytes when GUARDED is set. -/
structure Header where
  client   : BitVec 3
  reserved : BitVec 4
  tag      : Byte
  guard    : Option Guard
  deriving DecidableEq, Repr

/-- The 34 bytes of a cue descriptor (11.2), field by field. A colour source is its kind byte and three 16-bit values;
the effect parameters of bytes 21 to 26 are three 16-bit values. -/
structure RawDescriptor where
  layer     : Byte
  priority  : Byte
  zones     : BitVec 16
  intensity : BitVec 16
  aKind     : Byte
  a0        : BitVec 16
  a1        : BitVec 16
  a2        : BitVec 16
  bKind     : Byte
  b0        : BitVec 16
  b1        : BitVec 16
  b2        : BitVec 16
  effect    : Byte
  p0        : BitVec 16
  p1        : BitVec 16
  p2        : BitVec 16
  fadeIn    : BitVec 16
  fadeOut   : BitVec 16
  lifetime  : BitVec 16
  gate      : Byte
  deriving DecidableEq, Repr

/-- A node reference as a frame carries it (11.2): the chain byte and the position byte. -/
structure RawNodeRef where
  chain    : Byte
  position : Byte
  deriving DecidableEq, Repr

/-- A point of a lux curve as SET_CURVE carries it (11.6). -/
structure RawPoint where
  lux   : BitVec 16
  level : BitVec 16
  deriving DecidableEq, Repr

/-- The payload of SET_BIN after its bin number (11.6): nine signed coefficients in row order and three currents. -/
structure RawBin where
  c00 : BitVec 16
  c01 : BitVec 16
  c02 : BitVec 16
  c10 : BitVec 16
  c11 : BitVec 16
  c12 : BitVec 16
  c20 : BitVec 16
  c21 : BitVec 16
  c22 : BitVec 16
  i0  : BitVec 16
  i1  : BitVec 16
  i2  : BitVec 16
  deriving DecidableEq, Repr

/-- The payload of CONFIGURE_CHAIN after its chain code (11.6): the field mask and the seven fields. -/
structure RawChainConfig where
  mask            : Byte
  enabled         : Byte
  expected        : Byte
  ratePolicy      : Byte
  rejoin          : Byte
  retryLimit      : Byte
  budget          : BitVec 16
  restoreInterval : BitVec 16
  deriving DecidableEq, Repr

/-- A sequence step as LOAD_STEPS carries it (11.3): a kind byte and five field bytes. -/
structure RawStep where
  kind : Byte
  b1   : Byte
  b2   : Byte
  b3   : Byte
  b4   : Byte
  b5   : Byte
  deriving DecidableEq, Repr

/-- A LampRing frame (11.5): its 24-bit header and its slots of 48 bits. -/
structure RingFrame where
  header : BitVec 24
  slots  : List (BitVec 48)
  deriving DecidableEq, Repr

/-- The end of a chain a frame is sent from (R121). -/
inductive End where
  | out
  | inn
  deriving DecidableEq, Repr

/-- How the chip-select period of a command frame went: in whole bytes, with a last byte that was not completed (R183), or
with a rise of RESET_N in it (R189). -/
inductive Period where
  | whole
  | partialByte
  | resetRose
  deriving DecidableEq, Repr

/-- The commands. -/
inductive Instr where
  | commandFrame (bytes : List Byte) (period : Period)
  | nop (h : Header)
  | identify (h : Header)
  | softReset (h : Header)
  | readNotices (h : Header)
  | ackOldest (h : Header)
  | ackMatch (h : Header) (kind : Byte) (subject : BitVec 16)
  | ackAll (h : Header)
  | setNoticeMask (h : Header) (mask : BitVec 16)
  | postCue (h : Header) (d : RawDescriptor)
  | placeCue (h : Header) (slot : Byte) (d : RawDescriptor)
  | modifyCue (h : Header) (handle : BitVec 16) (mask : BitVec 16) (d : RawDescriptor)
  | retireCue (h : Header) (handle : BitVec 16) (mode : Byte)
  | retireOwner (h : Header) (owner : Byte) (mode : Byte)
  | refreshCue (h : Header) (handle : BitVec 16) (lifetime : Option (BitVec 16))
  | readCue (h : Header) (handle : BitVec 16)
  | setPalette (h : Header) (entry : Byte) (r g b : BitVec 16) (mode : Byte)
  | clearPalette (h : Header) (entry : Byte)
  | setSignals (h : Header) (mask values : BitVec 16)
  | mapZone (h : Header) (zone : Byte) (nodes : List RawNodeRef)
  | setZoneTrim (h : Header) (zone : Byte) (trim : BitVec 16)
  | holdZone (h : Header) (zones : BitVec 16)
  | releaseZone (h : Header) (zones : BitVec 16)
  | readZone (h : Header) (zone : Byte) (watch : Byte)
  | dropWatch (h : Header) (slot gen : Byte)
  | setFramePeriod (h : Header) (period : Byte)
  | setLux (h : Header) (lux : BitVec 16)
  | setMaster (h : Header) (level : BitVec 16)
  | setCurve (h : Header) (count : Byte) (points : List RawPoint)
  | setSlew (h : Header) (slew : BitVec 16)
  | setBin (h : Header) (bin : Byte) (b : RawBin)
  | setThermal (h : Header) (knee limit : BitVec 16)
  | configureChain (h : Header) (chain : Byte) (cfg : RawChainConfig)
  | startChain (h : Header) (chain : Byte)
  | stopChain (h : Header) (chain : Byte)
  | restartChain (h : Header) (chain : Byte)
  | rejoinNode (h : Header) (chain position : Byte)
  | readChain (h : Header) (chain position : Byte)
  | loadTemplate (h : Header) (template : Byte) (d : RawDescriptor)
  | clearTemplate (h : Header) (template : Byte)
  | loadSteps (h : Header) (slot first : Byte) (steps : List RawStep)
  | finishSequence (h : Header) (slot count rank : Byte)
  | clearSequence (h : Header) (slot : Byte)
  | startSequence (h : Header) (slot : Byte)
  | abortSequence (h : Header) (slot : Byte)
  | readSequence (h : Header) (slot first : Byte)
  | goDormant (h : Header)
  | goStandby (h : Header)
  | goLit (h : Header)
  | setPowerTimes (h : Header) (mask : Byte) (wakeDelay settleTime fadeTime : BitVec 16)
  | setDarkInterval (h : Header) (seconds : BitVec 16)
  | armWelcome (h : Header) (slot : Byte)
  | csNFallInDormant
  | wakeRisingEdge
  | resetNLow
  | deviceReset
  | timeBaseMillisecond
  | fadeInCompletion (slot : Fin 48)
  | lifetimeExpiry (slot : Fin 48)
  | fadeOutCompletion (slot : Fin 48)
  | waitExpiry (runner : Fin 2)
  | waitSignalTimeout (runner : Fin 2)
  | frameTimerExpiry
  | frameCompletion
  | wakeDelayExpiry
  | supplySettleExpiry
  | endOfDimming
  | darkIntervalExpiry
  | restoreTimerExpiry (chain : Fin 4)
  | restoreAttempt (chain : Fin 4)
  | dutyFrameSend (chain : Fin 4)
  | countReturned (chain : Fin 4) (frame : RingFrame)
  | countLost (chain : Fin 4)
  | identReturned (chain : Fin 4) (frame : RingFrame)
  | identLost (chain : Fin 4)
  | dutyReturned (chain : Fin 4) (sender : End) (frame : RingFrame)
  | dutyLost (chain : Fin 4) (sender : End)
  | probeReturned (chain : Fin 4) (sender : End) (frame : RingFrame)
  | probeLost (chain : Fin 4) (sender : End)
  deriving DecidableEq, Repr

end Sys2Proof
end

