-- ==== Sys2Proof/WellFormed.lean ====
section
/-! DEFINITION. When a command is one that the outside can present: a host command fits a frame of the lengths of 11.6,
and a returned LampRing frame holds as many slots as its header says. -/

namespace Sys2Proof

/-- The bytes that the guard adds to a payload (11.1). -/
def Header.guardBytes (h : Header) : Nat := if h.guard.isSome then 3 else 0

/-- The whole bytes of a host command's frame (11.1): the header, the guard bytes, `payload` bytes and the check. -/
def Header.frameBytes (h : Header) (payload : Nat) : Nat := payload + h.guardBytes + 5

/-- The slot count field of a LampRing header, bits 13 to 8 (11.5). -/
def RingFrame.slotCount (f : RingFrame) : Nat := (f.header.extractLsb' 8 6).toNat

/-- A MAP_ZONE payload of 1 + 2n bytes admits n up to 123 (11.6). -/
def mapZoneLengthOk (nodes : List RawNodeRef) : Bool := decide (nodes.length ≤ 123)

/-- A SET_CURVE payload of 1 + 4n bytes admits n up to 61 (11.6). -/
def setCurveLengthOk (points : List RawPoint) : Bool := decide (points.length ≤ 61)

/-- A LOAD_STEPS payload of 2 + 6n bytes admits n up to 16 (11.6). -/
def loadStepsLengthOk (steps : List RawStep) : Bool := decide (steps.length ≤ 16)

/-- A frame returned on a chain holds the slots its header counts (R121). -/
def RingFrame.complete (f : RingFrame) : Bool := f.slots.length == f.slotCount

/-- The commands that the outside can present. -/
def Instr.wellFormed : Instr → Bool
  | .mapZone h _ nodes => mapZoneLengthOk nodes && decide (1 + 2 * nodes.length + h.guardBytes ≤ 248)
  | .setCurve h _ points => setCurveLengthOk points && decide (1 + 4 * points.length + h.guardBytes ≤ 248)
  | .loadSteps _ _ _ steps => loadStepsLengthOk steps
  | .countReturned _ f | .identReturned _ f | .dutyReturned _ _ f | .probeReturned _ _ f => f.complete
  | .commandFrame _ _ | .nop _ | .identify _ | .softReset _ | .readNotices _ | .ackOldest _ | .ackMatch _ _ _
  | .ackAll _ | .setNoticeMask _ _ | .postCue _ _ | .placeCue _ _ _ | .modifyCue _ _ _ _ | .retireCue _ _ _
  | .retireOwner _ _ _ | .refreshCue _ _ _ | .readCue _ _ | .setPalette _ _ _ _ _ _ | .clearPalette _ _
  | .setSignals _ _ _ | .setZoneTrim _ _ _ | .holdZone _ _ | .releaseZone _ _ | .readZone _ _ _ | .dropWatch _ _ _
  | .setFramePeriod _ _ | .setLux _ _ | .setMaster _ _ | .setSlew _ _ | .setBin _ _ _ | .setThermal _ _ _
  | .configureChain _ _ _ | .startChain _ _ | .stopChain _ _ | .restartChain _ _ | .rejoinNode _ _ _
  | .readChain _ _ _ | .loadTemplate _ _ _ | .clearTemplate _ _ | .finishSequence _ _ _ _ | .clearSequence _ _
  | .startSequence _ _ | .abortSequence _ _ | .readSequence _ _ _ | .goDormant _ | .goStandby _ | .goLit _
  | .setPowerTimes _ _ _ _ _ | .setDarkInterval _ _ | .armWelcome _ _ | .csNFallInDormant | .wakeRisingEdge
  | .resetNLow | .deviceReset | .timeBaseMillisecond | .fadeInCompletion _ | .lifetimeExpiry _
  | .fadeOutCompletion _ | .waitExpiry _ | .waitSignalTimeout _ | .frameTimerExpiry | .frameCompletion
  | .wakeDelayExpiry | .supplySettleExpiry | .endOfDimming | .darkIntervalExpiry | .restoreTimerExpiry _
  | .restoreAttempt _ | .dutyFrameSend _ | .countLost _ | .identLost _ | .dutyLost _ _ | .probeLost _ _ => true

end Sys2Proof
end

