-- ==== Sys2Proof/Decode.lean ====
section
/-! DEFINITION. How a command frame is read (11.1 to 11.6): which codes name a command, and the command that a payload of an
accepted length spells. The table gives no row any bits, so no word spells a command. -/

namespace Sys2Proof

/-- The command that a word spells: the table gives no row any bits. -/
def decodeTableWord (_nbits _w : Nat) : Option Instr := none

/-! ## Fields of a payload -/

/-- The byte at an offset of a payload; 0 beyond its end, which no accepted length reaches. -/
def byteAt (p : List Byte) (i : Nat) : Byte := p.getD i 0

/-- The 16-bit field at an offset, most significant byte first (chapter 11). -/
def wordAt (p : List Byte) (i : Nat) : BitVec 16 := byteAt p i ++ byteAt p (i + 1)

/-- The 34 bytes of a cue descriptor from an offset on (11.2). -/
def descriptorAt (p : List Byte) (i : Nat) : RawDescriptor :=
  { layer := byteAt p i, priority := byteAt p (i + 1), zones := wordAt p (i + 2), intensity := wordAt p (i + 4)
    aKind := byteAt p (i + 6), a0 := wordAt p (i + 7), a1 := wordAt p (i + 9), a2 := wordAt p (i + 11)
    bKind := byteAt p (i + 13), b0 := wordAt p (i + 14), b1 := wordAt p (i + 16), b2 := wordAt p (i + 18)
    effect := byteAt p (i + 20), p0 := wordAt p (i + 21), p1 := wordAt p (i + 23), p2 := wordAt p (i + 25)
    fadeIn := wordAt p (i + 27), fadeOut := wordAt p (i + 29), lifetime := wordAt p (i + 31)
    gate := byteAt p (i + 33) }

/-- The node references of a MAP_ZONE payload after its zone byte (11.2). -/
def nodeRefsAt : List Byte → List RawNodeRef
  | c :: p :: rest => { chain := c, position := p } :: nodeRefsAt rest
  | _ => []

/-- The points of a SET_CURVE payload after its count byte (11.6). -/
def pointsAt : List Byte → List RawPoint
  | a :: b :: c :: d :: rest => { lux := a ++ b, level := c ++ d } :: pointsAt rest
  | _ => []

/-- The steps of a LOAD_STEPS payload after its first two bytes (11.3). -/
def stepsAt : List Byte → List RawStep
  | k :: b1 :: b2 :: b3 :: b4 :: b5 :: rest =>
    { kind := k, b1 := b1, b2 := b2, b3 := b3, b4 := b4, b5 := b5 } :: stepsAt rest
  | _ => []

/-- The coefficients and currents of a SET_BIN payload after its bin byte (11.6). -/
def binAt (p : List Byte) : RawBin :=
  { c00 := wordAt p 1, c01 := wordAt p 3, c02 := wordAt p 5, c10 := wordAt p 7, c11 := wordAt p 9, c12 := wordAt p 11
    c20 := wordAt p 13, c21 := wordAt p 15, c22 := wordAt p 17, i0 := wordAt p 19, i1 := wordAt p 21
    i2 := wordAt p 23 }

/-- The fields of a CONFIGURE_CHAIN payload after its chain byte (11.6). -/
def chainConfigAt (p : List Byte) : RawChainConfig :=
  { mask := byteAt p 1, enabled := byteAt p 2, expected := byteAt p 3, ratePolicy := byteAt p 4, rejoin := byteAt p 5
    retryLimit := byteAt p 6, budget := wordAt p 7, restoreInterval := wordAt p 9 }

/-! ## The table of 11.6 -/

/-- A row of 11.6: the lengths that a command accepts in its unguarded form, and the command that its payload spells. -/
structure CommandRow where
  accepts : Nat → Bool
  command : Header → List Byte → Instr

/-- A command of one length. -/
def fixedRow (n : Nat) (command : Header → List Byte → Instr) : CommandRow :=
  { accepts := fun l => l == n, command := command }

/-- A command of a fixed part and up to `most` parts of `size` bytes. -/
def listRow (fixed size most : Nat) (command : Header → List Byte → Instr) : CommandRow :=
  { accepts := fun l => decide (fixed ≤ l ∧ l ≤ fixed + size * most) && (l - fixed) % size == 0, command := command }

/-- The row of a command code (11.6); none for a code that names no command. -/
def commandRow (code : Byte) : Option CommandRow :=
  match code.toNat with
  | 0x00 => some (fixedRow 0 fun h _ => .nop h)
  | 0x01 => some (fixedRow 0 fun h _ => .identify h)
  | 0x02 => some (fixedRow 0 fun h _ => .softReset h)
  | 0x08 => some (fixedRow 0 fun h _ => .readNotices h)
  | 0x09 => some (fixedRow 0 fun h _ => .ackOldest h)
  | 0x0A => some (fixedRow 3 fun h p => .ackMatch h (byteAt p 0) (wordAt p 1))
  | 0x0B => some (fixedRow 0 fun h _ => .ackAll h)
  | 0x0C => some (fixedRow 2 fun h p => .setNoticeMask h (wordAt p 0))
  | 0x10 => some (fixedRow 34 fun h p => .postCue h (descriptorAt p 0))
  | 0x11 => some (fixedRow 35 fun h p => .placeCue h (byteAt p 0) (descriptorAt p 1))
  | 0x12 => some (fixedRow 38 fun h p => .modifyCue h (wordAt p 0) (wordAt p 2) (descriptorAt p 4))
  | 0x13 => some (fixedRow 3 fun h p => .retireCue h (wordAt p 0) (byteAt p 2))
  | 0x14 => some (fixedRow 2 fun h p => .retireOwner h (byteAt p 0) (byteAt p 1))
  | 0x15 => some {
      accepts := fun l => l == 2 || l == 4
      command := fun h p => .refreshCue h (wordAt p 0) (if p.length = 2 then none else some (wordAt p 2)) }
  | 0x16 => some (fixedRow 2 fun h p => .readCue h (wordAt p 0))
  | 0x20 => some (fixedRow 8 fun h p =>
      .setPalette h (byteAt p 0) (wordAt p 1) (wordAt p 3) (wordAt p 5) (byteAt p 7))
  | 0x21 => some (fixedRow 1 fun h p => .clearPalette h (byteAt p 0))
  | 0x22 => some (fixedRow 4 fun h p => .setSignals h (wordAt p 0) (wordAt p 2))
  | 0x28 => some (listRow 1 2 123 fun h p => .mapZone h (byteAt p 0) (nodeRefsAt (p.drop 1)))
  | 0x29 => some (fixedRow 3 fun h p => .setZoneTrim h (byteAt p 0) (wordAt p 1))
  | 0x2A => some (fixedRow 2 fun h p => .holdZone h (wordAt p 0))
  | 0x2B => some (fixedRow 2 fun h p => .releaseZone h (wordAt p 0))
  | 0x2C => some (fixedRow 2 fun h p => .readZone h (byteAt p 0) (byteAt p 1))
  | 0x2D => some (fixedRow 2 fun h p => .dropWatch h (byteAt p 0) (byteAt p 1))
  | 0x30 => some (fixedRow 1 fun h p => .setFramePeriod h (byteAt p 0))
  | 0x31 => some (fixedRow 2 fun h p => .setLux h (wordAt p 0))
  | 0x32 => some (fixedRow 2 fun h p => .setMaster h (wordAt p 0))
  | 0x33 => some (listRow 1 4 61 fun h p => .setCurve h (byteAt p 0) (pointsAt (p.drop 1)))
  | 0x34 => some (fixedRow 2 fun h p => .setSlew h (wordAt p 0))
  | 0x35 => some (fixedRow 25 fun h p => .setBin h (byteAt p 0) (binAt p))
  | 0x36 => some (fixedRow 4 fun h p => .setThermal h (wordAt p 0) (wordAt p 2))
  | 0x40 => some (fixedRow 11 fun h p => .configureChain h (byteAt p 0) (chainConfigAt p))
  | 0x41 => some (fixedRow 1 fun h p => .startChain h (byteAt p 0))
  | 0x42 => some (fixedRow 1 fun h p => .stopChain h (byteAt p 0))
  | 0x43 => some (fixedRow 1 fun h p => .restartChain h (byteAt p 0))
  | 0x44 => some (fixedRow 2 fun h p => .rejoinNode h (byteAt p 0) (byteAt p 1))
  | 0x45 => some (fixedRow 2 fun h p => .readChain h (byteAt p 0) (byteAt p 1))
  | 0x50 => some (fixedRow 35 fun h p => .loadTemplate h (byteAt p 0) (descriptorAt p 1))
  | 0x51 => some (fixedRow 1 fun h p => .clearTemplate h (byteAt p 0))
  | 0x52 => some (listRow 2 6 16 fun h p => .loadSteps h (byteAt p 0) (byteAt p 1) (stepsAt (p.drop 2)))
  | 0x53 => some (fixedRow 3 fun h p => .finishSequence h (byteAt p 0) (byteAt p 1) (byteAt p 2))
  | 0x54 => some (fixedRow 1 fun h p => .clearSequence h (byteAt p 0))
  | 0x55 => some (fixedRow 1 fun h p => .startSequence h (byteAt p 0))
  | 0x56 => some (fixedRow 1 fun h p => .abortSequence h (byteAt p 0))
  | 0x57 => some (fixedRow 2 fun h p => .readSequence h (byteAt p 0) (byteAt p 1))
  | 0x60 => some (fixedRow 0 fun h _ => .goDormant h)
  | 0x61 => some (fixedRow 0 fun h _ => .goStandby h)
  | 0x62 => some (fixedRow 0 fun h _ => .goLit h)
  | 0x63 => some (fixedRow 7 fun h p => .setPowerTimes h (byteAt p 0) (wordAt p 1) (wordAt p 3) (wordAt p 5))
  | 0x64 => some (fixedRow 2 fun h p => .setDarkInterval h (wordAt p 0))
  | 0x65 => some (fixedRow 1 fun h p => .armWelcome h (byteAt p 0))
  | _ => none

/-! ## A frame -/

/-- The client of the client and flags byte (11.1). -/
def clientOf (flags : Byte) : BitVec 3 := flags.extractLsb' 0 3

/-- Whether the GUARDED flag is set (11.1). -/
def guardedOf (flags : Byte) : Bool := flags.getLsbD 3

/-- The three guard bytes that open the payload of a GUARDED frame (11.1, R197); no guard where they do not fit. -/
def guardAt (flags : Byte) (payload : List Byte) : Option (Option Guard × List Byte) :=
  if guardedOf flags then
    match payload with
    | a :: b :: c :: rest => some (some { slot := a, gen := b, mode := c }, rest)
    | _ => none
  else some (none, payload)

/-- The command of a frame whose code has a row, or none when its payload length is not accepted (R197). -/
def commandOf (row : CommandRow) (flags tag : Byte) (payload : List Byte) : Option Instr :=
  match guardAt flags payload with
  | none => none
  | some (g, rest) =>
    if row.accepts rest.length then
      some (row.command { client := clientOf flags, reserved := flags.extractLsb' 4 4, tag := tag, guard := g } rest)
    else none

end Sys2Proof
end

