-- ==== Sys2Proof/Machine/State.lean ====
section
/-! DEFINITION. The state of the block: every store, register, counter, timer and pin that the spec gives it, the queue of
the commands that wait, and the state after device reset. -/

namespace Sys2Proof.Machine

open Sys2Proof

/-! ## Why a step can stop -/

/-- The manual gives the block no fault that stops it (R186: a refusal is a status), so there is no constructor. -/
inductive Fault where
  deriving DecidableEq, Repr

/-- Why a step has no meaning. -/
inductive Refusal where
  /-- Raised by `exec`'s arm of a command that the model gives no meaning yet; safe, since nothing is claimed of it. -/
  | notModelled (mnemonic : String)
  deriving DecidableEq, Repr

/-! ## Cues (chapters 1 and 2) -/

/-- The layers, lowest first (R16). -/
inductive Layer where
  | foundation | theme | accent | alert
  deriving DecidableEq, Repr

/-- A colour; components 0 to 4095. -/
structure Rgb where
  r : Nat
  g : Nat
  b : Nat
  deriving DecidableEq, Repr

inductive ColourSource where
  | direct (c : Rgb)
  | palette (entry : Fin 32)
  deriving DecidableEq, Repr

inductive Direction where
  | forward | reverse
  deriving DecidableEq, Repr

/-- An effect with its parameters (section 1.2); times in milliseconds, the floor in permille, the edge in nodes. -/
inductive Effect where
  | solid
  | pulse (period floor offset : Nat)
  | sweep (duration edge : Nat) (dir : Direction)
  | gradient (dir : Direction)
  deriving DecidableEq, Repr

/-- A gate (R43): a signal, and the value of the signal that opens it (TRUE under OPEN_WHEN_TRUE). -/
structure Gate where
  signal   : Fin 16
  openWhen : Bool
  deriving DecidableEq, Repr

/-- What a posting supplies (section 1.2), as stored after clamping. Times in milliseconds; bit n of `zones` is zone n. -/
structure Descriptor where
  layer     : Layer
  priority  : Nat
  zones     : BitVec 16
  a         : ColourSource
  b         : Option ColourSource
  effect    : Effect
  intensity : Nat
  fadeIn    : Nat
  fadeOut   : Nat
  lifetime  : Option Nat
  gate      : Option Gate
  deriving DecidableEq, Repr

/-- The state of a cue with the fields that the state has (R7, R10): the time into fade, and in FADING_OUT the exit fade
time and the fade-out start envelope. -/
inductive Phase where
  | fadingIn (t : Nat)
  | steady
  | fadingOut (t exit start : Nat)
  deriving DecidableEq, Repr

/-- The gate fields of a gated cue (R43); `opened` stands for the target 1000. -/
structure GateRun where
  opened  : Bool
  start   : Nat
  elapsed : Nat
  deriving DecidableEq, Repr

/-- The runner tag (R3). -/
structure RunnerTag where
  runner : Fin 2
  label  : Fin 8
  deriving DecidableEq, Repr

structure Cue where
  owner     : BitVec 3
  tag       : Option RunnerTag
  desc      : Descriptor
  phase     : Phase
  clock     : Nat
  remaining : Option Nat
  gateRun   : Option GateRun
  deriving DecidableEq, Repr

/-- A cue slot (R1, R2): its generation, and its cue when it is live. -/
structure CueSlot where
  gen : BitVec 10
  cue : Option Cue
  deriving DecidableEq, Repr

/-- The name of a live cue (R2). -/
structure Handle where
  slot : Fin 48
  gen  : BitVec 10
  deriving DecidableEq, Repr

/-- The Cue Table. The lists of R5 and R6 hold slot numbers: the generation of a handle on them is its slot's. -/
structure CueTable where
  slots     : Vector CueSlot 48
  postOrder : List (Fin 48)
  retiring  : List (Fin 48)
  timeBase  : Nat
  deriving DecidableEq, Repr

/-- A palette entry (R33): UNDEFINED when `colour` is absent; `staged` waits for the last runner to stop. -/
structure PaletteEntry where
  colour : Option Rgb
  staged : Option Rgb
  deriving DecidableEq, Repr

/-! ## Zones and watches (chapters 3 and 4) -/

/-- A lamp: a chain and a position 1 to 60. -/
structure NodeRef where
  chain    : Fin 4
  position : Nat
  deriving DecidableEq, Repr

/-- A premultiplied colour with its coverage. -/
structure Comp where
  colour   : Rgb
  coverage : Nat
  deriving DecidableEq, Repr

/-- The hold flag and the frozen composite in one (R55): absent while the flag is clear, pending, then captured. -/
inductive Hold where
  | clear
  | pending
  | captured (composite : List Comp)
  deriving DecidableEq, Repr

structure Zone where
  nodes : List NodeRef
  trim  : Nat
  hold  : Hold
  count : BitVec 16
  deriving DecidableEq, Repr

structure WatchEntry where
  client : BitVec 3
  zone   : Fin 16
  deriving DecidableEq, Repr

structure WatchSlot where
  gen   : BitVec 8
  entry : Option WatchEntry
  deriving DecidableEq, Repr

structure WatchTable where
  slots : Vector WatchSlot 8
  order : List (Fin 8)
  deriving DecidableEq, Repr

/-! ## LampRing chains (chapter 7) -/

inductive RatePolicy where
  | auto | slowOnly
  deriving DecidableEq, Repr

inductive Rejoin where
  | auto | manual | halt
  deriving DecidableEq, Repr

inductive Rate where
  | fast | slow
  deriving DecidableEq, Repr

inductive NodeState where
  | absent | online | suspect | offline | unreachable
  deriving DecidableEq, Repr

/-- The flags of a node record (R120). -/
structure NodeFlags where
  openRed   : Bool
  openGreen : Bool
  openBlue  : Bool
  short     : Bool
  overheat  : Bool
  deriving DecidableEq, Repr

structure Node where
  state       : NodeState
  bin         : Fin 16
  badReplies  : Nat
  goodRun     : Nat
  temperature : Int
  flags       : NodeFlags
  deriving DecidableEq, Repr

/-- One entry of a duty set (R116). -/
inductive Duty where
  | live (r g b : Nat)
  | blank
  deriving DecidableEq, Repr

structure DutyEntry where
  position : Nat
  duty     : Duty
  deriving DecidableEq, Repr

/-- A slot that was sent in a DUTY frame, with the position of the node it is for. -/
structure SentSlot where
  position : Nat
  bits     : BitVec 48
  deriving DecidableEq, Repr

/-- A DUTY frame on the loop of a chain in RING: the set it carries and the slots it was sent with (R131). -/
structure DutyFlight where
  set   : List DutyEntry
  slots : List SentSlot
  deriving DecidableEq, Repr

/-- The probe of a LOCATE that is on the loop (R135): the whole loop, from OUT with a hop count, or from IN with a hop
count once the OUT reach is known. -/
inductive LocateProbe where
  | whole
  | fromOut (hop : Nat)
  | fromIn (outReach hop : Nat)
  deriving DecidableEq, Repr

/-- What one side of a SPLIT chain is doing (R139, R140). -/
inductive Side where
  | idle
  | half (slots : List SentSlot)
  | relocating (hop : Nat) (second : Bool)
  deriving DecidableEq, Repr

/-- The operation of a SPLIT chain (R138, R139, R141): the enumeration of a side, the driving of both, or the step of a
restore attempt that is on the loop. -/
inductive SplitPhase where
  | counting (e : End) (failures : Nat)
  | identifying (e : End) (sent lost : Nat) (unread : List Nat)
  | driving (out inn : Side) (carried : List DutyEntry)
  | restoreProbe
  | restoreCount
  | restoreIdent
  deriving DecidableEq, Repr

/-- The restore timer (R141). Expired means that the next transmission of the chain is a restore attempt. -/
inductive RestoreTimer where
  | stopped
  | running (interval : Nat)
  | expired
  deriving DecidableEq, Repr

/-- A SPLIT chain: the reach of each side, its operation and its restore timer. -/
structure Split where
  outReach : Nat
  inReach  : Nat
  phase    : SplitPhase
  restore  : RestoreTimer
  deriving DecidableEq, Repr

/-- The state of a chain (R119) with what the operation under way in that state holds. STARTING is `counting` and
`identifying`. -/
inductive ChainMode where
  | off
  | counting (failures : Nat)
  | identifying (sent lost : Nat) (unread : List Nat)
  | ring (duty : Option DutyFlight)
  | locating (probe : LocateProbe) (second : Bool) (fromRing : Bool)
  | split (s : Split)
  | failed
  deriving DecidableEq, Repr

/-- The six states of a chain record (R119). -/
inductive ChainState where
  | off | starting | ring | locating | split | failed
  deriving DecidableEq, Repr

def ChainMode.state : ChainMode → ChainState
  | .off => .off
  | .counting _ => .starting
  | .identifying _ _ _ => .starting
  | .ring _ => .ring
  | .locating _ _ _ => .locating
  | .split _ => .split
  | .failed => .failed

/-- The break of a chain record (R119): the last position reached from OUT and the first reached from IN. -/
structure Break where
  lastOut : Nat
  firstIn : Nat
  deriving DecidableEq, Repr

/-- A frame put on a port of a chain. -/
structure TxFrame where
  sender : End
  frame  : RingFrame
  deriving DecidableEq, Repr

/-- A chain record with its node table and mailbox (R119, R120, R117). `ringDone` is R137's "a RING enumeration has taken
place since this start"; `sent` is the model's own record of what the chain has sent, newest first (log 26). -/
structure Chain where
  enabled         : Bool
  expected        : Nat
  ratePolicy      : RatePolicy
  rejoin          : Rejoin
  retryLimit      : Nat
  budget          : Nat
  restoreInterval : Nat
  rate            : Rate
  found           : Nat
  brk             : Option Break
  runOut          : Nat
  runIn           : Nat
  retries         : Nat
  switches        : Nat
  mode            : ChainMode
  ringDone        : Bool
  nodes           : Vector Node 60
  mailbox         : Option (List DutyEntry)
  sent            : List TxFrame
  deriving DecidableEq, Repr

/-! ## Composer and Output Conditioner (chapters 5 and 6) -/

/-- A calibration bin (R98): three rows of three coefficients, and the full-scale current of each channel. -/
structure Bin where
  red     : Int × Int × Int
  green   : Int × Int × Int
  blue    : Int × Int × Int
  current : Nat × Nat × Nat
  deriving DecidableEq, Repr

/-- The per-chain fields of the Output Conditioner (R98). -/
structure ChainOutput where
  thermal  : Nat
  budget   : Nat
  estimate : Nat
  deriving DecidableEq, Repr

structure CurvePoint where
  lux   : Nat
  level : Nat
  deriving DecidableEq, Repr

structure Conditioner where
  lux      : Nat
  curve    : List CurvePoint
  master   : Nat
  slew     : Nat
  level    : Nat
  bins     : Vector Bin 16
  knee     : Int
  limit    : Int
  perChain : Vector ChainOutput 4
  deriving DecidableEq, Repr

/-- What a frame reads of a chain (R99). -/
structure ChainSnapshot where
  state  : ChainState
  budget : Nat
  nodes  : Vector Node 60
  deriving DecidableEq, Repr

/-- The snapshot of a composition frame (R83, R99). `level` is the global level after this frame's move (R102) and
`envelope` the power envelope. -/
structure Snapshot where
  cues     : CueTable
  palette  : Vector PaletteEntry 32
  zones    : Vector Zone 16
  level    : Nat
  envelope : Nat
  bins     : Vector Bin 16
  knee     : Int
  limit    : Int
  chains   : Vector ChainSnapshot 4
  deriving DecidableEq, Repr

/-- The frame in flight: its snapshot, the zones whose latest composite was discarded since (R85) and the chains that
have left the state they held at the snapshot (R117). -/
structure Frame where
  snap      : Snapshot
  discarded : BitVec 16
  left      : BitVec 4
  deriving DecidableEq, Repr

/-- The Composer. `timer` is absent while the frame timer is stopped, and otherwise the interval that is scheduled, 0 for
the expiry at the entry to LIT (R80, R81). -/
structure Composer where
  period : Nat
  timer  : Option Nat
  latest : Vector (Option (List Comp)) 16
  frame  : Option Frame
  deriving DecidableEq, Repr

/-! ## Sequences (chapter 8) -/

inductive FadeMode where
  | fade | now
  deriving DecidableEq, Repr

/-- The on-timeout action of a WAIT_SIGNAL (R148). -/
inductive TimeoutAction where
  | goOn
  | abort
  | goto (target : Nat)
  deriving DecidableEq, Repr

inductive Disposition where
  | keep | retire | hold
  deriving DecidableEq, Repr

/-- A step as stored (R148); times in milliseconds, a timeout of 0 for none. -/
inductive Step where
  | post (template : Fin 24) (label : Fin 8)
  | retire (label : Fin 8) (mode : FadeMode)
  | modify (label : Fin 8) (intensity : Nat)
  | wait (duration : Nat)
  | waitSignal (signal : Fin 16) (value : Bool) (timeout : Nat) (action : TimeoutAction)
  | repeatFrom (target count : Nat)
  | finish (disposition : Disposition)
  deriving DecidableEq, Repr

/-- The state of a sequence slot (R146), RUNNING with the runner it names. -/
inductive SlotState where
  | empty
  | loading
  | ready
  | running (runner : Fin 2)
  deriving DecidableEq, Repr

structure SeqSlot where
  state   : SlotState
  rank    : Nat
  count   : Nat
  steps   : Vector (Option Step) 32
  written : BitVec 32
  deriving DecidableEq, Repr

inductive RunnerState where
  | idle | timedWait | signalWait
  deriving DecidableEq, Repr

/-- Who started a runner (R151). -/
inductive Starter where
  | client (c : BitVec 3)
  | wake
  deriving DecidableEq, Repr

/-- An active loop counter (R151): the index of its REPEAT and the passes that remain. -/
structure LoopCounter where
  index     : Nat
  remaining : Nat
  deriving DecidableEq, Repr

structure Runner where
  state     : RunnerState
  slot      : Option (Fin 6)
  startedBy : Option Starter
  order     : Option Nat
  index     : Nat
  labels    : Vector (Option Handle) 8
  loop      : Option LoopCounter
  posted    : BitVec 16
  wait      : Option Nat
  deriving DecidableEq, Repr

structure Sequencer where
  templates : Vector (Option Descriptor) 24
  slots     : Vector SeqSlot 6
  runners   : Vector Runner 2
  nextOrder : Nat
  deriving DecidableEq, Repr

/-! ## Power (chapter 9) -/

inductive PowerState where
  | dormant | waking | standby | powering | lit | dimming
  deriving DecidableEq, Repr

/-- The dimming destination (R170). -/
inductive Destination where
  | standby | dormant
  deriving DecidableEq, Repr

/-- The path cause (R170). -/
inductive PathCause where
  | command | wake
  deriving DecidableEq, Repr

/-- The Power Controller's fields (R170), the wake delay under way and the supply settle timer under way. -/
structure Power where
  state          : PowerState
  wakeDelay      : Nat
  settleTime     : Nat
  fadeTime       : Nat
  envStart       : Nat
  envElapsed     : Nat
  darkInterval   : Nat
  darkRemaining  : Option Nat
  welcomeArm     : Option (Fin 6)
  continueIntent : Bool
  pendingWake    : Bool
  dest           : Option Destination
  cause          : Option PathCause
  awaited        : BitVec 4
  wakeTimer      : Option Nat
  settle         : Option Nat
  deriving DecidableEq, Repr

/-! ## Notices and replies (chapter 10) -/

/-- The kinds of notice, in the order of R192's table. -/
inductive NoticeKind where
  | restarted | powerState | chainState | nodeFault | countMismatch | stepTimeout | sequenceEnd | cueEvicted
  | budgetLimit | thermalLimit
  deriving DecidableEq, Repr

inductive Subject where
  | none
  | standby
  | lit
  | chain (c : Fin 4)
  | node (n : NodeRef)
  | slot (s : Fin 6)
  | client (c : BitVec 3)
  deriving DecidableEq, Repr

inductive PowerCause where
  | woken | abandoned | dimmed | command | wake | resumed
  deriving DecidableEq, Repr

inductive ChainEvent where
  | rateSlow
  | locating
  | split (b : Break)
  | restored
  | failed
  deriving DecidableEq, Repr

inductive NodeFault where
  | offline | openRed | openGreen | openBlue | short | overheat
  deriving DecidableEq, Repr

inductive EndCause where
  | done | aborted | timeout | preempted | power | notLoaded | refusedBusy
  deriving DecidableEq, Repr

/-- The detail of a notice (R192). -/
inductive Detail where
  | device
  | soft
  | power (c : PowerCause)
  | chain (e : ChainEvent)
  | node (f : NodeFault)
  | ended (c : EndCause)
  | number (n : Nat)
  deriving DecidableEq, Repr

structure Notice where
  kind    : NoticeKind
  subject : Subject
  detail  : Detail
  count   : Nat
  deriving DecidableEq, Repr

structure Notices where
  list   : List Notice
  missed : Nat
  mask   : BitVec 10
  deriving DecidableEq, Repr

/-- The status codes, in the order of R186's table. -/
inductive Status where
  | ok | clamped | busy | badValue | badClient | denied | noRoom | notFound | stale | wrongState | inUse | badCheck
  | badLength | unknown | notReady
  deriving DecidableEq, Repr

/-- The conditions of FINISH_SEQUENCE in the order of R149's table. -/
inductive SequenceFault where
  | notWritten | finalNotEnd | targetNotBelow | nestedRepeat | rangeWithoutWait | gotoBeyond
  deriving DecidableEq, Repr

/-- The capacities that IDENTIFY replies (R191). -/
structure Identity where
  part : Nat
  revision : Nat
  cueSlots : Nat
  pinnedSlots : Nat
  paletteEntries : Nat
  signals : Nat
  zones : Nat
  nodesPerZone : Nat
  watches : Nat
  chains : Nat
  nodesPerChain : Nat
  bins : Nat
  templates : Nat
  sequenceSlots : Nat
  stepsPerSlot : Nat
  runners : Nat
  notices : Nat
  deriving DecidableEq, Repr

/-- A cue that READ_ZONE reports for a layer, with its VOID flag (R66). -/
structure LayerCue where
  handle : Handle
  void   : Bool
  deriving DecidableEq, Repr

/-- The winner and the outgoing cue of a layer (R66). -/
structure LayerReport where
  winner   : Option LayerCue
  outgoing : Option LayerCue
  deriving DecidableEq, Repr

/-- A watch id (R68). -/
structure WatchId where
  slot : Fin 8
  gen  : BitVec 8
  deriving DecidableEq, Repr

/-- What READ_CUE replies (R25). -/
structure CueReport where
  handle       : Handle
  cue          : Cue
  timeIntoFade : Nat
  fade         : Nat
  gate         : Nat
  gateTarget   : Nat
  void         : Bool
  deriving DecidableEq, Repr

/-- What READ_ZONE replies (R66, R69). -/
structure ZoneReport where
  nodes     : List NodeRef
  trim      : Nat
  held      : Bool
  captured  : Bool
  count     : BitVec 16
  layers    : List LayerReport
  coverages : List Nat
  watch     : Option WatchId
  deriving DecidableEq, Repr

/-- The chain record of R119 as a reply carries it. -/
structure ChainRecord where
  enabled         : Bool
  expected        : Nat
  ratePolicy      : RatePolicy
  rejoin          : Rejoin
  retryLimit      : Nat
  budget          : Nat
  restoreInterval : Nat
  state           : ChainState
  rate            : Rate
  found           : Nat
  brk             : Option Break
  runOut          : Nat
  runIn           : Nat
  retries         : Nat
  switches        : Nat
  deriving DecidableEq, Repr

/-- A node record with its position (R128). -/
structure NodeReport where
  position : Nat
  node     : Node
  deriving DecidableEq, Repr

/-- What READ_CHAIN replies (R128). -/
structure ChainReport where
  record  : ChainRecord
  output  : ChainOutput
  waiting : Bool
  nodes   : List NodeReport
  deriving DecidableEq, Repr

/-- What READ_SEQUENCE replies of a slot in RUNNING (R167). -/
structure RunnerReport where
  number : Fin 2
  runner : Runner
  deriving DecidableEq, Repr

/-- What READ_SEQUENCE replies (R167). -/
structure SequenceReport where
  state   : SlotState
  rank    : Nat
  count   : Nat
  written : Option (BitVec 32)
  steps   : List (Option Step)
  runner  : Option RunnerReport
  deriving DecidableEq, Repr

/-- The payload of a reply, as data (log 5). -/
inductive Payload where
  | empty
  | identity (i : Identity)
  | notices (missed : Nat) (mask : BitVec 10) (list : List Notice)
  | acknowledged (removed : Option Notice) (left missed : Nat)
  | handle (h : Handle)
  | count (n : Nat)
  | cue (r : CueReport)
  | palette (staged : Bool)
  | signals (values : BitVec 16)
  | inUse (entry : NodeRef) (zone : Fin 16)
  | zone (r : ZoneReport)
  | period (ms : Nat)
  | level (curve target current : Nat)
  | chainRecord (r : ChainRecord)
  | chain (r : ChainReport)
  | written (set : BitVec 32)
  | sequenceFault (fault : SequenceFault) (index : Nat)
  | runner (r : Fin 2)
  | sequence (r : SequenceReport)
  | power (state : PowerState) (envelope : Nat) (darkRemaining : Option Nat)
  deriving DecidableEq, Repr

/-- A reply frame (R184). -/
structure Reply where
  status  : Status
  tag     : Byte
  payload : Payload
  deriving DecidableEq, Repr

/-- What SDO shifted out in the last chip-select period (R184): the frame that went first, none for zero bytes alone, and how
many whole bytes the host clocked. -/
structure Shift where
  frame   : Option Reply
  clocked : Nat
  deriving DecidableEq, Repr

/-! ## The state -/

/-- The whole part. -/
structure State where
  cues        : CueTable
  palette     : Vector PaletteEntry 32
  signals     : BitVec 16
  zones       : Vector Zone 16
  watches     : WatchTable
  composer    : Composer
  cond        : Conditioner
  chains      : Vector Chain 4
  seq         : Sequencer
  power       : Power
  notices     : Notices
  reply       : Reply
  sdo         : Shift
  resetLow    : Bool
  noticeLow   : Bool
  supplyEn    : Bool
  freeCounter : Nat
  pending     : List Instr
  deriving DecidableEq, Repr

/-! ## The state after device reset -/

/-- R120: a cleared node record. -/
def Node.cleared : Node :=
  { state := .absent, bin := 0, badReplies := 0, goodRun := 0, temperature := -40,
    flags := { openRed := false, openGreen := false, openBlue := false, short := false, overheat := false } }

/-- R119, R144. -/
def Chain.reset : Chain :=
  { enabled := false, expected := 0, ratePolicy := .auto, rejoin := .auto, retryLimit := 3, budget := 1000,
    restoreInterval := 1000, rate := .fast, found := 0, brk := none, runOut := 0, runIn := 0, retries := 0,
    switches := 0, mode := .off, ringDone := false, nodes := Vector.replicate 60 Node.cleared, mailbox := none,
    sent := [] }

/-- R98: the identity matrix in units of 1/1024, and 20.0 mA on each channel. -/
def Bin.reset : Bin :=
  { red := (1024, 0, 0), green := (0, 1024, 0), blue := (0, 0, 1024), current := (200, 200, 200) }

/-- R118: the per-chain fields at their initial values. -/
def ChainOutput.initial : ChainOutput := { thermal := 1000, budget := 1000, estimate := 0 }

/-- R98. -/
def Conditioner.reset : Conditioner :=
  { lux := 0, curve := [{ lux := 0, level := 300 }, { lux := 1000, level := 1000 }], master := 1000, slew := 20,
    level := 0, bins := Vector.replicate 16 Bin.reset, knee := 70, limit := 100,
    perChain := Vector.replicate 4 ChainOutput.initial }

/-- R151: an IDLE runner. -/
def Runner.idle : Runner :=
  { state := .idle, slot := none, startedBy := none, order := none, index := 0, labels := Vector.replicate 8 none,
    loop := none, posted := 0, wait := none }

/-- R146: an EMPTY slot. -/
def SeqSlot.empty : SeqSlot :=
  { state := .empty, rank := 0, count := 0, steps := Vector.replicate 32 none, written := 0 }

/-- R29. -/
def CueTable.reset : CueTable :=
  { slots := Vector.replicate 48 { gen := 0, cue := none }, postOrder := [], retiring := [], timeBase := 0 }

/-- R55. -/
def Zone.reset : Zone := { nodes := [], trim := 1000, hold := .clear, count := 0 }

/-- R170. -/
def Power.reset : Power :=
  { state := .standby, wakeDelay := 20, settleTime := 10, fadeTime := 300, envStart := 0, envElapsed := 0,
    darkInterval := 0, darkRemaining := none, welcomeArm := none, continueIntent := false, pendingWake := false,
    dest := none, cause := none, awaited := 0, wakeTimer := none, settle := none }

/-- The part after device reset (R189): every block at its value after device reset, in STANDBY. -/
def State.reset : State :=
  { cues := CueTable.reset
    palette := Vector.replicate 32 { colour := none, staged := none }
    signals := 0
    zones := Vector.replicate 16 Zone.reset
    watches := { slots := Vector.replicate 8 { gen := 0, entry := none }, order := [] }
    composer := { period := 20, timer := none, latest := Vector.replicate 16 none, frame := none }
    cond := Conditioner.reset
    chains := Vector.replicate 4 Chain.reset
    seq := { templates := Vector.replicate 24 none, slots := Vector.replicate 6 SeqSlot.empty,
             runners := Vector.replicate 2 Runner.idle, nextOrder := 0 }
    power := Power.reset
    notices := { list := [{ kind := .restarted, subject := .none, detail := .device, count := 1 }], missed := 0,
                 mask := 0 }
    reply := { status := .ok, tag := 0, payload := .empty }
    sdo := { frame := none, clocked := 0 }
    resetLow := false
    noticeLow := true
    supplyEn := false
    freeCounter := 0
    pending := [] }

end Sys2Proof.Machine
end

