-- ==== Sys2Proof/Machine/Envelope.lean ====
section
/-! DEFINITION. The levels that a cue and the part have at a moment: fade envelope (R53), gate envelope (R44), effect
factor and colour (R49 to R52), weight (R54) and power envelope (R171). -/

namespace Sys2Proof.Machine

/-- R53. -/
def Cue.fadeEnvelope (c : Cue) : Nat :=
  match c.phase with
  | .fadingIn t => 1000 * t / c.desc.fadeIn
  | .steady => 1000
  | .fadingOut t exit start => start * (exit - t) / exit

/-- The ramp of R44 and R171: the full range over `time`, from `start` toward 1000 or toward 0. -/
def ramp (up : Bool) (start elapsed time : Nat) : Nat :=
  match up with
  | true => if time = 0 then 1000 else min 1000 (start + 1000 * elapsed / time)
  | false => if time = 0 then 0 else start - 1000 * elapsed / time

/-- R44; 1000 for an ungated cue (R43). -/
def Cue.gateEnvelope (c : Cue) : Nat :=
  match c.gateRun with
  | none => 1000
  | some g => ramp g.opened g.start g.elapsed (if g.opened then c.desc.fadeIn else c.desc.fadeOut)

/-- The gate target (R43). An ungated cue has no gate fields; that it reports the target 1000 beside its envelope of 1000 is the
model's choice (DESIGN CHOICE, log 7). -/
def Cue.gateTarget (c : Cue) : Nat :=
  match c.gateRun with
  | none => 1000
  | some g => if g.opened then 1000 else 0

/-- The time into fade that READ_CUE reports; 0 in STEADY (R7). -/
def Cue.timeIntoFade (c : Cue) : Nat :=
  match c.phase with
  | .fadingIn t => t
  | .steady => 0
  | .fadingOut t _ _ => t

/-- Whether a gate is open at the signals `v` (R43). -/
def Gate.isOpen (g : Gate) (v : BitVec 16) : Bool := v.getLsbD g.signal == g.openWhen

/-- The node index that an effect counts from, under its direction (R51, R52). -/
def Direction.index (d : Direction) (k i : Nat) : Nat :=
  match d with
  | .forward => i
  | .reverse => k - 1 - i

/-- R50. -/
def pulseFactor (period floor offset clock : Nat) : Nat :=
  let half := period / 2
  let phase := (clock + offset) % period
  let distance := if phase < half then phase else period - phase
  floor + (1000 - floor) * distance / half

/-- R51, for the index after the direction. -/
def sweepFactor (duration edge clock k i : Nat) : Nat :=
  let front := 16 * k * min clock duration / duration
  let centre := 16 * i + 8
  if centre ≤ front then 1000
  else if 0 < edge ∧ centre - front < 16 * edge then 1000 * (16 * edge - (centre - front)) / (16 * edge)
  else 0

/-- The effect factor of node `i` of `k` at the clock (R49 to R52). -/
def Effect.factor (e : Effect) (clock k i : Nat) : Nat :=
  match e with
  | .solid => 1000
  | .pulse period floor offset => pulseFactor period floor offset clock
  | .sweep duration edge dir => sweepFactor duration edge clock k (dir.index k i)
  | .gradient _ => 1000

/-- One component of the blend of R52, step 2 and 3, for `a` in the role of A. -/
def blend (a b k i : Nat) : Nat :=
  if k ≤ 1 then a else (a * (k - 1 - i) + b * i) / (k - 1)

/-- The colour of node `i` of `k` from the colours of the two sources (R49, R52). -/
def Effect.colour (e : Effect) (a b : Rgb) (k i : Nat) : Rgb :=
  match e with
  | .gradient .forward => { r := blend a.r b.r k i, g := blend a.g b.g k i, b := blend a.b b.b k i }
  | .gradient .reverse => { r := blend b.r a.r k i, g := blend b.g a.g k i, b := blend b.b a.b k i }
  | _ => a

/-- R54, in the order of its floors. -/
def Cue.weight (c : Cue) (k i : Nat) : Nat :=
  c.desc.intensity * c.desc.effect.factor c.clock k i / 1000 * c.fadeEnvelope / 1000 * c.gateEnvelope / 1000

/-- R171. -/
def Power.envelope (p : Power) : Nat :=
  match p.state with
  | .lit => ramp true p.envStart p.envElapsed p.fadeTime
  | .dimming => ramp false p.envStart p.envElapsed p.fadeTime
  | _ => 0

end Sys2Proof.Machine
end

