-- ==== Sys2Proof/Machine/Flags.lean ====
section
/-! DEFINITION. The flags and lines that are derived: VOID (R39), eligibility (R47), the hysteresis of OVERHEAT (R109),
whether NOTICE_N is driven (R196), and in which power states a thing runs (chapter 9's table of states). -/

namespace Sys2Proof.Machine

/-- A colour source that names an UNDEFINED palette entry (R39); a staged value does not count. -/
def ColourSource.undefined (src : ColourSource) (pal : Vector PaletteEntry 32) : Bool :=
  match src with
  | .direct _ => false
  | .palette e => pal[e].colour.isNone

def Effect.isGradient : Effect → Bool
  | .gradient _ => true
  | _ => false

/-- R39. -/
def Cue.void (c : Cue) (pal : Vector PaletteEntry 32) : Bool :=
  c.desc.a.undefined pal || (c.desc.effect.isGradient && c.desc.b.any (·.undefined pal))

def Phase.isFadingOut : Phase → Bool
  | .fadingOut _ _ _ => true
  | _ => false

/-- R47. -/
def Cue.eligible (c : Cue) : Bool :=
  !c.phase.isFadingOut && !(c.gateRun.any (fun g => !g.opened) && c.gateEnvelope == 0)

/-- A cue touches a zone when its zone set holds it (R86). -/
def Cue.touches (c : Cue) (z : Fin 16) : Bool := c.desc.zones.getLsbD z

/-- R109: the OVERHEAT flag after a good reply with temperature `t`. -/
def overheatAfter (before : Bool) (t : Int) : Bool :=
  if before then decide (110 < t) else decide (125 ≤ t)

/-- The position of a kind in R192's table, which is its code and its mask bit (11.4). -/
def NoticeKind.code : NoticeKind → Fin 10
  | .restarted => 0
  | .powerState => 1
  | .chainState => 2
  | .nodeFault => 3
  | .countMismatch => 4
  | .stepTimeout => 5
  | .sequenceEnd => 6
  | .cueEvicted => 7
  | .budgetLimit => 8
  | .thermalLimit => 9

/-- R196: NOTICE_N is driven low while an unmasked notice waits or the missed count is above 0. -/
def Notices.drivesLine (n : Notices) : Bool :=
  n.list.any (fun x => !n.mask.getLsbD x.kind.code) || decide (0 < n.missed)

/-- R170: SUPPLY_EN is driven on in these states. -/
def PowerState.supplied : PowerState → Bool
  | .powering | .lit | .dimming => true
  | .dormant | .waking | .standby => false

/-- R8: the time base advances in these states. -/
def PowerState.timeRuns : PowerState → Bool
  | .standby | .powering | .lit | .dimming => true
  | .dormant | .waking => false

/-- R80: the frame timer runs in these states. -/
def PowerState.framesRun : PowerState → Bool
  | .lit | .dimming => true
  | .dormant | .waking | .standby | .powering => false

/-- A chain that receives duty sets (R116). -/
def ChainState.driven : ChainState → Bool
  | .ring | .split => true
  | .off | .starting | .locating | .failed => false

/-- A node that is driven (R100, R120). -/
def NodeState.driven : NodeState → Bool
  | .online | .suspect => true
  | .absent | .offline | .unreachable => false

/-- R151. -/
def RunnerState.active : RunnerState → Bool
  | .idle => false
  | .timedWait | .signalWait => true

/-- Whether any runner is active (R35, R166). -/
def Sequencer.anyActive (q : Sequencer) : Bool := q.runners.toList.any (·.state.active)

/-- Whether any cue is live (R179). -/
def CueTable.anyLive (t : CueTable) : Bool := t.slots.toList.any (·.cue.isSome)

/-- A slot 8 to 47 is transient (R1). -/
def transient (k : Fin 48) : Bool := decide (8 ≤ k.val)

end Sys2Proof.Machine
end

