-- ==== Sys2Proof/Machine/Compose.lean ====
section
/-! DEFINITION. Stages 1 to 5 of a composition frame (chapter 5): which cues light a zone, their contributions, the over
operation, the stacking of the layers and the trim. -/

namespace Sys2Proof.Machine

/-! ## Selection (R86 to R88) -/

/-- Whether the live cue in slot `k` lies in a layer, touches a zone and satisfies `p`. -/
def CueTable.has (t : CueTable) (z : Fin 16) (l : Layer) (p : Cue → Bool) (k : Fin 48) : Bool :=
  t.slots[k].cue.any fun c => c.desc.layer == l && c.touches z && p c

/-- The priority of the cue in a slot. -/
def CueTable.priority (t : CueTable) (k : Fin 48) : Nat := (t.slots[k].cue.map (·.desc.priority)).getD 0

/-- R87: the eligible cue of the highest priority, and of equals the one later in the post-order list. -/
def CueTable.winner (t : CueTable) (z : Fin 16) (l : Layer) : Option (Fin 48) :=
  (t.postOrder.filter (t.has z l Cue.eligible)).foldl (fun best k =>
    match best with
    | none => some k
    | some j => if t.priority k < t.priority j then some j else some k) none

/-- R88: of the layer's cues in FADING_OUT that touch the zone, the one latest on the retiring list. -/
def CueTable.outgoing (t : CueTable) (z : Fin 16) (l : Layer) : Option (Fin 48) :=
  (t.retiring.filter (t.has z l fun c => c.phase.isFadingOut)).getLast?

/-- The cue in a chosen slot. -/
def CueTable.chosen (t : CueTable) (k : Option (Fin 48)) : Option Cue := k.bind fun k => t.slots[k].cue

/-! ## Contributions (R89, R90) -/

def Rgb.map (f : Nat → Nat) (c : Rgb) : Rgb := { r := f c.r, g := f c.g, b := f c.b }

def Rgb.zip (f : Nat → Nat → Nat) (x y : Rgb) : Rgb := { r := f x.r y.r, g := f x.g y.g, b := f x.b y.b }

/-- Black. -/
def Rgb.black : Rgb := { r := 0, g := 0, b := 0 }

/-- The empty colour with coverage 0. -/
def Comp.clear : Comp := { colour := Rgb.black, coverage := 0 }

/-- The colour of a source that is defined (R38); an UNDEFINED one is never used (R90). -/
def ColourSource.read (src : ColourSource) (pal : Vector PaletteEntry 32) : Rgb :=
  match src with
  | .direct c => c
  | .palette e => pal[e].colour.getD Rgb.black

/-- The colour of a cue at node `i` of `k` (R48 to R52). -/
def Cue.colourAt (c : Cue) (pal : Vector PaletteEntry 32) (k i : Nat) : Rgb :=
  c.desc.effect.colour (c.desc.a.read pal) ((c.desc.b.getD c.desc.a).read pal) k i

/-- Stages 1 and 2 (R89, R90): the premultiplied contribution of a cue at node `i` of `k`. -/
def Cue.contribution (c : Cue) (pal : Vector PaletteEntry 32) (k i : Nat) : Comp :=
  if c.void pal then Comp.clear
  else { colour := (c.colourAt pal k i).map fun x => x * c.weight k i / 1000, coverage := c.weight k i }

/-- The contribution of a selected cue, empty for none (R92). -/
def contributionOf (c : Option Cue) (pal : Vector PaletteEntry 32) (k i : Nat) : Comp :=
  match c with
  | none => Comp.clear
  | some c => c.contribution pal k i

/-! ## Stacking (R91 to R93) -/

/-- R91. -/
def Comp.over (top bottom : Comp) : Comp :=
  { colour := top.colour.zip (fun t b => t + b * (1000 - top.coverage) / 1000) bottom.colour
    coverage := top.coverage + bottom.coverage * (1000 - top.coverage) / 1000 }

/-- The layers from bottom to top (R93). -/
def layersUp : List Layer := [.foundation, .theme, .accent, .alert]

/-- R92: the result of a layer at node `i` of `k`. -/
def layerResult (t : CueTable) (pal : Vector PaletteEntry 32) (z : Fin 16) (k i : Nat) (l : Layer) : Comp :=
  (contributionOf (t.chosen (t.winner z l)) pal k i).over (contributionOf (t.chosen (t.outgoing z l)) pal k i)

/-- R93: the composite of node `i` of `k`. -/
def compositeAt (t : CueTable) (pal : Vector PaletteEntry 32) (z : Fin 16) (k i : Nat) : Comp :=
  layersUp.foldl (fun below l => (layerResult t pal z k i l).over below) Comp.clear

/-- Stage 4 of a zone: live from its cues, or its frozen composite while it is held (R86, R94). -/
def Snapshot.composite (f : Snapshot) (z : Fin 16) : List Comp :=
  match f.zones[z].hold with
  | .captured c => c
  | _ => (List.range f.zones[z].nodes.length).map fun i =>
      compositeAt f.cues f.palette z f.zones[z].nodes.length i

/-! ## Trim (R95) -/

/-- A node's trimmed colour as it is passed to the Output Conditioner. -/
structure Record where
  node   : NodeRef
  colour : Rgb
  deriving DecidableEq, Repr

/-- Stage 5 of a zone (R95). -/
def Snapshot.records (f : Snapshot) (z : Fin 16) : List Record :=
  f.zones[z].nodes.zipWith (fun n c => { node := n, colour := c.colour.map fun x => x * f.zones[z].trim / 1000 })
    (f.composite z)

/-- The records of every zone, in ascending zone order. -/
def Snapshot.allRecords (f : Snapshot) : List Record := (indices 16).flatMap f.records

/-! ## The latest composites (R85) -/

/-- R85: the latest composites after a frame. -/
def Composer.record (c : Composer) (f : Frame) : Composer :=
  { c with frame := none
           latest := c.latest.mapFinIdx fun i x h =>
             if f.discarded.getLsbD i then x else some (f.snap.composite ⟨i, h⟩) }

end Sys2Proof.Machine
end

