-- ==== Sys2Proof/Config.lean ====
section
/-! DEFINITION. The free values: what the spec leaves open where the block goes on. Nothing is known of them. -/

namespace Sys2Proof

/-- R155: when two runners are to advance at one moment, either order is possible. For the n-th such moment: whether
runner 1 is taken first (log 8). -/
opaque Config.runnerOneFirst : Nat → Bool

/-- R176: the first snapshot of a lit period and the wake start of step 6 can fall together, in either order. For the n-th
such moment: whether the snapshot is taken first (log 10). -/
opaque Config.snapshotFirst : Nat → Bool

/-- Chapter 11 gives no byte layout to the payload of most replies: the bytes of a payload but for its notice records, which
11.4 gives (log 5). -/
opaque Config.payloadBytes : Machine.Payload → List Byte

/-- R172, R188: a chip-select period that begins in DORMANT goes on after the fall that the row CS_N_FALL_IN_DORMANT is. For
the n-th such row: how many whole bytes the host clocks in it (log 11). -/
opaque Config.clockedInDormant : Nat → Nat

end Sys2Proof
end

