-- ==== Sys2Proof/Machine/Formats.lean ====
section
/-! DEFINITION. The byte formats of chapter 11: the CRC-8, the LampRing header and slots, and the notice record. -/

namespace Sys2Proof.Machine

open Sys2Proof

/-! ## The check (11.1) -/

/-- One bit of the CRC-8 with the polynomial x⁸ + x² + x + 1. -/
def crcShift (c : Byte) : Byte := if c.getLsbD 7 then (c <<< 1) ^^^ 0x07 else c <<< 1

/-- One byte of the CRC-8. -/
def crcByte (c b : Byte) : Byte :=
  crcShift (crcShift (crcShift (crcShift (crcShift (crcShift (crcShift (crcShift (c ^^^ b))))))))

/-- The CRC-8 of 11.1: initial value of all ones, no reflection, no final inversion. -/
def crc8 (bytes : List Byte) : Byte := bytes.foldl crcByte 0xFF

/-! ## LampRing header (11.5) -/

inductive RingKind where
  | count | ident | duty | probe | sleep
  deriving DecidableEq, Repr

def RingKind.code : RingKind → BitVec 3
  | .count => 0
  | .ident => 1
  | .duty => 2
  | .probe => 3
  | .sleep => 4

/-- The direction bit. -/
def endCode : End → BitVec 1
  | .out => 0
  | .inn => 1

/-- The header check over bits 23 to 8. -/
def headerCheck (h : BitVec 24) : Byte := crc8 [h.extractLsb' 16 8, h.extractLsb' 8 8]

/-- A header as it is sent. -/
def headerOf (kind : RingKind) (e : End) (hop slots : Nat) : BitVec 24 :=
  let fields : BitVec 16 := (kind.code ++ endCode e) ++ (BitVec.ofNat 6 hop ++ BitVec.ofNat 6 slots)
  fields ++ crc8 [fields.extractLsb' 8 8, fields.extractLsb' 0 8]

/-- A returned frame is clean when its header check holds, its header differs from the one sent in the hop count at most
(R121, R198), and it holds the slots that were sent (log 29). -/
def frameClean (f : RingFrame) (kind : RingKind) (e : End) (slots : Nat) : Bool :=
  f.header.extractLsb' 0 8 == headerCheck f.header && f.header.extractLsb' 21 3 == kind.code &&
    f.header.extractLsb' 20 1 == endCode e && f.header.extractLsb' 8 6 == BitVec.ofNat 6 slots &&
    f.slots.length == slots

/-! ## LampRing slots (11.5) -/

/-- The slot check over bits 47 to 8. -/
def slotCheck (s : BitVec 48) : Byte :=
  crc8 [s.extractLsb' 40 8, s.extractLsb' 32 8, s.extractLsb' 24 8, s.extractLsb' 16 8, s.extractLsb' 8 8]

/-- A slot from its bits 47 to 8, with its check. -/
def slotOf (bits : BitVec 40) : BitVec 48 :=
  bits ++ crc8 [bits.extractLsb' 32 8, bits.extractLsb' 24 8, bits.extractLsb' 16 8, bits.extractLsb' 8 8,
    bits.extractLsb' 0 8]

/-- Whether the slot check of a slot holds. -/
def slotHolds (s : BitVec 48) : Bool := s.extractLsb' 0 8 == slotCheck s

/-- An outgoing DUTY slot: LIVE with its duties, or blank (R121). -/
def dutySlot (d : Duty) : BitVec 48 :=
  match d with
  | .live r g b => slotOf ((BitVec.ofNat 12 r ++ BitVec.ofNat 12 g) ++ (BitVec.ofNat 12 b ++ (8 : BitVec 4)))
  | .blank => slotOf 0

/-- An outgoing IDENT slot. -/
def identSlot : BitVec 48 := slotOf 0

/-- The slot of a COUNT frame: a running position and a step of +1 from OUT, −1 from IN. -/
def countSlot (position : Nat) (e : End) : BitVec 48 :=
  slotOf ((BitVec.ofNat 8 position ++ endCode e) ++ (0 : BitVec 31))

/-- The running position of a COUNT slot. -/
def slotPosition (s : BitVec 48) : Nat := (s.extractLsb' 40 8).toNat

/-- The temperature that a reply slot reports, taken into −40 to 150 (R133, R198). -/
def slotTemperature (s : BitVec 48) : Int := min 150 (((s.extractLsb' 40 8).toNat : Int) - 40)

/-- The duty check of a reply slot. -/
def slotDutyCheck (s : BitVec 48) : Byte := s.extractLsb' 27 8

/-- The bin of a reply to an IDENT slot. -/
def slotBin (s : BitVec 48) : Fin 16 := (s.extractLsb' 27 4).toFin

/-- A reply to a DUTY slot is good when its slot check holds, its duty check is the check of what was sent, and it was
overwritten (R133). -/
def goodDutyReply (sent reply : BitVec 48) : Bool :=
  slotHolds reply && slotDutyCheck reply == sent.extractLsb' 0 8 && reply != sent

/-- A reply to an IDENT slot is good when its slot check holds and it was overwritten (R130). -/
def goodIdentReply (reply : BitVec 48) : Bool := slotHolds reply && reply != identSlot

/-- A COUNT frame. -/
def countFrame (e : End) (hop position : Nat) : RingFrame :=
  { header := headerOf .count e hop 1, slots := [countSlot position e] }

/-- An IDENT frame. -/
def identFrame (e : End) (hop slots : Nat) : RingFrame :=
  { header := headerOf .ident e hop slots, slots := List.replicate slots identSlot }

/-- A DUTY frame. -/
def dutyFrame (e : End) (hop : Nat) (slots : List SentSlot) : RingFrame :=
  { header := headerOf .duty e hop slots.length, slots := slots.map (·.bits) }

/-- A PROBE frame. -/
def probeFrame (e : End) (hop : Nat) : RingFrame := { header := headerOf .probe e hop 0, slots := [] }

/-- A SLEEP frame. -/
def sleepFrame (e : End) : RingFrame := { header := headerOf .sleep e 0 0, slots := [] }

/-! ## Notice records (11.4) -/

def PowerCause.code : PowerCause → Nat
  | .woken => 0
  | .abandoned => 1
  | .dimmed => 2
  | .command => 3
  | .wake => 4
  | .resumed => 5

def NodeFault.code : NodeFault → Nat
  | .offline => 0
  | .openRed => 1
  | .openGreen => 2
  | .openBlue => 3
  | .short => 4
  | .overheat => 5

def EndCause.code : EndCause → Nat
  | .done => 0
  | .aborted => 1
  | .timeout => 2
  | .preempted => 3
  | .power => 4
  | .notLoaded => 5
  | .refusedBusy => 6

/-- The two subject bytes of a notice record (11.4); a client subject is the client's number (DEDUCED, log 53). -/
def Subject.bits : Subject → BitVec 16
  | .none => 0
  | .standby => 0
  | .lit => 1
  | .chain c => BitVec.ofNat 16 c
  | .node n => BitVec.ofNat 8 n.chain ++ BitVec.ofNat 8 n.position
  | .slot k => BitVec.ofNat 16 k
  | .client c => c.setWidth 16

/-- The two detail bytes of a notice record (R192, 11.4); a SPLIT detail sets bit 7 of the first and carries the break. The
enumerated details of each kind are numbered from 0 (DEDUCED, log 53). That SPLIT's place in the table is counted though
SPLIT has an encoding of its own, so that RESTORED is 3 and FAILED 4, is the model's choice (DESIGN CHOICE, log 52). -/
def Detail.bits : Detail → BitVec 16
  | .device => 0
  | .soft => 1
  | .power c => BitVec.ofNat 16 c.code
  | .chain .rateSlow => 0
  | .chain .locating => 1
  | .chain (.split b) => ((1 : BitVec 1) ++ BitVec.ofNat 7 b.lastOut) ++ BitVec.ofNat 8 b.firstIn
  | .chain .restored => 3
  | .chain .failed => 4
  | .node f => BitVec.ofNat 16 f.code
  | .ended c => BitVec.ofNat 16 c.code
  | .number n => BitVec.ofNat 16 n

end Sys2Proof.Machine
end

