-- ==== Sys2Proof/Machine/Operands.lean ====
section
/-! DEFINITION. How the raw fields of a frame are read: the value tests of R28, R148 and R197 (a refused value gives
`none`) and the clamping of R27 and its kind (a value with the mark that it was altered). -/

namespace Sys2Proof

/-- R197: the flags byte of a command that may not be guarded has GUARDED and every reserved bit clear. -/
def Header.plain (h : Header) : Bool := h.reserved == 0 && h.guard.isNone

/-- R197: the reserved bits of the flags byte of a command that may be guarded. -/
def Header.reservedOk (h : Header) : Bool := h.reserved == 0

end Sys2Proof

namespace Sys2Proof.Machine

open Sys2Proof

/-- A value brought under a maximum. -/
def clampMax (hi x : Nat) : Nat × Bool := if hi < x then (hi, true) else (x, false)

/-- A value brought into a range. -/
def clampRange (lo hi x : Nat) : Nat × Bool := if x < lo then (lo, true) else clampMax hi x

/-- A signed value brought into a range. -/
def clampInt (lo hi x : Int) : Int × Bool :=
  if x < lo then (lo, true) else if hi < x then (hi, true) else (x, false)

/-- The slot and generation of a handle (11.2); no slot for a slot field above 47 (R197). -/
def handleOf (raw : BitVec 16) : Option Handle :=
  (index? 48 (raw.extractLsb' 10 6).toNat).map fun k => { slot := k, gen := raw.extractLsb' 0 10 }

/-- 11.2: layer codes. -/
def layerOf (code : Byte) : Option Layer :=
  match code.toNat with
  | 0 => some .foundation
  | 1 => some .theme
  | 2 => some .accent
  | 3 => some .alert
  | _ => none

/-- 11.2: direction codes. -/
def directionOf (code : Byte) : Option Direction :=
  match code.toNat with
  | 0 => some .forward
  | 1 => some .reverse
  | _ => none

/-- Codes of a retirement mode: 0 FADE, 1 NOW (11.3; log 6). -/
def fadeModeOf (code : Byte) : Option FadeMode :=
  match code.toNat with
  | 0 => some .fade
  | 1 => some .now
  | _ => none

/-- Three components, each brought to 4095 at most (R27, R34). -/
def rgbOf (r g b : BitVec 16) : Rgb × Bool :=
  let r' := clampMax 4095 r.toNat
  let g' := clampMax 4095 g.toNat
  let b' := clampMax 4095 b.toNat
  ({ r := r'.1, g := g'.1, b := b'.1 }, r'.2 || g'.2 || b'.2)

/-- A colour source of kind DIRECT or PALETTE (11.2, R28); bytes that a PALETTE does not use are reserved. -/
def colourOf (kind : Byte) (v0 v1 v2 : BitVec 16) : Option (ColourSource × Bool) :=
  match kind.toNat with
  | 0 => let c := rgbOf v0 v1 v2; some (.direct c.1, c.2)
  | 1 => if v1 = 0 ∧ v2 = 0 then (index? 32 v0.toNat).map fun e => (.palette e, false) else none
  | _ => none

/-- Colour source B, which may be absent with its bytes zero (11.2). -/
def colourBOf (kind : Byte) (v0 v1 v2 : BitVec 16) : Option (Option ColourSource × Bool) :=
  if kind = 2 then (if v0 = 0 ∧ v1 = 0 ∧ v2 = 0 then some (none, false) else none)
  else (colourOf kind v0 v1 v2).map fun c => (some c.1, c.2)

/-- The high byte of a 16-bit field, which comes first (chapter 11). -/
def highByte (w : BitVec 16) : Byte := w.extractLsb' 8 8

/-- The low byte of a 16-bit field. -/
def lowByte (w : BitVec 16) : Byte := w.extractLsb' 0 8

/-- A PULSE (11.2, R27): period and offset come in units of 10 ms. -/
def pulseOf (period floor offset : BitVec 16) : Effect × Bool :=
  let p := clampRange 10 1000 period.toNat
  let f := clampMax 1000 floor.toNat
  let o := offset.toNat % p.1
  (.pulse (10 * p.1) f.1 (10 * o), p.2 || f.2 || o != offset.toNat)

/-- An effect with its parameters (11.2, R27, R28). -/
def effectOf (kind : Byte) (p0 p1 p2 : BitVec 16) : Option (Effect × Bool) :=
  match kind.toNat with
  | 0 => if p0 = 0 ∧ p1 = 0 ∧ p2 = 0 then some (.solid, false) else none
  | 1 => some (pulseOf p0 p1 p2)
  | 2 =>
    let d := clampRange 1 1000 p0.toNat
    if (highByte p1).toNat ≤ 16 ∧ p2 = 0 then
      (directionOf (lowByte p1)).map fun dir => (.sweep (10 * d.1) (highByte p1).toNat dir, d.2)
    else none
  | 3 =>
    if lowByte p0 = 0 ∧ p1 = 0 ∧ p2 = 0 then (directionOf (highByte p0)).map fun dir => (.gradient dir, false)
    else none
  | _ => none

/-- The gate byte (11.2, R28): `none` inside for an absent gate, whose other bits are reserved. -/
def gateOf (g : Byte) : Option (Option Gate) :=
  if g.getLsbD 7 then
    if g.getLsbD 5 then none
    else (index? 16 (g.extractLsb' 0 5).toNat).map fun n => some { signal := n, openWhen := !g.getLsbD 6 }
  else if g = 0 then some none else none

/-- A lifetime in units of 10 ms, 0 for absent, brought to 600 s (R27). -/
def lifetimeOf (raw : BitVec 16) : Option Nat × Bool :=
  if raw = 0 then (none, false)
  else let l := clampMax 60000 raw.toNat; (some (10 * l.1), l.2)

/-- Colour source B is stored with GRADIENT only (R3). -/
def storedB (e : Effect) (b : Option ColourSource) : Option ColourSource :=
  match e with
  | .gradient _ => b
  | _ => none

/-- R28: a GRADIENT has a colour source B. -/
def gradientOk (e : Effect) (b : Option ColourSource) : Bool :=
  match e with
  | .gradient _ => b.isSome
  | _ => true

/-- A whole descriptor tested and clamped (R27, R28), as it is stored (R3). -/
def descriptorOf (d : RawDescriptor) : Option (Descriptor × Bool) := do
  let layer ← layerOf d.layer
  let a ← colourOf d.aKind d.a0 d.a1 d.a2
  let b ← colourBOf d.bKind d.b0 d.b1 d.b2
  let e ← effectOf d.effect d.p0 d.p1 d.p2
  let gate ← gateOf d.gate
  if d.zones = 0 ∨ gradientOk e.1 b.1 = false then none
  else
    let pri := clampMax 15 d.priority.toNat
    let int := clampMax 1000 d.intensity.toNat
    let fin := clampMax 1000 d.fadeIn.toNat
    let fout := clampMax 1000 d.fadeOut.toNat
    let life := lifetimeOf d.lifetime
    some ({ layer := layer, priority := pri.1, zones := d.zones, a := a.1, b := storedB e.1 b.1, effect := e.1,
            intensity := int.1, fadeIn := 10 * fin.1, fadeOut := 10 * fout.1, lifetime := life.1, gate := gate },
          pri.2 || int.2 || fin.2 || fout.2 || life.2 || a.2 || b.2 || e.2)

/-- R56, test 3: a node reference names a chain and a position 1 to 60. -/
def nodeRefOf (n : RawNodeRef) : Option NodeRef :=
  (index? 4 n.chain.toNat).bind fun c =>
    if 1 ≤ n.position.toNat ∧ n.position.toNat ≤ 60 then some { chain := c, position := n.position.toNat } else none

/-- 11.4: the kinds by their codes. -/
def noticeKindOf (code : Byte) : Option NoticeKind :=
  match code.toNat with
  | 0 => some .restarted
  | 1 => some .powerState
  | 2 => some .chainState
  | 3 => some .nodeFault
  | 4 => some .countMismatch
  | 5 => some .stepTimeout
  | 6 => some .sequenceEnd
  | 7 => some .cueEvicted
  | 8 => some .budgetLimit
  | 9 => some .thermalLimit
  | _ => none

/-- 11.4: the subject that a kind can have, from its two bytes (R195). -/
def subjectOf (kind : NoticeKind) (w : BitVec 16) : Option Subject :=
  match kind with
  | .restarted => if w = 0 then some .none else none
  | .powerState => if w = 0 then some .standby else if w = 1 then some .lit else none
  | .chainState | .countMismatch | .budgetLimit | .thermalLimit => (index? 4 w.toNat).map .chain
  | .nodeFault => (nodeRefOf { chain := highByte w, position := lowByte w }).map .node
  | .stepTimeout | .sequenceEnd => (index? 6 w.toNat).map .slot
  | .cueEvicted => if w.toNat < 8 then some (.client (w.extractLsb' 0 3)) else none

/-- R197: the bytes that a step kind does not use are zero. A kind code that names no kind uses none of them. -/
def stepReservedOk (r : RawStep) : Bool :=
  match r.kind.toNat with
  | 0 | 1 | 5 => r.b3 == 0 && r.b4 == 0 && r.b5 == 0
  | 2 => r.b4 == 0 && r.b5 == 0
  | 3 => r.b3 == 0 && r.b4 == 0 && r.b5 == 0
  | 6 => r.b2 == 0 && r.b3 == 0 && r.b4 == 0 && r.b5 == 0
  | _ => true

/-- 11.3: action and target in byte 5 of a WAIT_SIGNAL. -/
def actionOf (w : Byte) : Option TimeoutAction :=
  match (w.extractLsb' 6 2).toNat with
  | 0 => some .goOn
  | 1 => some .abort
  | 2 => let t := (w.extractLsb' 0 6).toNat; if t ≤ 31 then some (.goto t) else none
  | _ => none

/-- A code of TRUE or FALSE (11.3). -/
def boolOf (code : Byte) : Option Bool :=
  match code.toNat with
  | 0 => some false
  | 1 => some true
  | _ => none

/-- R148: a step tested and clamped; durations come in units of 10 ms. -/
def stepOf (r : RawStep) : Option (Step × Bool) :=
  match r.kind.toNat with
  | 0 => do
    let t ← index? 24 r.b1.toNat
    let l ← index? 8 r.b2.toNat
    some (.post t l, false)
  | 1 => do
    let l ← index? 8 r.b1.toNat
    let m ← fadeModeOf r.b2
    some (.retire l m, false)
  | 2 => do
    let l ← index? 8 r.b1.toNat
    let i := clampMax 1000 (r.b2 ++ r.b3).toNat
    some (.modify l i.1, i.2)
  | 3 =>
    let d := clampRange 1 6000 (r.b1 ++ r.b2).toNat
    some (.wait (10 * d.1), d.2)
  | 4 => do
    let n ← index? 16 r.b1.toNat
    let v ← boolOf r.b2
    let a ← actionOf r.b5
    let t := clampMax 6000 (r.b3 ++ r.b4).toNat
    some (.waitSignal n v (10 * t.1) a, t.2)
  | 5 => if r.b1.toNat ≤ 31 ∧ r.b2 ≠ 0 then some (.repeatFrom r.b1.toNat r.b2.toNat, false) else none
  | 6 =>
    match r.b1.toNat with
    | 0 => some (.finish .keep, false)
    | 1 => some (.finish .retire, false)
    | 2 => some (.finish .hold, false)
    | _ => none
  | _ => none

/-- Codes of the rate policy (log 6). -/
def ratePolicyOf (code : Byte) : Option RatePolicy :=
  match code.toNat with
  | 0 => some .auto
  | 1 => some .slowOnly
  | _ => none

/-- Codes of the rejoin mode (log 6). -/
def rejoinOf (code : Byte) : Option Rejoin :=
  match code.toNat with
  | 0 => some .auto
  | 1 => some .manual
  | 2 => some .halt
  | _ => none

end Sys2Proof.Machine
end

