-- ==== Sys2Proof/Machine/Ops.lean ====
section
/-! DEFINITION. The operations that the blocks share: one update for each field of the state, raising a notice, a zone
change event, holds, the marks on the frame in flight, the dark interval, and the reports between blocks. -/

namespace Sys2Proof.Machine

open Sys2Proof

/-! ## One update for each field -/

def State.setCues (s : State) (v : CueTable) : State := { s with cues := v }
def State.setPalette (s : State) (v : Vector PaletteEntry 32) : State := { s with palette := v }
def State.setSignals (s : State) (v : BitVec 16) : State := { s with signals := v }
def State.setZones (s : State) (v : Vector Zone 16) : State := { s with zones := v }
def State.setWatches (s : State) (v : WatchTable) : State := { s with watches := v }
def State.setComposer (s : State) (v : Composer) : State := { s with composer := v }
def State.setCond (s : State) (v : Conditioner) : State := { s with cond := v }
def State.setChains (s : State) (v : Vector Chain 4) : State := { s with chains := v }
def State.setSeq (s : State) (v : Sequencer) : State := { s with seq := v }
def State.setPower (s : State) (v : Power) : State := { s with power := v }
def State.setNotices (s : State) (v : Notices) : State := { s with notices := v }
def State.setReply (s : State) (v : Reply) : State := { s with reply := v }
def State.setSdo (s : State) (v : Shift) : State := { s with sdo := v }
def State.setResetLow (s : State) (v : Bool) : State := { s with resetLow := v }
def State.setNoticeLow (s : State) (v : Bool) : State := { s with noticeLow := v }
def State.setSupplyEn (s : State) (v : Bool) : State := { s with supplyEn := v }
def State.setFreeCounter (s : State) (v : Nat) : State := { s with freeCounter := v }
def State.setPending (s : State) (v : List Instr) : State := { s with pending := v }

/-! ## Notices (R193, R196) -/

/-- NOTICE_N is evaluated anew (R196). -/
def State.driveNotice (s : State) : State := s.setNoticeLow s.notices.drivesLine

/-- Whether a notice has this kind and subject (R192). -/
def Notice.isOf (n : Notice) (kind : NoticeKind) (subject : Subject) : Bool := n.kind == kind && n.subject == subject

/-- R193: merge, append, or count as missed. -/
def Notices.raise (n : Notices) (kind : NoticeKind) (subject : Subject) (detail : Detail) : Notices :=
  if n.list.any (·.isOf kind subject) then
    { n with list := n.list.map fun x =>
        if x.isOf kind subject then { x with detail := detail, count := min 255 (x.count + 1) } else x }
  else if n.list.length < 8 then
    { n with list := n.list ++ [{ kind := kind, subject := subject, detail := detail, count := 1 }] }
  else { n with missed := min 255 (n.missed + 1) }

/-- A notice is raised in the taking of the event that causes it. -/
def State.raise (s : State) (kind : NoticeKind) (subject : Subject) (detail : Detail) : State :=
  (s.setNotices (s.notices.raise kind subject detail)).driveNotice

/-! ## Watches (R68, R72) -/

/-- The entries that satisfy `p` are freed; their slots keep their generations (R68). -/
def WatchTable.freeWhere (t : WatchTable) (p : Fin 8 → WatchEntry → Bool) : WatchTable :=
  { slots := t.slots.mapFinIdx fun i x h => { x with entry := x.entry.filter fun e => !p ⟨i, h⟩ e }
    order := t.order.filter fun w => !t.slots[w].entry.any (p w) }

/-- R72: an event for zone `z` frees every entry on it but the guarding entry of the command that raises it (R74, R75). -/
def WatchTable.invalidate (t : WatchTable) (guarding : Option (Fin 8)) (z : Fin 16) : WatchTable :=
  t.freeWhere fun w e => e.zone == z && guarding != some w

/-! ## Zone change events (R67) -/

/-- One zone change event: the change count advances and the Watch Table receives it. -/
def State.zoneEvent (guarding : Option (Fin 8)) (s : State) (z : Fin 16) : State :=
  (s.setZones (modifyAt s.zones z fun x => { x with count := x.count + 1 })).setWatches
    (s.watches.invalidate guarding z)

/-- One event for each zone of a set, in ascending order. -/
def State.zoneEvents (guarding : Option (Fin 8)) (s : State) (zones : BitVec 16) : State :=
  (members zones).foldl (State.zoneEvent guarding) s

/-! ## Holds (R60, R62) -/

/-- R60 for one zone. -/
def State.holdZone (s : State) (z : Fin 16) : State :=
  if s.zones[z].hold = .clear then
    State.zoneEvent none (s.setZones (modifyAt s.zones z fun x => { x with hold := .pending })) z
  else s

/-- R62 for one zone. -/
def State.releaseZone (s : State) (z : Fin 16) : State :=
  if s.zones[z].hold = .clear then s
  else State.zoneEvent none (s.setZones (modifyAt s.zones z fun x => { x with hold := .clear })) z

/-- R60: every zone of the set, in ascending order. -/
def State.holdZones (s : State) (zones : BitVec 16) : State := (members zones).foldl State.holdZone s

/-- R62: every zone of the set, in ascending order. -/
def State.releaseZones (s : State) (zones : BitVec 16) : State := (members zones).foldl State.releaseZone s

/-- How many zones of a set satisfy `p`. -/
def State.countZones (s : State) (zones : BitVec 16) (p : Zone → Bool) : Nat :=
  ((members zones).filter fun z => p s.zones[z]).length

/-! ## The latest composites and the frame in flight (R59, R85, R117) -/

/-- The latest composite of one zone is discarded; a frame in flight does not record one for it (R85). -/
def Composer.discardZone (c : Composer) (z : Fin 16) : Composer :=
  { c with latest := c.latest.set z none
           frame := c.frame.map fun f => { f with discarded := f.discarded ||| BitVec.twoPow 16 z } }

/-- The latest composite of every zone is discarded, as on each entry to LIT (R59). -/
def Composer.discardAll (c : Composer) : Composer :=
  { c with latest := Vector.replicate 16 none
           frame := c.frame.map fun f => { f with discarded := BitVec.allOnes 16 } }

/-- Chain `i` leaves the state it held at the snapshot of the frame in flight (R117). -/
def Composer.markLeft (c : Composer) (i : Fin 4) : Composer :=
  { c with frame := c.frame.map fun f => { f with left := f.left ||| BitVec.twoPow 4 i } }

/-! ## The dark interval (R179) -/

/-- A reload: in LIT the dark remaining becomes the whole interval, or absent for an interval of 0. -/
def Power.reloadDark (p : Power) : Power :=
  if p.state = .lit then
    { p with darkRemaining := if p.darkInterval = 0 then none else some (1000 * p.darkInterval) }
  else p

def State.reloadDark (s : State) : State := s.setPower s.power.reloadDark

/-! ## Labels (R157) -/

/-- The freeing of the cue `h` of a runner empties the label that holds it. -/
def Runner.forget (r : Runner) (h : Handle) : Runner :=
  { r with labels := r.labels.map fun l => if l = some h then none else l }

/-- The Cue Table's report of a freeing to the Sequence Engine (R12, R157). -/
def State.reportFreed (s : State) (tag : Option RunnerTag) (h : Handle) : State :=
  match tag with
  | none => s
  | some t => s.setSeq { s.seq with runners := modifyAt s.seq.runners t.runner fun r => r.forget h }

/-! ## Staged colours (R36) -/

/-- The entry takes its staged colour, if it holds one. -/
def PaletteEntry.apply (e : PaletteEntry) : PaletteEntry :=
  match e.staged with
  | none => e
  | some c => { colour := some c, staged := none }

/-- The Palette is told that no runner remains active (R36). -/
def State.applyStaged (s : State) : State := s.setPalette (s.palette.map PaletteEntry.apply)

/-! ## Free values -/

/-- A free value has been used (log 8). -/
def State.useFree (s : State) : State := s.setFreeCounter (s.freeCounter + 1)

end Sys2Proof.Machine
end

