-- ==== Sys2Proof/Machine/Port.lean ====
section
/-! DEFINITION. The Command Port: how a frame that the port receives is tested and answered (R183 to R188), and the
commands it owns, NOP and IDENTIFY (R184, R191), with the Notice List's (R194 to R196). -/

namespace Sys2Proof.Machine

open Sys2Proof

/-- What `exec` answers. -/
abbrev Result := Host.Outcome State Fault Refusal

/-- What the owning block answers to a frame (R186): a refusal, which changes nothing, or the state after the command, with
the mark that a value was altered. -/
inductive Verdict where
  | refuse (status : Status) (payload : Payload)
  | accept (altered : Bool) (payload : Payload) (s : State)
  deriving DecidableEq, Repr

/-- The two classes of commands (R187). -/
inductive CommandClass where
  | open_
  | configuring
  deriving DecidableEq, Repr

/-! ## A reply frame and what SDO shifts out (R184, 11.1) -/

/-- 11.6: status codes, in the order of R186's table. -/
def Status.code : Status → Nat
  | .ok => 0
  | .clamped => 1
  | .busy => 2
  | .badValue => 3
  | .badClient => 4
  | .denied => 5
  | .noRoom => 6
  | .notFound => 7
  | .stale => 8
  | .wrongState => 9
  | .inUse => 10
  | .badCheck => 11
  | .badLength => 12
  | .unknown => 13
  | .notReady => 14

/-- 11.4: the six bytes of a notice record. -/
def Notice.bytes (n : Notice) : List Byte :=
  [BitVec.ofNat 8 n.kind.code, highByte n.subject.bits, lowByte n.subject.bits, highByte n.detail.bits,
   lowByte n.detail.bits, BitVec.ofNat 8 n.count]

/-- The notices whose records a payload carries (R194, R195). -/
def Payload.records : Payload → List Notice
  | .notices _ _ list => list
  | .acknowledged removed _ _ => removed.toList
  | _ => []

/-- The two bytes of a handle (11.2). -/
def Handle.bits (h : Handle) : BitVec 16 := BitVec.ofNat 6 h.slot ++ h.gen

/-- The bytes of a payload, at most 248 (R184). Chapter 11 gives those of a handle and of a notice record; the others are free,
and records come last (log 5). -/
def Payload.bytes (p : Payload) : List Byte :=
  match p with
  | .empty => []
  | .handle h => [highByte h.bits, lowByte h.bits]
  | p =>
    let records := p.records.flatMap Notice.bytes
    (Config.payloadBytes p).take (248 - records.length) ++ records

/-- A reply frame: status, tag, payload length, payload, and the check over every byte before it (R184, 11.1). -/
def Reply.bytes (r : Reply) : List Byte :=
  let body := BitVec.ofNat 8 r.status.code :: r.tag :: BitVec.ofNat 8 r.payload.bytes.length :: r.payload.bytes
  body ++ [crc8 body]

/-- The bytes on SDO in a period: one for each byte clocked, the reply frame from its first byte and zero bytes after it. A
frame longer than the period is cut short (R184). -/
def Shift.bytes (x : Shift) : List Byte :=
  ((x.frame.map Reply.bytes).getD [] ++ List.replicate x.clocked 0).take x.clocked

/-! ## A frame at the port -/

/-- The reply is stored, and the one it replaces has been shifted out for the bytes that were clocked (R184). `old` is the reply
buffer at the fall of CS_N. -/
def State.store (s : State) (old : Reply) (clocked : Nat) (r : Reply) : State :=
  (s.setSdo { frame := some old, clocked := clocked }).setReply r

/-- A refusal by the port itself, with an empty payload (R185). -/
def State.turnAway (s : State) (clocked : Nat) (status : Status) (tag : Byte) : State :=
  s.store s.reply clocked { status := status, tag := tag, payload := .empty }

/-- The block's verdict is stored in the reply buffer. -/
def Verdict.stored (v : Verdict) (s : State) (clocked : Nat) (tag : Byte) : State :=
  match v with
  | .refuse status payload => s.store s.reply clocked { status := status, tag := tag, payload := payload }
  | .accept altered payload s' =>
    s'.store s.reply clocked { status := if altered then .clamped else .ok, tag := tag, payload := payload }

/-- A period that ends while RESET_N is low, or during which it rose: no frame is taken, and SDO has shifted out zero bytes
(R189; log 43). Every byte of the period is zero, those too that were clocked before RESET_N fell in it (DESIGN CHOICE, log
47). -/
def State.unheard (s : State) (clocked : Nat) : State := s.setSdo { frame := none, clocked := clocked }

/-- The part enters WAKING with the wake delay started (R172). -/
def Power.wakeUp (p : Power) (welcome : Bool) : Power :=
  { p with state := .waking, continueIntent := welcome, pendingWake := welcome, wakeTimer := some p.wakeDelay }

/-- A chip-select period that begins in DORMANT (R172, R188): it wakes the part, its frame is not received, and at its end
the reply buffer holds NOT_READY with tag 0. A period that began before the entry to DORMANT and ends in DORMANT is taken as
such a period too (DESIGN CHOICE, log 48). -/
def State.wakeByChipSelect (s : State) (clocked : Nat) : State :=
  (s.setPower (s.power.wakeUp false)).turnAway clocked .notReady 0

/-- Steps 3, 5, 6 and 7 of R185 for a frame whose command is known, and the hand-over to the owning block. In DORMANT the
frame is not received (R188); while RESET_N is low none is (R189). `payload` is how many bytes 11.6 gives the command's
unguarded form. -/
def State.takeFrame (cls : CommandClass) (inWaking lengthOk : Bool) (payload : Nat) (h : Header) (s : State)
    (block : State → Verdict) : State :=
  let n := h.frameBytes payload
  if s.resetLow then s.unheard n
  else if s.power.state = .dormant then s.wakeByChipSelect n
  else if s.power.state = .waking ∧ inWaking = false then s.turnAway n .notReady h.tag
  else if h.client = 7 then s.turnAway n .badClient h.tag
  else if lengthOk = false then s.turnAway n .badLength h.tag
  else if cls = .configuring ∧ h.client ≠ 0 then s.turnAway n .denied h.tag
  else (block s).stored s n h.tag

/-- A frame of an open command (R187). -/
def State.takeOpen (payload : Nat) (h : Header) (s : State) (block : State → Verdict) : Result :=
  .next (s.takeFrame .open_ false true payload h block)

/-- A frame of a configuring command (R187). -/
def State.takeConfiguring (payload : Nat) (h : Header) (s : State) (block : State → Verdict) : Result :=
  .next (s.takeFrame .configuring false true payload h block)

/-- A frame of one of the three power commands, which WAKING takes (R173). -/
def State.takePower (payload : Nat) (h : Header) (s : State) (block : State → Verdict) : Result :=
  .next (s.takeFrame .configuring true true payload h block)

/-- A value test: BAD_VALUE when it fails (R186). -/
def require (test : Bool) (k : Verdict) : Verdict := if test then k else .refuse .badValue .empty

/-- The value `x?` names, or BAD_VALUE. -/
def requireSome {α : Type} (x? : Option α) (k : α → Verdict) : Verdict :=
  match x? with
  | none => .refuse .badValue .empty
  | some x => k x

/-- A test of another status than BAD_VALUE. -/
def guardWith (refused : Bool) (status : Status) (k : Verdict) : Verdict :=
  if refused then .refuse status .empty else k

/-! ## NOP and IDENTIFY (R191) -/

/-- The capacities of the part (R191). -/
def Identity.part416 : Identity :=
  { part := 416, revision := 1, cueSlots := 48, pinnedSlots := 8, paletteEntries := 32, signals := 16, zones := 16,
    nodesPerZone := 64, watches := 8, chains := 4, nodesPerChain := 60, bins := 16, templates := 24,
    sequenceSlots := 6, stepsPerSlot := 32, runners := 2, notices := 8 }

/-- NOP (R184, R191). -/
def execNop (h : Header) (s : State) : Result :=
  s.takeOpen 0 h fun s => require h.plain (.accept false .empty s)

/-- IDENTIFY (R191). -/
def execIdentify (h : Header) (s : State) : Result :=
  s.takeOpen 0 h fun s => require h.plain (.accept false (.identity Identity.part416) s)

/-! ## The notice list (R194 to R196) -/

/-- The reply to READ_NOTICES (R194). -/
def Notices.report (n : Notices) : Payload := .notices n.missed n.mask n.list

/-- READ_NOTICES (R194). A refusal carries the list too (log 23). -/
def execReadNotices (h : Header) (s : State) : Result :=
  s.takeOpen 0 h fun s =>
    if h.plain then .accept false s.notices.report s else .refuse .badValue s.notices.report

/-- The reply of an acknowledgement (R195): what was removed, the notices left and the missed count. -/
def Notices.ackReply (n : Notices) (removed : Option Notice) : Payload :=
  .acknowledged removed n.list.length n.missed

/-- The notice list is replaced and the line evaluated anew. -/
def State.withNotices (s : State) (n : Notices) : State := (s.setNotices n).driveNotice

/-- ACK_OLDEST (R195). That the reserved bits and GUARDED (R197) are tested before NOT_FOUND is the model's choice (DESIGN
CHOICE, log 51). -/
def execAckOldest (h : Header) (s : State) : Result :=
  s.takeOpen 0 h fun s =>
    if h.plain then
      match s.notices.list with
      | [] => .refuse .notFound (s.notices.ackReply none)
      | x :: rest =>
        let n := { s.notices with list := rest }
        .accept false (n.ackReply (some x)) (s.withNotices n)
    else .refuse .badValue (s.notices.ackReply none)

/-- The kind and subject that ACK_MATCH names, when the kind can have the subject (R195). -/
def matchKey (kind : Byte) (subject : BitVec 16) : Option (NoticeKind × Subject) :=
  (noticeKindOf kind).bind fun k => (subjectOf k subject).map fun x => (k, x)

/-- ACK_MATCH (R195). -/
def execAckMatch (h : Header) (kind : Byte) (subject : BitVec 16) (s : State) : Result :=
  s.takeOpen 3 h fun s =>
    if h.plain then
      match matchKey kind subject with
      | none => .refuse .badValue (s.notices.ackReply none)
      | some key =>
        match s.notices.list.find? (fun y => y.isOf key.1 key.2) with
        | none => .refuse .notFound (s.notices.ackReply none)
        | some x =>
          let n := { s.notices with list := s.notices.list.filter fun y => !y.isOf key.1 key.2 }
          .accept false (n.ackReply (some x)) (s.withNotices n)
    else .refuse .badValue (s.notices.ackReply none)

/-- ACK_ALL (R195). -/
def execAckAll (h : Header) (s : State) : Result :=
  s.takeOpen 0 h fun s =>
    if h.plain then
      let n := { s.notices with list := [], missed := 0 }
      .accept false (n.ackReply none) (s.withNotices n)
    else .refuse .badValue (s.notices.ackReply none)

/-- SET_NOTICE_MASK (R196): the six positions above the ten kinds name none. -/
def execSetNoticeMask (h : Header) (mask : BitVec 16) (s : State) : Result :=
  s.takeConfiguring 2 h fun s =>
    require (h.plain && mask.extractLsb' 10 6 == 0)
      (.accept false .empty (s.withNotices { s.notices with mask := mask.extractLsb' 0 10 }))

end Sys2Proof.Machine
end

