-- ==== Sys2Proof/Machine/Condition.lean ====
section
/-! DEFINITION. Stages 6 to 10 of a composition frame (chapter 6): the global level, calibration, thermal derating, the
current budget and the duty set; and the commands of the Output Conditioner, with SET_FRAME_PERIOD of the Composer. -/

namespace Sys2Proof.Machine

open Sys2Proof

/-! ## Stage 6: the global level (R101 to R103) -/

/-- R101, within a segment. -/
def segmentLevel (a b : CurvePoint) (x : Nat) : Nat :=
  if a.level ≤ b.level then a.level + (b.level - a.level) * (x - a.lux) / (b.lux - a.lux)
  else a.level - (a.level - b.level) * (x - a.lux) / (b.lux - a.lux)

/-- R101, for a lux value at or above the point `a`, with the points that follow it. -/
def curveLevelFrom (a : CurvePoint) : List CurvePoint → Nat → Nat
  | [], _ => a.level
  | b :: rest, x => if x < b.lux then segmentLevel a b x else curveLevelFrom b rest x

/-- R101. A curve holds at least two points. -/
def curveLevelOf (curve : List CurvePoint) (x : Nat) : Nat :=
  match curve with
  | [] => 0
  | a :: rest => if x ≤ a.lux then a.level else curveLevelFrom a rest x

/-- The curve level at the stored lux value. -/
def Conditioner.curveLevel (c : Conditioner) : Nat := curveLevelOf c.curve c.lux

/-- R102: the target level. -/
def Conditioner.target (c : Conditioner) : Nat := c.curveLevel * c.master / 1000

/-- R102: a level moved toward its target by at most the slew. -/
def moveLevel (level target slew : Nat) : Nat :=
  if level < target then min target (level + slew)
  else if target < level then max target (level - slew)
  else level

/-- R102: the one move of a frame. -/
def Conditioner.moved (c : Conditioner) : Conditioner := { c with level := moveLevel c.level c.target c.slew }

/-- R102: an entry to LIT sets the level to the target. -/
def Conditioner.settled (c : Conditioner) : Conditioner := { c with level := c.target }

/-- R103. -/
def Snapshot.effective (f : Snapshot) : Nat := f.level * f.envelope / 1000

/-! ## Which records are delivered (R100) -/

/-- The place of a position in a node table. -/
def placeOf (position : Nat) : Option (Fin 60) := if position = 0 then none else index? 60 (position - 1)

/-- The node record at a node reference. -/
def Snapshot.nodeAt (f : Snapshot) (n : NodeRef) : Option Node :=
  (placeOf n.position).map fun k => f.chains[n.chain].nodes[k]

/-- R100: a node that is driven and not overheated. -/
def Node.lit (n : Node) : Bool := n.state.driven && !n.flags.overheat

/-- R100: the node of a deliverable record. -/
def Snapshot.deliverable (f : Snapshot) (r : Record) : Option Node :=
  if f.chains[r.node.chain].state.driven then (f.nodeAt r.node).filter Node.lit else none

/-! ## Stage 7: calibration (R108) -/

/-- One row of a matrix applied to a colour (R108, 1 and 2). -/
def rowDrive (row : Int × Int × Int) (p : Rgb) : Int :=
  (row.1 * p.r + row.2.1 * p.g + row.2.2 * p.b + 512) / 1024

/-- R108, 4: a drive brought under 4095 with its ratios kept. -/
def Rgb.gamut (q : Rgb) : Rgb :=
  let largest := max q.r (max q.g q.b)
  if 4095 < largest then q.map fun x => x * 4095 / largest else q

/-- R108. -/
def Bin.calibrate (b : Bin) (p : Rgb) : Rgb :=
  Rgb.gamut { r := (rowDrive b.red p).toNat, g := (rowDrive b.green p).toNat, b := (rowDrive b.blue p).toNat }

/-! ## Stage 8: thermal derating (R110, R111) -/

/-- R110: the highest last temperature of the qualifying nodes. -/
def ChainSnapshot.hottest (c : ChainSnapshot) : Option Int :=
  ((c.nodes.toList.filter Node.lit).map (·.temperature)).max?

/-- R110: the factor at a hottest temperature. -/
def thermalFactor (knee limit : Int) (hottest : Option Int) : Nat :=
  match hottest with
  | none => 1000
  | some t =>
    if t ≤ knee then 1000
    else if t < limit then 1000 - (700 * (t - knee) / (limit - knee)).toNat
    else 300

/-- The thermal factor of a chain in a frame. -/
def Snapshot.thermal (f : Snapshot) (c : Fin 4) : Nat := thermalFactor f.knee f.limit f.chains[c].hottest

/-- A deliverable record with its node's bin and its three duties. -/
structure Drive where
  position : Nat
  bin      : Fin 16
  duty     : Rgb
  deriving DecidableEq, Repr

/-- Stages 6 to 8 of one record, when it is deliverable. -/
def Snapshot.drive (f : Snapshot) (r : Record) : Option Drive :=
  (f.deliverable r).map fun n =>
    let p := r.colour.map fun x => x * f.effective / 1000
    { position := r.node.position, bin := n.bin
      duty := (f.bins[n.bin].calibrate p).map fun x => x * f.thermal r.node.chain / 1000 }

/-- The duties of a chain after stage 8. -/
def Snapshot.drives (f : Snapshot) (c : Fin 4) : List Drive :=
  (f.allRecords.filter fun r => r.node.chain == c).filterMap f.drive

/-! ## Stage 9: the current budget (R113, R114) -/

/-- What one record draws: duty times full-scale current over its channels. -/
def Drive.load (bins : Vector Bin 16) (d : Drive) : Nat :=
  d.duty.r * bins[d.bin].current.1 + d.duty.g * bins[d.bin].current.2.1 + d.duty.b * bins[d.bin].current.2.2

/-- R113: the exact sum S. -/
def totalLoad (bins : Vector Bin 16) (ds : List Drive) : Nat := (ds.map (Drive.load bins)).sum

/-- R113: the budget factor of a sum S under a budget B. -/
def budgetFactor (sum budget : Nat) : Nat :=
  if 40950 * budget < sum then 1000 * (40950 * budget) / sum else 1000

/-- A duty scaled by the budget factor. -/
def Drive.scaled (k : Nat) (d : Drive) : Drive := { d with duty := d.duty.map fun x => x * k / 1000 }

/-- The duties of a chain after stage 9. -/
def Snapshot.budgeted (f : Snapshot) (c : Fin 4) : List Drive :=
  (f.drives c).map (Drive.scaled (budgetFactor (totalLoad f.bins (f.drives c)) f.chains[c].budget))

/-! ## Stage 10: the duty set (R116) -/

/-- The entry for one place of the node table; none for ABSENT and UNREACHABLE. -/
def dutyEntry (ds : List Drive) (k : Fin 60) (n : Node) : Option DutyEntry :=
  match n.state with
  | .absent | .unreachable => none
  | .online | .suspect | .offline =>
    match ds.find? fun d => d.position == k.val + 1 with
    | none => some { position := k.val + 1, duty := .blank }
    | some d => some { position := k.val + 1, duty := .live d.duty.r d.duty.g d.duty.b }

/-- R116: the duty set of a chain. -/
def Snapshot.dutySet (f : Snapshot) (c : Fin 4) : List DutyEntry :=
  (indices 60).filterMap fun k => dutyEntry (f.budgeted c) k f.chains[c].nodes[k]

/-- The per-chain results of a frame (R114). -/
def Snapshot.output (f : Snapshot) (c : Fin 4) : ChainOutput :=
  { thermal := f.thermal c, budget := budgetFactor (totalLoad f.bins (f.drives c)) f.chains[c].budget,
    estimate := totalLoad f.bins (f.budgeted c) / 4095 }

/-! ## Commands (R81, R104 to R107, R112) -/

/-- SET_FRAME_PERIOD (R81). A refusal carries the period in force too (log 23). -/
def execSetFramePeriod (h : Header) (period : Byte) (s : State) : Result :=
  s.takeConfiguring 1 h fun s =>
    if h.plain then
      let p := clampRange 10 40 period.toNat
      .accept p.2 (.period p.1) (s.setComposer { s.composer with period := p.1 })
    else .refuse .badValue (.period s.composer.period)

/-- The reply to SET_LUX and SET_MASTER (R104). -/
def Conditioner.levels (c : Conditioner) : Payload := .level c.curveLevel c.target c.level

/-- SET_LUX (R104). A refusal carries the three values too (log 23). -/
def execSetLux (h : Header) (lux : BitVec 16) (s : State) : Result :=
  s.takeOpen 2 h fun s =>
    if h.plain then
      let c := { s.cond with lux := lux.toNat }
      .accept false c.levels (s.setCond c)
    else .refuse .badValue s.cond.levels

/-- SET_MASTER (R104). A refusal carries the three values too (log 23). -/
def execSetMaster (h : Header) (level : BitVec 16) (s : State) : Result :=
  s.takeOpen 2 h fun s =>
    if h.plain then
      let l := clampMax 1000 level.toNat
      let c := { s.cond with master := l.1 }
      .accept l.2 c.levels (s.setCond c)
    else .refuse .badValue s.cond.levels

/-- R105, 2: the lux values rise strictly. -/
def luxAscending : List CurvePoint → Bool
  | [] => true
  | [_] => true
  | a :: b :: rest => decide (a.lux < b.lux) && luxAscending (b :: rest)

/-- A point with its level clamped (R105). -/
def pointOf (p : RawPoint) : CurvePoint := { lux := p.lux.toNat, level := (clampMax 1000 p.level.toNat).1 }

/-- SET_CURVE (R105). -/
def execSetCurve (h : Header) (count : Byte) (points : List RawPoint) (s : State) : Result :=
  .next <| s.takeFrame .configuring false (setCurveLengthOk points) (1 + 4 * points.length) h fun s =>
    require (h.plain && decide (2 ≤ count.toNat ∧ count.toNat ≤ 8 ∧ points.length = count.toNat)) <|
      require (luxAscending (points.map pointOf)) <|
        .accept (points.any fun p => (clampMax 1000 p.level.toNat).2) .empty
          (s.setCond { s.cond with curve := points.map pointOf })

/-- SET_SLEW (R106). -/
def execSetSlew (h : Header) (slew : BitVec 16) (s : State) : Result :=
  s.takeConfiguring 2 h fun s =>
    require h.plain <|
      let v := clampRange 1 1000 slew.toNat
      .accept v.2 .empty (s.setCond { s.cond with slew := v.1 })

/-- A coefficient brought into −2048 to 2047 (R107). -/
def coefficientOf (w : BitVec 16) : Int × Bool := clampInt (-2048) 2047 w.toInt

/-- A row of coefficients (R107). -/
def rowOf (a b c : BitVec 16) : (Int × Int × Int) × Bool :=
  let x := coefficientOf a
  let y := coefficientOf b
  let z := coefficientOf c
  ((x.1, y.1, z.1), x.2 || y.2 || z.2)

/-- Three full-scale currents, each brought to 1000 at most (R107). -/
def currentsOf (a b c : BitVec 16) : (Nat × Nat × Nat) × Bool :=
  let x := clampMax 1000 a.toNat
  let y := clampMax 1000 b.toNat
  let z := clampMax 1000 c.toNat
  ((x.1, y.1, z.1), x.2 || y.2 || z.2)

/-- A bin as it is stored, with the mark that a value was altered (R107). -/
def binOf (b : RawBin) : Bin × Bool :=
  let r0 := rowOf b.c00 b.c01 b.c02
  let r1 := rowOf b.c10 b.c11 b.c12
  let r2 := rowOf b.c20 b.c21 b.c22
  let i := currentsOf b.i0 b.i1 b.i2
  ({ red := r0.1, green := r1.1, blue := r2.1, current := i.1 }, r0.2 || r1.2 || r2.2 || i.2)

/-- SET_BIN (R107). -/
def execSetBin (h : Header) (bin : Byte) (b : RawBin) (s : State) : Result :=
  s.takeConfiguring 25 h fun s =>
    require h.plain <| requireSome (index? 16 bin.toNat) fun n =>
      .accept (binOf b).2 .empty (s.setCond { s.cond with bins := s.cond.bins.set n (binOf b).1 })

/-- SET_THERMAL (R112). -/
def execSetThermal (h : Header) (knee limit : BitVec 16) (s : State) : Result :=
  s.takeConfiguring 4 h fun s =>
    require h.plain <|
      let k := clampInt (-40) 150 knee.toInt
      let l := clampInt (-40) 150 limit.toInt
      require (decide (k.1 < l.1))
        (.accept (k.2 || l.2) .empty (s.setCond { s.cond with knee := k.1, limit := l.1 }))

end Sys2Proof.Machine
end

