-- ==== Sys2Proof/Machine/Chains.lean ====
section
/-! DEFINITION. The chain records (sections 7.1 to 7.3): how a chain is started and stopped, and the commands that
configure, start, stop and read it. -/

namespace Sys2Proof

/-- R123, 2: the mask names the enabled field, the expected count or the rate policy. -/
def RawChainConfig.namesStart (r : RawChainConfig) : Bool :=
  r.mask.getLsbD 0 || r.mask.getLsbD 1 || r.mask.getLsbD 2

end Sys2Proof

namespace Sys2Proof.Machine

open Sys2Proof

/-! ## A chain record -/

/-- A frame is put on a port. -/
def Chain.transmit (c : Chain) (e : End) (f : RingFrame) : Chain := { c with sent := { sender := e, frame := f } :: c.sent }

/-- A SLEEP frame from OUT and another from IN (R125, R142). -/
def Chain.sleep (c : Chain) : Chain := (c.transmit .out (sleepFrame .out)).transmit .inn (sleepFrame .inn)

/-- The retries total rises by `n` and saturates (R119). -/
def Chain.retry (c : Chain) (n : Nat) : Chain := { c with retries := min 65535 (c.retries + n) }

/-- The loop switches count rises by 1 and saturates (R119). -/
def Chain.switched (c : Chain) : Chain := { c with switches := min 255 (c.switches + 1) }

/-- Every node record is passed through `f` with its position. -/
def Chain.mapNodes (c : Chain) (f : Nat → Node → Node) : Chain :=
  { c with nodes := c.nodes.mapIdx fun i n => f (i + 1) n }

/-- The node record at a position. -/
def Chain.nodeAt (c : Chain) (position : Nat) : Option Node := (placeOf position).map fun k => c.nodes[k]

/-- The node record at a position is replaced. -/
def Chain.setNode (c : Chain) (position : Nat) (n : Node) : Chain :=
  match placeOf position with
  | none => c
  | some k => { c with nodes := c.nodes.set k n }

/-- The rate that a start chooses (R124). -/
def RatePolicy.startRate : RatePolicy → Rate
  | .auto => .fast
  | .slowOnly => .slow

/-- R124: what a start does to the record, with the first COUNT frame (R129). -/
def Chain.start (c : Chain) : Chain :=
  ({ c with mailbox := none, nodes := Vector.replicate 60 Node.cleared, found := 0, brk := none, runOut := 0,
            runIn := 0, rate := c.ratePolicy.startRate, ringDone := false, mode := .counting 0 } : Chain).transmit
    .out (countFrame .out 0 1)

/-- R125: what a stop does to the record. The restore timer ends with the mode that holds it. A stop that takes a chain out of
RING keeps the OUT run: the list of R125 does not name it, and the model reads R132's 'On leaving RING the run is set to 0' of
the losses that R132 speaks of (DESIGN CHOICE, log 46). -/
def Chain.stop (c : Chain) : Chain := ({ c with mailbox := none, mode := .off } : Chain).sleep

/-! ## A chain in the part -/

/-- The record of chain `i` is replaced. A change of its state is seen by the frame in flight (R117). -/
def State.setChain (s : State) (i : Fin 4) (c : Chain) : State :=
  let s' := s.setChains (s.chains.set i c)
  if s.chains[i].mode.state = c.mode.state then s' else s'.setComposer (s.composer.markLeft i)

/-- The Output Conditioner's fields of a chain return to their initial values (R118). -/
def Conditioner.resetOutput (c : Conditioner) (i : Fin 4) : Conditioner :=
  { c with perChain := c.perChain.set i ChainOutput.initial }

/-- R124: chain `i` starts, and the Output Conditioner is told (R118). -/
def State.startChain (s : State) (i : Fin 4) : State :=
  (s.setChain i s.chains[i].start).setCond (s.cond.resetOutput i)

/-- R125: chain `i` stops if it is not OFF. -/
def State.stopChain (s : State) (i : Fin 4) : State :=
  if s.chains[i].mode = .off then s else s.setChain i s.chains[i].stop

/-- Every chain that is not OFF is stopped, as the Power Controller stops them (R125). -/
def State.stopChains (s : State) : State := (indices 4).foldl State.stopChain s

/-! ## Configuring (R123) -/

/-- The record as a reply carries it. -/
def Chain.record (c : Chain) : ChainRecord :=
  { enabled := c.enabled, expected := c.expected, ratePolicy := c.ratePolicy, rejoin := c.rejoin,
    retryLimit := c.retryLimit, budget := c.budget, restoreInterval := c.restoreInterval, state := c.mode.state,
    rate := c.rate, found := c.found, brk := c.brk, runOut := c.runOut, runIn := c.runIn, retries := c.retries,
    switches := c.switches }

/-- The restore timer started with the interval in force. -/
def Chain.runRestore (c : Chain) : RestoreTimer := .running c.restoreInterval

/-- R141: a change of the rejoin mode to AUTO in SPLIT starts the restore timer, and one away from AUTO stops it. -/
def Chain.rejoinChanged (c : Chain) (before : Rejoin) : Chain :=
  match c.mode with
  | .split x =>
    if before = c.rejoin then c
    else if c.rejoin = .auto then { c with mode := .split { x with restore := c.runRestore } }
    else if before = .auto then { c with mode := .split { x with restore := .stopped } }
    else c
  | _ => c

/-- A field that the mask of a command names, or the value it has with no alteration. -/
def named {α : Type} (bit : Bool) (new : α × Bool) (old : α) : α × Bool := if bit then new else (old, false)

/-- The named fields of a chain record replaced together, in range (R123), with the codes already tested. Bit n of the mask
is read as the field n places after the first, which is bit 0 (DEDUCED, log 49). -/
def Chain.configured (c : Chain) (r : RawChainConfig) (enabled : Bool) (policy : RatePolicy) (rejoin : Rejoin) :
    Chain × Bool :=
  let expected := named (r.mask.getLsbD 1) (clampMax 60 r.expected.toNat) c.expected
  let limit := named (r.mask.getLsbD 4) (clampMax 12 r.retryLimit.toNat) c.retryLimit
  let budget := named (r.mask.getLsbD 5) (clampRange 50 3000 r.budget.toNat) c.budget
  let interval := named (r.mask.getLsbD 6) (clampRange 250 5000 r.restoreInterval.toNat) c.restoreInterval
  (Chain.rejoinChanged { c with
      enabled := enabled, expected := expected.1, ratePolicy := policy, rejoin := rejoin, retryLimit := limit.1,
      budget := budget.1, restoreInterval := interval.1 } c.rejoin,
    expected.2 || limit.2 || budget.2 || interval.2)

/-- The value of a code that the mask names, or the value it has. -/
def namedCode {α : Type} (bit : Bool) (new : Option α) (old : α) : Option α := if bit then new else some old

/-- CONFIGURE_CHAIN (R123). Test 1 names the chain, rate policy and rejoin codes only: that an undefined code for a named enabled
field is tested with them, before BUSY, is the model's choice, and so is that a mask bit that names no field, which R197 makes
BAD_VALUE, is tested before BUSY (DESIGN CHOICE, log 42). Bit 0 of the mask is read as the first of the seven fields, so that
bit 7 names none (DEDUCED, log 49). -/
def execConfigureChain (h : Header) (chain : Byte) (r : RawChainConfig) (s : State) : Result :=
  s.takeConfiguring 11 h fun s =>
    require (h.plain && !r.mask.getLsbD 7) <| requireSome (index? 4 chain.toNat) fun i =>
      let c := s.chains[i]
      requireSome (namedCode (r.mask.getLsbD 0) (boolOf r.enabled) c.enabled) fun enabled =>
        requireSome (namedCode (r.mask.getLsbD 2) (ratePolicyOf r.ratePolicy) c.ratePolicy) fun policy =>
          requireSome (namedCode (r.mask.getLsbD 3) (rejoinOf r.rejoin) c.rejoin) fun rejoin =>
            guardWith (r.namesStart && c.mode != .off) .busy <|
              let c' := c.configured r enabled policy rejoin
              require (!(c'.1.enabled && c'.1.expected == 0))
                (.accept c'.2 (.chainRecord c'.1.record) (s.setChain i c'.1))

/-! ## Starting and stopping (R124 to R126) -/

/-- The enabled field of chain `i`. -/
def State.enable (s : State) (i : Fin 4) (on : Bool) : State := s.setChain i { s.chains[i] with enabled := on }

/-- START_CHAIN (R124). -/
def execStartChain (h : Header) (chain : Byte) (s : State) : Result :=
  s.takeConfiguring 1 h fun s =>
    require h.plain <| requireSome (index? 4 chain.toNat) fun i =>
      guardWith (s.power.state != .lit) .wrongState <| guardWith (s.chains[i].mode != .off) .busy <|
        require (s.chains[i].expected != 0) (.accept false .empty ((s.enable i true).startChain i))

/-- STOP_CHAIN (R125). -/
def execStopChain (h : Header) (chain : Byte) (s : State) : Result :=
  s.takeConfiguring 1 h fun s =>
    require h.plain <| requireSome (index? 4 chain.toNat) fun i =>
      guardWith (s.power.state != .lit) .wrongState (.accept false .empty ((s.enable i false).stopChain i))

/-- RESTART_CHAIN (R126). -/
def execRestartChain (h : Header) (chain : Byte) (s : State) : Result :=
  s.takeConfiguring 1 h fun s =>
    require h.plain <| requireSome (index? 4 chain.toNat) fun i =>
      guardWith (s.power.state != .lit) .wrongState <|
        require (s.chains[i].expected != 0)
          (.accept false .empty (((s.enable i true).stopChain i).startChain i))

/-- REJOIN_NODE (R127). -/
def execRejoinNode (h : Header) (chain position : Byte) (s : State) : Result :=
  s.takeConfiguring 2 h fun s =>
    require h.plain <| requireSome (index? 4 chain.toNat) fun i =>
      requireSome (placeOf position.toNat) fun k =>
        let c := s.chains[i]
        let n := c.nodes[k]
        guardWith (!c.mode.state.driven || c.rejoin != .manual || n.state != .offline) .wrongState <|
          .accept false .empty
            (s.setChain i { c with nodes := c.nodes.set k { n with state := .suspect, badReplies := 0, goodRun := 0 } })

/-! ## Reading (R128) -/

/-- Up to 16 node records from a place on (R128). -/
def Chain.reportNodes (c : Chain) (first : Fin 60) : List NodeReport :=
  ((indices 60).filter fun k => decide (first ≤ k ∧ k.val < first.val + 16)).map fun k =>
    { position := k.val + 1, node := c.nodes[k] }

/-- READ_CHAIN (R128). -/
def execReadChain (h : Header) (chain position : Byte) (s : State) : Result :=
  s.takeOpen 2 h fun s =>
    require h.plain <| requireSome (index? 4 chain.toNat) fun i =>
      requireSome (placeOf position.toNat) fun k =>
        .accept false
          (.chain { record := s.chains[i].record, output := s.cond.perChain[i],
                    waiting := s.chains[i].mailbox.isSome, nodes := s.chains[i].reportNodes k }) s

end Sys2Proof.Machine
end

