-- ==== Sys2Proof/Machine/Cues.lean ====
section
/-! DEFINITION. The Cue Table (chapter 1): freeing a slot, starting a fade-out, posting and placing, and the seven commands
it owns, with the guard that a watch puts on four of them (R73 to R76) and the lifecycle events of R9 to R12. -/

namespace Sys2Proof.Machine

open Sys2Proof

/-! ## Guards (R73 to R76) -/

/-- A guard whose watch check has passed: the entry's slot, and whether its mode is CONSUME. -/
structure GuardTaken where
  slot    : Fin 8
  consume : Bool
  deriving DecidableEq, Repr

/-- The watch slot that a watch id names for a client, when it holds that entry (R73, R78). -/
def WatchTable.find (t : WatchTable) (client : BitVec 3) (slot gen : Byte) : Option (Fin 8) :=
  (index? 8 slot.toNat).filter fun w => t.slots[w].gen == gen && t.slots[w].entry.any (·.client == client)

/-- Watch modes (11.1): 0 KEEP, 1 CONSUME. -/
def watchModeOf (code : Byte) : Option Bool :=
  match code.toNat with
  | 0 => some false
  | 1 => some true
  | _ => none

/-- Step 1 of R14 (R73): no guard, a guard that holds, or the status of the refusal. The watch check is the first test, and a
failure leaves the rest untested (R76). -/
def checkGuard (h : Header) (s : State) : Except Status (Option GuardTaken) :=
  match h.guard with
  | none => .ok none
  | some g =>
    match s.watches.find h.client g.slot g.gen with
    | none => .error .stale
    | some w =>
      match watchModeOf g.mode with
      | none => .error .badValue
      | some consume => .ok (some { slot := w, consume := consume })

/-- The entry in watch slot `w` is freed (R74, R78). -/
def State.freeWatch (s : State) (w : Fin 8) : State := s.setWatches (s.watches.freeWhere fun x _ => x == w)

/-- R74: a CONSUME guard is freed at the end of a command that succeeds; R76: a refusal leaves it. -/
def Verdict.consume (v : Verdict) (g : Option GuardTaken) : Verdict :=
  match v, g with
  | .accept altered payload s, some ⟨w, true⟩ => .accept altered payload (s.freeWatch w)
  | v, _ => v

/-- A command that may be guarded: its watch check first, its consumption last. The block is given the guarding slot. -/
def guarded (h : Header) (s : State) (block : Option (Fin 8) → Verdict) : Verdict :=
  match checkGuard h s with
  | .error status => .refuse status .empty
  | .ok g => (block (g.map (·.slot))).consume g

/-! ## Slots (R1, R2) -/

/-- The cue in a slot, when it is live. -/
def State.cueAt (s : State) (k : Fin 48) : Option Cue := s.cues.slots[k].cue

/-- The handle of the cue in a slot. -/
def State.handleAt (s : State) (k : Fin 48) : Handle := { slot := k, gen := s.cues.slots[k].gen }

/-- The cue in slot `k` becomes `c`; the lists and the generation stay. -/
def State.putCue (s : State) (k : Fin 48) (c : Cue) : State :=
  s.setCues { s.cues with slots := modifyAt s.cues.slots k fun x => { x with cue := some c } }

/-- Handle resolution (R2): the live cue that a handle names. -/
def State.resolve (s : State) (raw : BitVec 16) : Option (Fin 48 × Cue) :=
  (handleOf raw).bind fun h =>
    if s.cues.slots[h.slot].gen = h.gen then (s.cueAt h.slot).map fun c => (h.slot, c) else none

/-- The slot leaves the table's lists and holds no cue; its generation stays (R12). -/
def CueTable.remove (t : CueTable) (k : Fin 48) : CueTable :=
  { t with slots := modifyAt t.slots k fun x => { x with cue := none }
           postOrder := t.postOrder.filter fun j => j != k
           retiring := t.retiring.filter fun j => j != k }

/-- R12: what freeing a slot does, for every cause. -/
def State.freeSlot (guarding : Option (Fin 8)) (s : State) (k : Fin 48) : State :=
  match s.cueAt k with
  | none => s
  | some c =>
    ((s.setCues (s.cues.remove k)).zoneEvents guarding c.desc.zones).reportFreed c.tag (s.handleAt k)

/-- R10: a FADING_IN or STEADY cue begins its fade-out with the exit fade time `exit`; a cue that is fading is left as it
is. An exit fade time of 0 frees the slot in the same event. -/
def State.beginFade (guarding : Option (Fin 8)) (exit : Cue → Nat) (s : State) (k : Fin 48) : State :=
  match s.cueAt k with
  | none => s
  | some c =>
    if c.phase.isFadingOut then s
    else
      let s := s.putCue k { c with phase := .fadingOut 0 (exit c) c.fadeEnvelope }
      let s := s.setCues { s.cues with retiring := s.cues.retiring ++ [k] }
      let s := s.zoneEvents guarding c.desc.zones
      if exit c = 0 then s.freeSlot guarding k else s

/-- The stored fade-out time (R10). -/
def Cue.ownFade (c : Cue) : Nat := c.desc.fadeOut

/-- The live cues that satisfy `p`, in post order. -/
def State.cuesWhere (s : State) (p : Cue → Bool) : List (Fin 48) :=
  s.cues.postOrder.filter fun k => (s.cueAt k).any p

/-- Every cue of a list begins its fade-out, in the order of the list. -/
def State.fadeAll (s : State) (ks : List (Fin 48)) : State := ks.foldl (State.beginFade none Cue.ownFade) s

/-- Every cue of a list is freed, in the order of the list. -/
def State.freeAll (s : State) (ks : List (Fin 48)) : State := ks.foldl (State.freeSlot none) s

/-! ## Writing a cue (R3, R7, R43) -/

/-- R43: the gate fields of a cue that is written, at its target. -/
def Gate.run (g : Gate) (signals : BitVec 16) : GateRun :=
  { opened := g.isOpen signals, start := if g.isOpen signals then 1000 else 0, elapsed := 0 }

/-- R3, R7: a cue as it is written. -/
def Descriptor.newCue (d : Descriptor) (owner : BitVec 3) (tag : Option RunnerTag) (signals : BitVec 16) : Cue :=
  { owner := owner, tag := tag, desc := d, phase := if d.fadeIn = 0 then .steady else .fadingIn 0, clock := 0,
    remaining := d.lifetime, gateRun := d.gate.map fun g => g.run signals }

/-- The slot is filled: its generation advances and the cue joins the post-order list (R2, R5). -/
def CueTable.fill (t : CueTable) (k : Fin 48) (c : Cue) : CueTable :=
  { t with slots := modifyAt t.slots k fun x => { gen := x.gen + 1, cue := some c }
           postOrder := t.postOrder ++ [k] }

/-- Steps 3 to 5 of R18, and their like in R19: the cue is written, its events are raised, the dark interval restarts. -/
def State.writeCue (guarding : Option (Fin 8)) (s : State) (k : Fin 48) (owner : BitVec 3) (tag : Option RunnerTag)
    (d : Descriptor) : State :=
  ((s.setCues (s.cues.fill k (d.newCue owner tag s.signals))).zoneEvents guarding d.zones).reloadDark

/-! ## Posting (R15 to R18) -/

/-- R15: whether a live cue in slot `k` is purged by a new cue. -/
def Cue.purgedBy (c : Cue) (k : Fin 48) (owner : BitVec 3) (tag : Option RunnerTag) (d : Descriptor) : Bool :=
  transient k && !c.phase.isFadingOut && c.desc.layer == d.layer && (c.desc.zones &&& d.zones != 0) &&
    c.owner == owner && tag.all (fun t => c.tag.any (·.runner == t.runner))

/-- The cues that a posting purges, in post order. -/
def State.purged (s : State) (owner : BitVec 3) (tag : Option RunnerTag) (d : Descriptor) : List (Fin 48) :=
  s.cues.postOrder.filter fun k => (s.cueAt k).any fun c => c.purgedBy k owner tag d

/-- The lowest-numbered transient slot that is free (R1). -/
def CueTable.freeTransient (t : CueTable) : Option (Fin 48) :=
  (indices 48).find? fun k => transient k && t.slots[k].cue.isNone

/-- The place of a layer from lowest to highest (R16). -/
def Layer.rank : Layer → Nat
  | .foundation => 0
  | .theme => 1
  | .accent => 2
  | .alert => 3

/-- Whether `d` ranks strictly above `e`: by its layer, and within a layer by its priority (R17). -/
def Descriptor.above (d e : Descriptor) : Bool :=
  decide (e.layer.rank < d.layer.rank) || (d.layer == e.layer && decide (e.priority < d.priority))

/-- R16, 2: among the transient cues, the lowest in layer, then in priority, then the earliest in post order. -/
def State.lowestCue (s : State) : Option (Fin 48) :=
  s.cues.postOrder.foldl (fun best k =>
    if !transient k then best
    else
      match best, s.cueAt k with
      | none, some _ => some k
      | some j, some c => if (s.cueAt j).any fun b => b.desc.above c.desc then some k else best
      | _, none => best) none

/-- What a posting decides before it changes anything (R16, R17): no eviction, a victim, or no room. -/
inductive Room where
  | free
  | evict (victim : Fin 48)
  | refused
  deriving DecidableEq, Repr

/-- R16 and R17, with the cues as they will stand after the purge of `purged`. -/
def State.room (s : State) (purged : List (Fin 48)) (d : Descriptor) : Room :=
  if s.cues.freeTransient.isSome then .free
  else if d.fadeIn = 0 ∧ purged ≠ [] then .free
  else
    match (s.cues.retiring ++ purged).find? transient with
    | some k => .evict k
    | none =>
      match s.lowestCue with
      | none => .refused
      | some k => if (s.cueAt k).any fun c => d.above c.desc then .evict k else .refused

/-- R17: the victim is freed, and CUE_EVICTED is raised with its owner and its slot. -/
def State.evict (guarding : Option (Fin 8)) (s : State) (k : Fin 48) : State :=
  match s.cueAt k with
  | none => s
  | some c => (s.freeSlot guarding k).raise .cueEvicted (.client c.owner) (.number k)

/-- Steps 1 and 2 of R18: the purge and the eviction. -/
def State.makeRoom (guarding : Option (Fin 8)) (s : State) (purged : List (Fin 48)) (d : Descriptor) (room : Room) :
    State :=
  let s := purged.foldl (State.beginFade guarding fun _ => d.fadeIn) s
  match room with
  | .evict k => s.evict guarding k
  | _ => s

/-- R18: a posting, with the slot it fills; `none` for NO_ROOM, which changes nothing. -/
def State.post (guarding : Option (Fin 8)) (s : State) (owner : BitVec 3) (tag : Option RunnerTag) (d : Descriptor) :
    Option (Fin 48 × State) :=
  let purged := s.purged owner tag d
  let room := s.room purged d
  if room = .refused then none
  else
    let s := s.makeRoom guarding purged d room
    s.cues.freeTransient.map fun k => (k, s.writeCue guarding k owner tag d)

/-- POST_CUE (R14, R18). -/
def execPostCue (h : Header) (d : RawDescriptor) (s : State) : Result :=
  s.takeOpen 34 h fun s => guarded h s fun g =>
    require h.reservedOk <| requireSome (descriptorOf d) fun d =>
      match s.post g h.client none d.1 with
      | none => .refuse .noRoom .empty
      | some (k, s') => .accept d.2 (.handle (s'.handleAt k)) s'

/-- PLACE_CUE (R14, R19). -/
def execPlaceCue (h : Header) (slot : Byte) (d : RawDescriptor) (s : State) : Result :=
  s.takeConfiguring 35 h fun s => guarded h s fun g =>
    require (h.reservedOk && decide (slot.toNat < 8)) <| requireSome (index? 48 slot.toNat) fun k =>
      requireSome (descriptorOf d) fun d =>
        let s' := (s.freeSlot g k).writeCue g k h.client none d.1
        .accept d.2 (.handle (s'.handleAt k)) s'

/-! ## Modifying (R20, R21, R46) -/

/-- The descriptor after a modify whose mask is `mask` (R20), tested and clamped in the named fields only. -/
def Descriptor.modified (d : Descriptor) (mask : BitVec 16) (r : RawDescriptor) : Option (Descriptor × Bool) :=
  if mask.extractLsb' 6 10 ≠ 0 then none
  else do
    let int := if mask.getLsbD 0 then clampMax 1000 r.intensity.toNat else (d.intensity, false)
    let pri := if mask.getLsbD 1 then clampMax 15 r.priority.toNat else (d.priority, false)
    let a ← if mask.getLsbD 2 then colourOf r.aKind r.a0 r.a1 r.a2 else some (d.a, false)
    let b ← if mask.getLsbD 3 then colourBOf r.bKind r.b0 r.b1 r.b2 else some (d.b, false)
    let e ← if mask.getLsbD 4 then effectOf r.effect r.p0 r.p1 r.p2 else some (d.effect, false)
    let gate ← if mask.getLsbD 5 then gateOf r.gate else some d.gate
    if gradientOk e.1 b.1 = false then none
    else
      some ({ d with intensity := int.1, priority := pri.1, a := a.1, b := storedB e.1 b.1, effect := e.1,
                     gate := gate },
            int.2 || pri.2 || a.2 || b.2 || e.2)

/-- R46: the gate fields after a modify that names the gate. -/
def Cue.regated (c : Cue) (gate : Option Gate) (signals : BitVec 16) : Option GateRun :=
  gate.map fun g => { opened := g.isOpen signals, start := c.gateEnvelope, elapsed := 0 }

/-- R21: the cue after a modify. -/
def Cue.modified (c : Cue) (d : Descriptor) (mask : BitVec 16) (signals : BitVec 16) : Cue :=
  { c with desc := d, clock := if mask.getLsbD 4 then 0 else c.clock
           gateRun := if mask.getLsbD 5 then c.regated d.gate signals else c.gateRun }

/-- A modify is made: the cue is replaced and its events are raised (R21, R26). -/
def State.replaceCue (guarding : Option (Fin 8)) (s : State) (k : Fin 48) (c : Cue) : State :=
  (s.putCue k c).zoneEvents guarding c.desc.zones

/-- MODIFY_CUE (R14, R20, R21). -/
def execModifyCue (h : Header) (handle mask : BitVec 16) (d : RawDescriptor) (s : State) : Result :=
  s.takeOpen 38 h fun s => guarded h s fun g =>
    match s.resolve handle with
    | none => .refuse .notFound .empty
    | some (k, c) =>
      guardWith (c.owner != h.client) .denied <| guardWith c.phase.isFadingOut .wrongState <|
        require h.reservedOk <| requireSome (c.desc.modified mask d) fun d =>
          .accept d.2 .empty (s.replaceCue g k (c.modified d.1 mask s.signals))

/-! ## Retiring and refreshing (R22 to R24) -/

/-- A retirement of one cue (R22). -/
def State.retire (guarding : Option (Fin 8)) (mode : FadeMode) (s : State) (k : Fin 48) : State :=
  match mode with
  | .fade => s.beginFade guarding Cue.ownFade k
  | .now => s.freeSlot guarding k

/-- RETIRE_CUE (R14, R22); client 0 may retire any cue (R13). -/
def execRetireCue (h : Header) (handle : BitVec 16) (mode : Byte) (s : State) : Result :=
  s.takeOpen 3 h fun s => guarded h s fun g =>
    match s.resolve handle with
    | none => .refuse .notFound .empty
    | some (k, c) =>
      guardWith (c.owner != h.client && h.client != 0) .denied <|
        require h.reservedOk <| requireSome (fadeModeOf mode) fun m => .accept false .empty (s.retire g m k)

/-- The cues that a RETIRE_OWNER acts on (R23). -/
def State.ownedCues (s : State) (owner : BitVec 3) (mode : FadeMode) : List (Fin 48) :=
  s.cuesWhere fun c => c.owner == owner && (mode == .now || !c.phase.isFadingOut)

/-- RETIRE_OWNER (R23). -/
def execRetireOwner (h : Header) (owner mode : Byte) (s : State) : Result :=
  s.takeConfiguring 2 h fun s =>
    require (h.plain && decide (owner.toNat < 8)) <| requireSome (fadeModeOf mode) fun m =>
      let ks := s.ownedCues (owner.extractLsb' 0 3) m
      .accept false (.count ks.length) (ks.foldl (State.retire none m) s)

/-- R24: the cue after a refresh, with the mark that the lifetime was altered. -/
def Cue.refreshed (c : Cue) (lifetime : Option (BitVec 16)) : Cue × Bool :=
  match lifetime with
  | none => ({ c with remaining := if c.desc.lifetime.isSome then c.desc.lifetime else c.remaining }, false)
  | some raw =>
    let l := lifetimeOf raw
    ({ c with desc := { c.desc with lifetime := l.1 }, remaining := l.1 }, l.2)

/-- REFRESH_CUE (R14, R24). -/
def execRefreshCue (h : Header) (handle : BitVec 16) (lifetime : Option (BitVec 16)) (s : State) : Result :=
  s.takeOpen (if lifetime.isSome then 4 else 2) h fun s =>
    match s.resolve handle with
    | none => .refuse .notFound .empty
    | some (k, c) =>
      guardWith (c.owner != h.client) .denied <| guardWith c.phase.isFadingOut .wrongState <|
        require h.plain <| .accept (c.refreshed lifetime).2 .empty (s.putCue k (c.refreshed lifetime).1)

/-- What READ_CUE reports (R25). -/
def State.cueReport (s : State) (k : Fin 48) (c : Cue) : CueReport :=
  { handle := s.handleAt k, cue := c, timeIntoFade := c.timeIntoFade, fade := c.fadeEnvelope,
    gate := c.gateEnvelope, gateTarget := c.gateTarget, void := c.void s.palette }

/-- READ_CUE (R25). -/
def execReadCue (h : Header) (handle : BitVec 16) (s : State) : Result :=
  s.takeOpen 2 h fun s =>
    match s.resolve handle with
    | none => .refuse .notFound .empty
    | some (k, c) => require h.plain (.accept false (.cue (s.cueReport k c)) s)

/-! ## Lifecycle events (R9 to R12)

Each takes effect when its condition is met and changes nothing otherwise (log 1). -/

/-- Whether a cue's fade-in is complete (R9). -/
def Cue.fadeInDue (c : Cue) : Bool :=
  match c.phase with
  | .fadingIn t => decide (c.desc.fadeIn ≤ t)
  | _ => false

/-- Whether a cue's lifetime has run out (R11). -/
def Cue.lifetimeDue (c : Cue) : Bool := !c.phase.isFadingOut && c.remaining == some 0

/-- Whether a cue's fade-out is complete (R12). -/
def Cue.fadeOutDue (c : Cue) : Bool :=
  match c.phase with
  | .fadingOut t exit _ => decide (exit ≤ t)
  | _ => false

/-- R9. -/
def State.fadeInCompletion (s : State) (k : Fin 48) : State :=
  match s.cueAt k with
  | none => s
  | some c => if c.fadeInDue then s.putCue k { c with phase := .steady } else s

/-- R11. -/
def State.lifetimeExpiry (s : State) (k : Fin 48) : State :=
  if (s.cueAt k).any Cue.lifetimeDue then s.beginFade none Cue.ownFade k else s

/-- R12. -/
def State.fadeOutCompletion (s : State) (k : Fin 48) : State :=
  if (s.cueAt k).any Cue.fadeOutDue then s.freeSlot none k else s

/-- An event that reaches a block; none does while RESET_N is low (R189). -/
def State.event (s : State) (f : State → State) : Result := .next (if s.resetLow then s else f s)

/-- An event that the time base brings: none occurs while the time base is stopped, and one that is due then waits for it to
resume (R8, R31, R79, R172). -/
def State.timedEvent (s : State) (f : State → State) : Result :=
  s.event fun s => if s.power.state.timeRuns then f s else s

/-- FADE_IN_COMPLETION (R9). -/
def execFadeInCompletion (k : Fin 48) (s : State) : Result := s.timedEvent fun s => s.fadeInCompletion k

/-- LIFETIME_EXPIRY (R11). -/
def execLifetimeExpiry (k : Fin 48) (s : State) : Result := s.timedEvent fun s => s.lifetimeExpiry k

/-- FADE_OUT_COMPLETION (R12). -/
def execFadeOutCompletion (k : Fin 48) (s : State) : Result := s.timedEvent fun s => s.fadeOutCompletion k

end Sys2Proof.Machine
end

