-- ==== Sys2Proof/Machine/Sequence.lean ====
section
/-! DEFINITION. The Sequence Engine (chapter 8): its templates, slots and runners, the steps of an advance, the ends of a
run, and the commands it owns. -/

namespace Sys2Proof.Machine

open Sys2Proof

/-! ## Places -/

def State.setRunner (s : State) (r : Fin 2) (f : Runner → Runner) : State :=
  s.setSeq { s.seq with runners := modifyAt s.seq.runners r f }

def State.setSlot (s : State) (k : Fin 6) (f : SeqSlot → SeqSlot) : State :=
  s.setSeq { s.seq with slots := modifyAt s.seq.slots k f }

/-- The step at an index of a slot; nothing beyond the 32 places. -/
def SeqSlot.stepAt (q : SeqSlot) (i : Nat) : Option Step :=
  match index? 32 i with
  | none => none
  | some j => q.steps[j]

/-- The step at an index of the slot that a runner steps through. -/
def Sequencer.stepOf (q : Sequencer) (r : Fin 2) (i : Nat) : Option Step :=
  match q.runners[r].slot with
  | none => none
  | some k => q.slots[k].stepAt i

/-- A runner's cues: the live cues whose runner tag names it, in post order (R163). -/
def State.runnerCues (s : State) (r : Fin 2) : List (Fin 48) := s.cuesWhere fun c => c.tag.any (·.runner == r)

/-! ## The end of a run (R163, R164, R166) -/

/-- The runner becomes IDLE and its slot leaves RUNNING for READY (R151). -/
def State.idleRunner (s : State) (r : Fin 2) : State :=
  let k := s.seq.runners[r].slot
  let s := s.setRunner r fun x => { Runner.idle with index := x.index }
  match k with
  | none => s
  | some k => s.setSlot k fun q => { q with state := .ready }

/-- R166: when no runner remains active the Palette applies its staged values. -/
def State.reportIdle (s : State) : State := if s.seq.anyActive then s else s.applyStaged

/-- The runner stops: IDLE, its slot READY, SEQUENCE_END raised (R163, R164). -/
def State.stopRunner (s : State) (r : Fin 2) (cause : EndCause) : State :=
  match s.seq.runners[r].slot with
  | none => s.idleRunner r
  | some k => (s.idleRunner r).raise .sequenceEnd (.slot k) (.ended cause)

/-- The runner tag of a cue is made absent (R4). -/
def State.untag (s : State) (k : Fin 48) : State :=
  match s.cueAt k with
  | none => s
  | some c => s.putCue k { c with tag := none }

/-- What a disposition does to the runner's cues and zones (R163, R64). -/
def State.dispose (s : State) (r : Fin 2) (d : Disposition) : State :=
  match d with
  | .keep => (s.runnerCues r).foldl State.untag s
  | .retire => s.fadeAll (s.runnerCues r)
  | .hold => (s.holdZones s.seq.runners[r].posted).freeAll (s.runnerCues r)

/-- R163: the END step. -/
def State.finishRun (s : State) (r : Fin 2) (d : Disposition) : State :=
  ((s.dispose r d).stopRunner r .done).reportIdle

/-- R164 without its report: what an abort does to the cues, the runner and the slot. -/
def State.abortQuiet (s : State) (r : Fin 2) (cause : EndCause) : State :=
  (s.fadeAll (s.runnerCues r)).stopRunner r cause

/-- R164. -/
def State.abortRunner (s : State) (r : Fin 2) (cause : EndCause) : State := (s.abortQuiet r cause).reportIdle

/-! ## Steps (R155 to R162) -/

/-- The POST step of a runner (R156). -/
def State.postStep (s : State) (r : Fin 2) (t : Fin 24) (l : Fin 8) : State :=
  match s.seq.templates[t] with
  | none => s.setRunner r fun x => { x with labels := x.labels.set l none }
  | some d =>
    match s.post none 7 (some { runner := r, label := l }) d with
    | none => s.setRunner r fun x => { x with labels := x.labels.set l none }
    | some (k, s') => s'.setRunner r fun x =>
        { x with labels := x.labels.set l (some (s'.handleAt k)), posted := x.posted ||| d.zones }

/-- The slot of the cue that a label of a runner names, with the cue (R157). -/
def State.labelled (s : State) (r : Fin 2) (l : Fin 8) : Option (Fin 48 × Cue) :=
  match s.seq.runners[r].labels[l] with
  | none => none
  | some h => (s.cueAt h.slot).map fun c => (h.slot, c)

/-- The RETIRE step of a runner (R158). -/
def State.retireStep (s : State) (r : Fin 2) (l : Fin 8) (mode : FadeMode) : State :=
  match s.labelled r l with
  | none => s
  | some (k, _) => s.retire none mode k

/-- The MODIFY step of a runner (R158). -/
def State.modifyStep (s : State) (r : Fin 2) (l : Fin 8) (intensity : Nat) : State :=
  match s.labelled r l with
  | none => s
  | some (k, c) =>
    if c.phase.isFadingOut then s
    else s.replaceCue none k { c with desc := { c.desc with intensity := intensity } }

/-- The loop counter as a REPEAT at index `i` with this count finds it (R162, 1). -/
def Runner.counterAt (x : Runner) (i count : Nat) : Nat :=
  match x.loop with
  | none => count
  | some c => if c.index = i then c.remaining else count

/-- The REPEAT step of a runner, with the index it goes on at (R162). -/
def State.repeatStep (s : State) (r : Fin 2) (i target count : Nat) : State × Nat :=
  match s.seq.runners[r].counterAt i count with
  | 0 => (s.setRunner r fun x => { x with loop := none }, i + 1)
  | n + 1 => (s.setRunner r fun x => { x with loop := some { index := i, remaining := n } }, target)

/-- A runner waits at a step (R159, R160). -/
def State.waitAt (s : State) (r : Fin 2) (i : Nat) (state : RunnerState) (wait : Option Nat) : State :=
  s.setRunner r fun x => { x with state := state, index := i, wait := wait }

/-- An advance from index `i` (R155), of at most `fuel` steps. Where no validated sequence leads, a place that holds no
step or an advance that does not end, the runner waits for ever (log 19). -/
def State.advance : Nat → Fin 2 → Nat → State → State
  | 0, r, i, s => s.waitAt r i .signalWait none
  | fuel + 1, r, i, s =>
    match s.seq.stepOf r i with
    | none => s.waitAt r i .signalWait none
    | some (.post t l) => State.advance fuel r (i + 1) (s.postStep r t l)
    | some (.retire l m) => State.advance fuel r (i + 1) (s.retireStep r l m)
    | some (.modify l n) => State.advance fuel r (i + 1) (s.modifyStep r l n)
    | some (.wait d) => s.waitAt r i .timedWait (some d)
    | some (.waitSignal n v t _) =>
      if s.signals.getLsbD n = v then State.advance fuel r (i + 1) s
      else s.waitAt r i .signalWait (if t = 0 then none else some t)
    | some (.repeatFrom target count) =>
      let next := s.repeatStep r i target count
      State.advance fuel r next.2 next.1
    | some (.finish d) => s.finishRun r d

/-- More steps than one advance of a validated sequence takes: 32 places, and 255 further passes of disjoint ranges. -/
def advanceBound : Nat := 8224

/-! ## Starting (R152 to R154, R169) -/

/-- R65: the zones of every template that a POST step of a slot names. -/
def Sequencer.postedZones (q : Sequencer) (k : Fin 6) : BitVec 16 :=
  q.slots[k].steps.toList.foldl (fun z step =>
    match step with
    | some (.post t _) =>
      match q.templates[t] with
      | some d => z ||| d.zones
      | none => z
    | _ => z) 0

/-- R154: a runner is given the sequence in slot `k`. -/
def State.giveRunner (s : State) (r : Fin 2) (k : Fin 6) (starter : Starter) : State :=
  let order := s.seq.nextOrder
  let s := s.setRunner r fun _ =>
    { Runner.idle with state := .timedWait, slot := some k, startedBy := some starter, order := some order }
  let s := s.setSlot k fun q => { q with state := .running r }
  let s := s.setSeq { s.seq with nextOrder := order + 1 }
  let s := (s.releaseZones (s.seq.postedZones k)).reloadDark
  State.advance advanceBound r 0 s

/-- The rank of the sequence that a runner steps through. -/
def Sequencer.rankOf (q : Sequencer) (r : Fin 2) : Nat :=
  match q.runners[r].slot with
  | none => 0
  | some k => q.slots[k].rank

/-- R152, 5: of two active runners, the one of lower rank, and between equal ranks the one started earlier. -/
def Sequencer.candidate (q : Sequencer) : Fin 2 :=
  if q.rankOf 0 < q.rankOf 1 then 0
  else if q.rankOf 1 < q.rankOf 0 then 1
  else if q.runners[0].order.getD 0 < q.runners[1].order.getD 0 then 0
  else 1

/-- What the arbitration of R152 gives. -/
inductive Arbitration where
  | free (r : Fin 2)
  | preempt (r : Fin 2)
  | busy
  deriving DecidableEq, Repr

/-- R152, 5. -/
def Sequencer.arbitrate (q : Sequencer) (rank : Nat) : Arbitration :=
  if q.runners[0].state = .idle then .free 0
  else if q.runners[1].state = .idle then .free 1
  else if q.rankOf q.candidate < rank then .preempt q.candidate
  else .busy

/-- Tests 3 to 5 of R152 for slot `k`: the runner and the state after the start, or the status of the refusal. -/
def State.startSlot (s : State) (k : Fin 6) (starter : Starter) : Except Status (Fin 2 × State) :=
  match s.seq.slots[k].state with
  | .running _ => .error .busy
  | .empty | .loading => .error .notFound
  | .ready =>
    match s.seq.arbitrate s.seq.slots[k].rank with
    | .free r => .ok (r, s.giveRunner r k starter)
    | .preempt r => .ok (r, (s.abortQuiet r .preempted).giveRunner r k starter)
    | .busy => .error .busy

/-- R169: the armed slot is started as the wake welcome; nothing for an arm of none (R181). -/
def State.wakeStart (s : State) : State :=
  match s.power.welcomeArm with
  | none => s
  | some k =>
    match s.seq.slots[k].state with
    | .running _ => s
    | _ =>
      match s.startSlot k .wake with
      | .ok (_, s') => s'
      | .error .notFound => s.raise .sequenceEnd (.slot k) (.ended .notLoaded)
      | .error _ => s.raise .sequenceEnd (.slot k) (.ended .refusedBusy)

/-! ## Events -/

/-- Whether the WAIT of a runner has run out (R159). -/
def Runner.waitDue (x : Runner) : Bool := x.state == .timedWait && x.wait == some 0

/-- Whether the timeout of a runner's WAIT_SIGNAL has run out (R161). -/
def Runner.timeoutDue (x : Runner) : Bool := x.state == .signalWait && x.wait == some 0

/-- R159. -/
def State.waitExpiry (s : State) (r : Fin 2) : State :=
  if s.seq.runners[r].waitDue then State.advance advanceBound r (s.seq.runners[r].index + 1) s else s

/-- The on-timeout action of the step at which a runner waits; ABORT where it waits at no WAIT_SIGNAL (log 19). -/
def Sequencer.timeoutAction (q : Sequencer) (r : Fin 2) : TimeoutAction :=
  match q.stepOf r q.runners[r].index with
  | some (.waitSignal _ _ _ a) => a
  | _ => .abort

/-- STEP_TIMEOUT is raised (R161). -/
def State.raiseTimeout (s : State) (r : Fin 2) : State :=
  match s.seq.runners[r].slot with
  | none => s
  | some k => s.raise .stepTimeout (.slot k) (.number s.seq.runners[r].index)

/-- R161. -/
def State.waitSignalTimeout (s : State) (r : Fin 2) : State :=
  if s.seq.runners[r].timeoutDue then
    let i := s.seq.runners[r].index
    let action := s.seq.timeoutAction r
    let s := s.raiseTimeout r
    match action with
    | .goOn => State.advance advanceBound r (i + 1) s
    | .abort => s.abortRunner r .timeout
    | .goto target => State.advance advanceBound r target (s.setRunner r fun x => { x with loop := none })
  else s

/-- WAIT_EXPIRY (R159). -/
def execWaitExpiry (r : Fin 2) (s : State) : Result := s.timedEvent fun s => s.waitExpiry r

/-- WAIT_SIGNAL_TIMEOUT (R161). -/
def execWaitSignalTimeout (r : Fin 2) (s : State) : Result := s.timedEvent fun s => s.waitSignalTimeout r

/-- Whether a runner waits on signal `n` and the signal has the waited value (R160). -/
def State.releasedBy (s : State) (n : Fin 16) (r : Fin 2) : Bool :=
  s.seq.runners[r].state == .signalWait &&
    match s.seq.stepOf r s.seq.runners[r].index with
    | some (.waitSignal m v _ _) => m == n && s.signals.getLsbD n == v
    | _ => false

/-- R160: a runner that waits on signal `n` goes on from the next step. -/
def State.wakeRunner (s : State) (n : Fin 16) (r : Fin 2) : State :=
  if s.releasedBy n r then
    State.advance advanceBound r (s.seq.runners[r].index + 1) (s.setRunner r fun x => { x with wait := none })
  else s

/-- R42, R160: a signal change event reaches the Sequence Engine. When both runners wait on the signal, which of them
advances first is a free value (log 8). The whole advance of the one is made before that of the other: R155 makes each step
whole and would let their steps alternate (DESIGN CHOICE, log 50). -/
def State.wakeRunners (s : State) (n : Fin 16) : State :=
  if s.releasedBy n 0 && s.releasedBy n 1 then
    if Config.runnerOneFirst s.freeCounter then (s.useFree.wakeRunner n 1).wakeRunner n 0
    else (s.useFree.wakeRunner n 0).wakeRunner n 1
  else (s.wakeRunner n 0).wakeRunner n 1

/-! ## Templates (R145) -/

/-- LOAD_TEMPLATE (R145). -/
def execLoadTemplate (h : Header) (template : Byte) (d : RawDescriptor) (s : State) : Result :=
  s.takeConfiguring 35 h fun s =>
    require h.plain <| requireSome (index? 24 template.toNat) fun t => requireSome (descriptorOf d) fun d =>
      .accept d.2 .empty (s.setSeq { s.seq with templates := s.seq.templates.set t (some d.1) })

/-- CLEAR_TEMPLATE (R145). -/
def execClearTemplate (h : Header) (template : Byte) (s : State) : Result :=
  s.takeConfiguring 1 h fun s =>
    require h.plain <| requireSome (index? 24 template.toNat) fun t =>
      .accept false .empty (s.setSeq { s.seq with templates := s.seq.templates.set t none })

/-! ## Loading (R147 to R150) -/

def SlotState.isRunning : SlotState → Bool
  | .running _ => true
  | _ => false

/-- The steps of a LOAD_STEPS tested and clamped, or none when one fails (R148). -/
def stepsOf (raw : List RawStep) : Option (List (Step × Bool)) := raw.mapM stepOf

/-- R147: the slot after its LOADING has begun or goes on. -/
def SeqSlot.beginLoading (q : SeqSlot) : SeqSlot :=
  match q.state with
  | .loading => q
  | _ => { q with state := .loading, written := 0 }

/-- R147: steps stored at consecutive indices. -/
def SeqSlot.write (q : SeqSlot) (first : Nat) (steps : List Step) : SeqSlot :=
  { q with steps := q.steps.mapIdx fun i x => if first ≤ i ∧ i < first + steps.length then steps[i - first]? else x
           written := q.written ||| ((BitVec.allOnes 32 >>> (32 - steps.length)) <<< first) }

/-- LOAD_STEPS (R147). -/
def execLoadSteps (h : Header) (slot first : Byte) (steps : List RawStep) (s : State) : Result :=
  .next <| s.takeFrame .configuring false (loadStepsLengthOk steps) (2 + 6 * steps.length) h fun s =>
    require (h.plain && steps.all stepReservedOk) <| requireSome (index? 6 slot.toNat) fun k =>
      guardWith s.seq.slots[k].state.isRunning .busy <|
        require (!steps.isEmpty && decide (first.toNat + steps.length ≤ 32)) <|
          requireSome (stepsOf steps) fun xs =>
            let q := s.seq.slots[k].beginLoading.write first.toNat (xs.map (·.1))
            .accept (xs.any (·.2)) (.written q.written) (s.setSlot k fun _ => q)

/-- Whether some step with its index in `[lo, hi)` satisfies `p`. -/
def SeqSlot.anyStep (q : SeqSlot) (lo hi : Nat) (p : Step → Bool) : Bool :=
  (List.range hi).any fun i => decide (lo ≤ i) && (q.stepAt i).any p

def Step.isRepeat : Step → Bool
  | .repeatFrom _ _ => true
  | _ => false

def Step.isWait : Step → Bool
  | .wait _ => true
  | .waitSignal _ _ _ _ => true
  | _ => false

def Step.isEnd : Step → Bool
  | .finish _ => true
  | _ => false

/-- Whether a condition of R149 fails at index `i` of a sequence of `count` steps. -/
def SeqSlot.failsAt (q : SeqSlot) (count : Nat) (fault : SequenceFault) (i : Nat) : Bool :=
  match fault with
  | .notWritten => !q.written.getLsbD i
  | .finalNotEnd => decide (i + 1 = count) && !(q.stepAt i).any Step.isEnd
  | .targetNotBelow =>
    match q.stepAt i with
    | some (.repeatFrom t _) => decide (i ≤ t)
    | _ => false
  | .nestedRepeat =>
    match q.stepAt i with
    | some (.repeatFrom t _) => q.anyStep t i Step.isRepeat
    | _ => false
  | .rangeWithoutWait =>
    match q.stepAt i with
    | some (.repeatFrom t _) => !q.anyStep t i Step.isWait
    | _ => false
  | .gotoBeyond =>
    match q.stepAt i with
    | some (.waitSignal _ _ _ (.goto t)) => decide (count ≤ t)
    | _ => false

/-- The conditions in the order of R149's table. -/
def sequenceFaults : List SequenceFault :=
  [.notWritten, .finalNotEnd, .targetNotBelow, .nestedRepeat, .rangeWithoutWait, .gotoBeyond]

/-- R149: the first condition that fails, with the lowest index at which it fails. -/
def SeqSlot.validate (q : SeqSlot) (count : Nat) : Option (SequenceFault × Nat) :=
  sequenceFaults.findSome? fun f => ((List.range count).find? fun i => q.failsAt count f i).map fun i => (f, i)

/-- R149: the slot becomes READY. -/
def SeqSlot.finished (q : SeqSlot) (count rank : Nat) : SeqSlot :=
  { state := .ready, rank := rank, count := count, written := 0
    steps := q.steps.mapIdx fun i x => if i < count then x else none }

/-- FINISH_SEQUENCE (R149). -/
def execFinishSequence (h : Header) (slot count rank : Byte) (s : State) : Result :=
  s.takeConfiguring 3 h fun s =>
    require (h.plain && decide (1 ≤ count.toNat ∧ count.toNat ≤ 32 ∧ rank.toNat ≤ 7)) <|
      requireSome (index? 6 slot.toNat) fun k =>
        guardWith s.seq.slots[k].state.isRunning .busy <|
          guardWith (s.seq.slots[k].state != .loading) .wrongState <|
            match s.seq.slots[k].validate count.toNat with
            | some (f, i) => .refuse .badValue (.sequenceFault f i)
            | none => .accept false .empty (s.setSlot k fun q => q.finished count.toNat rank.toNat)

/-- CLEAR_SEQUENCE (R150). -/
def execClearSequence (h : Header) (slot : Byte) (s : State) : Result :=
  s.takeConfiguring 1 h fun s =>
    require h.plain <| requireSome (index? 6 slot.toNat) fun k =>
      guardWith s.seq.slots[k].state.isRunning .busy <|
        .accept false .empty (s.setSlot k fun _ => SeqSlot.empty)

/-! ## Starting, aborting, reading -/

/-- START_SEQUENCE (R152). -/
def execStartSequence (h : Header) (slot : Byte) (s : State) : Result :=
  s.takeOpen 1 h fun s =>
    require h.plain <| requireSome (index? 6 slot.toNat) fun k =>
      guardWith (s.power.state == .dimming) .wrongState <|
        match s.startSlot k (.client h.client) with
        | .error status => .refuse status .empty
        | .ok (r, s') => .accept false (.runner r) s'

/-- R165: client 0 may abort any running sequence, another client only one that it started. -/
def Runner.abortableBy (x : Runner) (client : BitVec 3) : Bool :=
  client == 0 || x.startedBy == some (.client client)

/-- ABORT_SEQUENCE (R165). -/
def execAbortSequence (h : Header) (slot : Byte) (s : State) : Result :=
  s.takeOpen 1 h fun s =>
    require h.plain <| requireSome (index? 6 slot.toNat) fun k =>
      match s.seq.slots[k].state with
      | .running r =>
        guardWith (!s.seq.runners[r].abortableBy h.client) .denied <|
          .accept false .empty (s.abortRunner r .aborted)
      | _ => .refuse .wrongState .empty

/-- What READ_SEQUENCE reports of a slot from a first index on (R167). -/
def Sequencer.report (q : Sequencer) (k : Fin 6) (first : Nat) : SequenceReport :=
  let x := q.slots[k]
  { state := x.state, rank := x.rank, count := x.count
    written := if x.state = .loading then some x.written else none
    steps := (x.steps.toList.drop first).take 16
    runner := match x.state with
      | .running r => some { number := r, runner := q.runners[r] }
      | _ => none }

/-- READ_SEQUENCE (R167). -/
def execReadSequence (h : Header) (slot first : Byte) (s : State) : Result :=
  s.takeOpen 2 h fun s =>
    require (h.plain && decide (first.toNat ≤ 31)) <| requireSome (index? 6 slot.toNat) fun k =>
      .accept false (.sequence (s.seq.report k first.toNat)) s

end Sys2Proof.Machine
end

