-- ==== Sys2Proof/Machine/Supply.lean ====
section
/-! DEFINITION. The Power Controller (chapter 9): the transitions between the power states, the events that make them, and
the six power commands. -/

namespace Sys2Proof.Machine

open Sys2Proof

/-! ## Transitions -/

/-- A POWER_STATE notice (R181). -/
def State.raisePower (s : State) (subject : Subject) (cause : PowerCause) : State :=
  s.raise .powerState subject (.power cause)

/-- R175: entry to POWERING. -/
def State.enterPowering (s : State) (cause : PathCause) : State :=
  (s.setPower { s.power with state := .powering, settle := some s.power.settleTime, awaited := 0,
                             cause := some cause }).setSupplyEn true

/-- R102, R59: what both entries to LIT do to the global level and the latest composites. -/
def State.relight (s : State) : State := (s.setCond s.cond.settled).setComposer s.composer.discardAll

/-- The detail of the entry to LIT (R176, 5). -/
def PathCause.detail : Option PathCause → PowerCause
  | some .wake => .wake
  | _ => .command

/-- The last frame of a lit period completes (R97): its composites become the latest, and its duty sets meet chains that have
left the state they held at its snapshot (R117). -/
def State.finishLastFrame (s : State) : State :=
  match s.composer.frame with
  | none => s
  | some f => s.setComposer (s.composer.record f)

/-- Steps 1 to 5 of R176, with the start of the frame timer. No frame is in flight at this entry (R96; log 41). -/
def State.lightUp (s : State) : State :=
  let cause := s.power.cause
  let s := s.finishLastFrame
  let s := s.setPower { s.power with state := .lit, envStart := 0, envElapsed := 0, cause := none, awaited := 0,
                                     settle := none }
  let s := s.relight.reloadDark
  let s := s.raisePower .lit (PathCause.detail cause)
  s.setComposer { s.composer with timer := some 0 }

/-- Step 6 of R176: a pending wake start is cleared, and the armed slot is started as the wake welcome. -/
def State.makePendingWake (s : State) : State :=
  if s.power.pendingWake then (s.setPower { s.power with pendingWake := false }).wakeStart else s

/-- Where step 6 of R176 stands beside the first snapshot is a free value (UNVERIFIED, log 10): it is made at once, or, where
the snapshot comes first, it stays pending until the frame timer has expired. With no welcome armed nothing is started, and
the pending start is cleared at once. -/
def State.orderEntryWake (s : State) : State :=
  if s.power.pendingWake && s.power.welcomeArm.isSome then
    if Config.snapshotFirst s.freeCounter then s.useFree else s.useFree.makePendingWake
  else s.makePendingWake

/-- R176: entry to LIT from POWERING. -/
def State.enterLit (s : State) : State := s.lightUp.orderEntryWake

/-- R175: chain `i` reports its arrival in RING, SPLIT or FAILED. -/
def State.chainArrived (s : State) (i : Fin 4) : State :=
  if s.power.state = .powering ∧ s.power.awaited.getLsbD i then
    let left := s.power.awaited &&& ~~~ BitVec.twoPow 4 i
    let s := s.setPower { s.power with awaited := left }
    if left = 0 then s.enterLit else s
  else s

/-- R172: entry to DORMANT. No frame is in flight there (R96; log 41). -/
def State.enterDormant (s : State) : State :=
  let s := s.finishLastFrame
  s.setPower { s.power with state := .dormant }

/-- R178, 4 and R32: every transient cue is freed, in post order. -/
def State.freeTransients (s : State) : State := s.freeAll (s.cues.postOrder.filter transient)

/-- R178: the end of DIMMING. -/
def State.endOfDimming (s : State) : State :=
  let dest := s.power.dest
  let s := s.stopChains.setSupplyEn false
  let s := (s.setComposer { s.composer with timer := none }).freeTransients
  let s := s.setPower { s.power with state := .standby, dest := none }
  let s := s.raisePower .standby .dimmed
  if dest = some .dormant then s.enterDormant else s

/-- R177: an active runner is aborted with the cause POWER. -/
def State.abortForPower (s : State) (r : Fin 2) : State :=
  if s.seq.runners[r].state.active then s.abortRunner r .power else s

/-- R177: entry to DIMMING. With a power fade time of 0 it ends in the same taking (R171). A step 6 of R176 that still waits
for the first snapshot is made first (DEDUCED, log 10). -/
def State.enterDimming (s : State) (dest : Destination) : State :=
  let s := s.makePendingWake
  let s := s.setPower { s.power with state := .dimming, dest := some dest, envStart := s.power.envelope,
                                     envElapsed := 0, darkRemaining := none }
  let s := (s.abortForPower 0).abortForPower 1
  if s.power.fadeTime = 0 then s.endOfDimming else s

/-- R178: the reversal of DIMMING. -/
def State.reverseDimming (s : State) : State :=
  let s := s.setPower { s.power with state := .lit, dest := none, envStart := s.power.envelope, envElapsed := 0 }
  s.relight.reloadDark.raisePower .lit .resumed

/-- R175: POWERING is abandoned. -/
def State.abandonPowering (s : State) : State :=
  let s := s.stopChains.setSupplyEn false
  let s := s.setPower { s.power with state := .standby, settle := none, awaited := 0, cause := none,
                                     pendingWake := false }
  s.raisePower .standby .abandoned

/-! ## The three GO commands (R182) -/

/-- What the replies to the GO commands carry (R182). -/
def Power.report (p : Power) : Payload := .power p.state p.envelope p.darkRemaining

/-- A GO command that is carried out. -/
def State.went (s : State) : Verdict := .accept false s.power.report s

/-- A GO command that is refused; its reply carries the same values (log 23). -/
def State.stayed (s : State) (status : Status) : Verdict := .refuse status s.power.report

/-- GO_DORMANT (R172 to R178, R182). That the reserved bits and GUARDED (R197) are tested before BUSY is the model's choice
(DESIGN CHOICE, log 51). -/
def execGoDormant (h : Header) (s : State) : Result :=
  s.takePower 0 h fun s =>
    if h.plain then
      match s.power.state with
      | .dormant | .waking | .powering => s.stayed .busy
      | .standby => s.enterDormant.went
      | .lit => (s.enterDimming .dormant).went
      | .dimming => (s.setPower { s.power with dest := some .dormant }).went
    else s.stayed .badValue

/-- GO_STANDBY (R173 to R178, R182). -/
def execGoStandby (h : Header) (s : State) : Result :=
  s.takePower 0 h fun s =>
    if h.plain then
      match s.power.state with
      | .dormant | .standby => s.went
      | .waking => (s.setPower { s.power with continueIntent := false, pendingWake := false }).went
      | .powering => s.abandonPowering.went
      | .lit => (s.enterDimming .standby).went
      | .dimming => (s.setPower { s.power with dest := some .standby }).went
    else s.stayed .badValue

/-- GO_LIT (R173 to R178, R182). -/
def execGoLit (h : Header) (s : State) : Result :=
  s.takePower 0 h fun s =>
    if h.plain then
      match s.power.state with
      | .dormant | .powering | .lit => s.went
      | .waking => (s.setPower { s.power with continueIntent := true }).went
      | .standby => (s.enterPowering .command).went
      | .dimming => s.reverseDimming.went
    else s.stayed .badValue

/-! ## Settings (R181, R182) -/

/-- R171: the ramp after a change of the power fade time in LIT or DIMMING. -/
def Power.refade (p : Power) (time : Nat) : Power :=
  if (p.state = .lit ∨ p.state = .dimming) ∧ time ≠ p.fadeTime then
    { p with fadeTime := time, envStart := p.envelope, envElapsed := 0 }
  else { p with fadeTime := time }

/-- SET_POWER_TIMES (R182). Bit 0 of the mask is read as the first of the three fields, so that bits 3 to 7 name none and are
BAD_VALUE (DEDUCED, log 49). -/
def execSetPowerTimes (h : Header) (mask : Byte) (wakeDelay settleTime fadeTime : BitVec 16) (s : State) : Result :=
  s.takeConfiguring 7 h fun s =>
    require (h.plain && mask.extractLsb' 3 5 == 0) <|
      let w := named (mask.getLsbD 0) (clampRange 1 255 wakeDelay.toNat) s.power.wakeDelay
      let t := named (mask.getLsbD 1) (clampRange 1 50 settleTime.toNat) s.power.settleTime
      let f := named (mask.getLsbD 2) (clampMax 2000 fadeTime.toNat) s.power.fadeTime
      .accept (w.2 || t.2 || f.2) .empty
        (s.setPower (Power.refade { s.power with wakeDelay := w.1, settleTime := t.1 } f.1))

/-- SET_DARK_INTERVAL (R182). -/
def execSetDarkInterval (h : Header) (seconds : BitVec 16) (s : State) : Result :=
  s.takeConfiguring 2 h fun s =>
    require h.plain <|
      let d := clampMax 255 seconds.toNat
      .accept d.2 .empty (s.setPower { s.power with darkInterval := d.1 }).reloadDark

/-- The slot that ARM_WELCOME names: 255 for none, 0 to 5 for a slot (R181, 11.6). -/
def armOf (slot : Byte) : Option (Option (Fin 6)) :=
  if slot = 255 then some none else (index? 6 slot.toNat).map some

/-- ARM_WELCOME (R181). -/
def execArmWelcome (h : Header) (slot : Byte) (s : State) : Result :=
  s.takeConfiguring 1 h fun s =>
    require h.plain <| requireSome (armOf slot) fun arm =>
      .accept false .empty (s.setPower { s.power with welcomeArm := arm })

/-! ## Events -/

/-- CS_N_FALL_IN_DORMANT (R172, R188): a chip-select period that begins in DORMANT. -/
def execCsNFallInDormant (s : State) : Result :=
  s.event fun s =>
    if s.power.state = .dormant then s.useFree.wakeByChipSelect (Config.clockedInDormant s.freeCounter) else s

/-- A WAKE edge with the welcome armed, in the states in which one that is not armed changes nothing. -/
def State.armedEdge (s : State) : State :=
  match s.power.state with
  | .dormant => s
  | .waking => s.setPower { s.power with continueIntent := true, pendingWake := true }
  | .standby => (s.setPower { s.power with pendingWake := true }).enterPowering .wake
  | .powering => s.setPower { s.power with pendingWake := true }
  | .lit => s.wakeStart
  | .dimming => s.reverseDimming.wakeStart

/-- A rising edge on WAKE (R172 to R178). -/
def State.wakeEdge (s : State) : State :=
  if s.power.state = .dormant then s.setPower (s.power.wakeUp s.power.welcomeArm.isSome)
  else if s.power.welcomeArm.isSome then s.armedEdge
  else s

/-- WAKE_RISING_EDGE (R172 to R178). -/
def execWakeRisingEdge (s : State) : Result := s.event State.wakeEdge

/-- R173: the wake delay expires. -/
def State.wakeDelayExpiry (s : State) : State :=
  if s.power.state = .waking then
    let go := s.power.continueIntent
    let cause := if s.power.pendingWake then PathCause.wake else PathCause.command
    let s := s.setPower { s.power with state := .standby, wakeTimer := none, continueIntent := false }
    let s := s.raisePower .standby .woken
    if go then s.enterPowering cause else s
  else s

/-- WAKE_DELAY_EXPIRY (R173). -/
def execWakeDelayExpiry (s : State) : Result := s.event State.wakeDelayExpiry

/-- R175: the chains that are enabled. -/
def State.enabledChains (s : State) : BitVec 4 :=
  (indices 4).foldl (fun m i => if s.chains[i].enabled then m ||| BitVec.twoPow 4 i else m) 0

/-- R175: the supply settle timer expires. -/
def State.settleExpiry (s : State) : State :=
  if s.power.state = .powering ∧ s.power.settle.isSome then
    let enabled := s.enabledChains
    let s := s.setPower { s.power with settle := none, awaited := enabled }
    let s := (members enabled).foldl State.startChain s
    if enabled = 0 then s.enterLit else s
  else s

/-- SUPPLY_SETTLE_EXPIRY (R175). -/
def execSupplySettleExpiry (s : State) : Result := s.event State.settleExpiry

/-- Whether DIMMING has reached its end (R171, R178). -/
def Power.dimmed (p : Power) : Bool := p.state == .dimming && p.envelope == 0

/-- R178. -/
def State.dimmingEnd (s : State) : State := if s.power.dimmed then s.endOfDimming else s

/-- END_OF_DIMMING (R178). -/
def execEndOfDimming (s : State) : Result := s.event State.dimmingEnd

/-- Whether the dark interval has run out (R179). -/
def Power.darkDue (p : Power) : Bool := p.state == .lit && p.darkRemaining == some 0

/-- R179. -/
def State.darkExpiry (s : State) : State := if s.power.darkDue then s.enterDimming .standby else s

/-- DARK_INTERVAL_EXPIRY (R179). -/
def execDarkIntervalExpiry (s : State) : Result := s.event State.darkExpiry

end Sys2Proof.Machine
end

