-- ==== Sys2Proof/Machine/Ring.lean ====
section
/-! DEFINITION. The Chain Controllers at work (sections 7.4 to 7.7): counting and identifying, carrying duty sets, checking
replies, finding a break, driving two halves, restoring the loop, and failing. Each event takes effect when the frame or the
timer it concerns is the chain's, and changes nothing otherwise (log 1). -/

namespace Sys2Proof.Machine

open Sys2Proof

/-! ## Shared operations -/

def State.updateChain (s : State) (i : Fin 4) (f : Chain → Chain) : State := s.setChain i (f s.chains[i])

def State.raiseChain (s : State) (i : Fin 4) (e : ChainEvent) : State := s.raise .chainState (.chain i) (.chain e)

def State.raiseMismatch (s : State) (i : Fin 4) (n : Nat) : State := s.raise .countMismatch (.chain i) (.number n)

def State.raiseNode (s : State) (i : Fin 4) (position : Nat) (f : NodeFault) : State :=
  s.raise .nodeFault (.node { chain := i, position := position }) (.node f)

/-- R142: the record of a chain that fails, with its SLEEP frames. -/
def Chain.fail (c : Chain) : Chain := ({ c with mailbox := none, mode := .failed } : Chain).sleep

/-- R142: entry to FAILED. -/
def State.failChain (s : State) (i : Fin 4) : State :=
  ((s.updateChain i Chain.fail).raiseChain i .failed).chainArrived i

/-- R135: the record of a chain that begins a LOCATE, with its first probe. -/
def Chain.locate (fromRing : Bool) (c : Chain) : Chain :=
  ({ c with mailbox := none, mode := .locating .whole false fromRing } : Chain).transmit .out (probeFrame .out 0)

/-- R135: entry to LOCATING. -/
def State.locateChain (s : State) (i : Fin 4) (fromRing : Bool) : State :=
  (s.raiseChain i .locating).updateChain i (Chain.locate fromRing)

/-- R129, R130, R132: LOCATING under AUTO and MANUAL, FAILED under HALT. -/
def State.giveUp (s : State) (i : Fin 4) (fromRing : Bool) : State :=
  if s.chains[i].rejoin = .halt then s.failChain i else s.locateChain i fromRing

/-- The running position of a COUNT that is good (R129). -/
def countReply (f : RingFrame) (e : End) : Option Nat :=
  if frameClean f .count e 1 then (f.slots.head?.filter slotHolds).map slotPosition else none

/-- The counted number r − 1, in the eight bits of the running position (log 12). -/
def countedNumber (position : Nat) : Nat := (position + 255) % 256

/-- Positions from OUT, in the order that a frame meets the nodes. -/
def outPositions (reach : Nat) : List Nat := List.range' 1 reach

/-- Positions from IN, in the order that a frame meets the nodes. -/
def inPositions (n reach : Nat) : List Nat := (List.range' (n - reach + 1) reach).reverse

/-! ## IDENT slots (R130) -/

/-- One reply slot of an IDENT: the bin is read, or the retries total rises, whether or not the node was read before
(DEDUCED, log 30). -/
def Chain.readBin (c : Chain) (x : Nat × BitVec 48) : Chain :=
  if goodIdentReply x.2 then
    match c.nodeAt x.1 with
    | none => c
    | some n => c.setNode x.1 { n with bin := slotBin x.2 }
  else c.retry 1

/-- Every reply slot of an IDENT, with the position that each is for. -/
def Chain.readBins (replies : List (Nat × BitVec 48)) (c : Chain) : Chain := replies.foldl Chain.readBin c

/-- The nodes that remain unread after an IDENT; one that was read once is not unread later (DEDUCED, log 30). -/
def stillUnread (unread : List Nat) (replies : List (Nat × BitVec 48)) : List Nat :=
  unread.filter fun p => !replies.any fun x => x.1 == p && goodIdentReply x.2

/-- A node that no IDENT has read enters OFFLINE with bin 0 (R130), its good-reply run at 0 (R133). -/
def State.markUnread (i : Fin 4) (s : State) (position : Nat) : State :=
  match s.chains[i].nodeAt position with
  | none => s
  | some n =>
    (s.updateChain i fun c => c.setNode position { n with state := .offline, bin := 0, goodRun := 0 }).raiseNode i
      position .offline

/-- The nodes of a stretch that were read enter ONLINE. -/
def Chain.markRead (positions unread : List Nat) (c : Chain) : Chain :=
  c.mapNodes fun p n => if positions.contains p && !unread.contains p then { n with state := .online } else n

/-- The end of an IDENT in which some frame was clean (R130): the nodes never read go OFFLINE, in ascending order (DEDUCED,
log 14), and HALT then fails the chain; otherwise `next` follows. -/
def State.concludeIdent (s : State) (i : Fin 4) (positions unread : List Nat) (next : State → State) : State :=
  let s := ((List.range' 1 60).filter unread.contains).foldl (State.markUnread i) s
  if unread ≠ [] ∧ s.chains[i].rejoin = .halt then s.failChain i
  else next (s.updateChain i (Chain.markRead positions unread))

/-! ## Starting (R129, R130) -/

/-- The chain enters RING from STARTING, and the arrival is reported. -/
def State.arriveRing (s : State) (i : Fin 4) : State :=
  (s.updateChain i fun c => { c with mode := .ring none, ringDone := true }).chainArrived i

/-- The COUNT of a start is sent. -/
def Chain.countAgain (failures : Nat) (c : Chain) : Chain :=
  ({ c with mode := .counting failures } : Chain).transmit .out (countFrame .out 0 1)

/-- A COUNT failure of a start, after `failures` others in a row. -/
def State.startCountFailed (s : State) (i : Fin 4) (failures : Nat) : State :=
  let s := s.updateChain i fun c => c.retry 1
  if failures < 2 then s.updateChain i (Chain.countAgain (failures + 1))
  else if s.chains[i].rate = .fast then
    (s.updateChain i fun c => Chain.countAgain 0 { c with rate := .slow }).raiseChain i .rateSlow
  else s.giveUp i false

/-- The found count is taken and its records enter SUSPECT (R129). -/
def Chain.count (n : Nat) (c : Chain) : Chain :=
  ({ c with found := n } : Chain).mapNodes fun p x => if p ≤ n then { x with state := .suspect } else x

/-- The first IDENT of a start is sent. -/
def Chain.identifyLoop (n : Nat) (c : Chain) : Chain :=
  ({ c with mode := .identifying 1 0 (outPositions n) } : Chain).transmit .out (identFrame .out 0 n)

/-- A good COUNT of a start (R129). -/
def State.startCounted (s : State) (i : Fin 4) (position : Nat) : State :=
  let n := countedNumber position
  if 60 < n then (s.raiseMismatch i 61).failChain i
  else
    let s := if n = s.chains[i].expected then s else s.raiseMismatch i n
    let s := s.updateChain i (Chain.count n)
    if n = 0 then s.arriveRing i else s.updateChain i (Chain.identifyLoop n)

/-- What follows the `sent`-th IDENT of a start (R130). -/
def State.startIdentified (s : State) (i : Fin 4) (sent lost : Nat) (unread : List Nat) : State :=
  if unread ≠ [] ∧ sent < 3 then
    s.updateChain i fun c =>
      ({ c with mode := .identifying (sent + 1) lost unread } : Chain).transmit .out (identFrame .out 0 c.found)
  else if lost = 3 then s.giveUp i false
  else s.concludeIdent i (outPositions s.chains[i].found) unread fun s => s.arriveRing i

/-! ## SPLIT: entry and side enumeration (R137, R138) -/

/-- The reach of a side. -/
def Split.reach (x : Split) : End → Nat
  | .out => x.outReach
  | .inn => x.inReach

/-- The positions of a side in the order that its frames meet them. -/
def Split.positions (x : Split) (n : Nat) : End → List Nat
  | .out => outPositions x.outReach
  | .inn => inPositions n x.inReach

/-- The chain is in SPLIT with this operation. -/
def Chain.phase (c : Chain) (x : Split) (p : SplitPhase) : Chain := { c with mode := .split { x with phase := p } }

/-- The break of a split (R137, 5). -/
def Split.break (x : Split) (n : Nat) : Break := { lastOut := x.outReach, firstIn := n - x.inReach + 1 }

/-- The restore timer as it is started under AUTO, and stopped otherwise (R141). -/
def Chain.restoreTimer (c : Chain) : RestoreTimer := if c.rejoin = .auto then c.runRestore else .stopped

/-- Steps 5 and 7 of R137. -/
def Chain.settleSplit (x : Split) (c : Chain) : Chain :=
  ({ c with brk := some (x.break c.found), runOut := 0, runIn := 0
            mode := .split { x with phase := .driving .idle .idle [], restore := c.restoreTimer } } : Chain).switched

/-- Steps 5 to 8 of R137. -/
def State.finishSplit (s : State) (i : Fin 4) (x : Split) : State :=
  ((s.updateChain i (Chain.settleSplit x)).raiseChain i (.split (x.break s.chains[i].found))).chainArrived i

/-- The COUNT of a side is sent (R138). -/
def Chain.countSide (x : Split) (e : End) (failures : Nat) (c : Chain) : Chain :=
  (c.phase x (.counting e failures)).transmit e
    (countFrame e (x.reach e) (match e with
      | .out => 1
      | .inn => c.found))

/-- What a good COUNT of a side returns with (R138). -/
def Split.returns (x : Split) (n : Nat) : End → Nat
  | .out => x.outReach + 1
  | .inn => n - x.inReach

/-- The `sent`-th IDENT of a side is sent. -/
def Chain.identifySide (x : Split) (e : End) (sent lost : Nat) (unread : List Nat) (c : Chain) : Chain :=
  (c.phase x (.identifying e sent lost unread)).transmit e (identFrame e (x.reach e) (x.reach e))

/-- A COUNT failure of a side, after `failures` others in a row. -/
def State.sideCountFailed (s : State) (i : Fin 4) (x : Split) (e : End) (failures : Nat) : State :=
  let s := s.updateChain i fun c => c.retry 1
  if failures < 2 then s.updateChain i (Chain.countSide x e (failures + 1)) else s.failChain i

/-- The side after `e` is enumerated, or the entry to SPLIT is finished. -/
def State.nextSide (s : State) (i : Fin 4) (x : Split) (e : End) : State :=
  if e = .out ∧ 0 < x.inReach then s.updateChain i (Chain.countSide x .inn 0) else s.finishSplit i x

/-- What follows the `sent`-th IDENT of a side (R138). -/
def State.sideIdentified (s : State) (i : Fin 4) (x : Split) (e : End) (sent lost : Nat) (unread : List Nat) : State :=
  if unread ≠ [] ∧ sent < 3 then s.updateChain i (Chain.identifySide x e (sent + 1) lost unread)
  else if lost = 3 then s.failChain i
  else s.concludeIdent i (x.positions s.chains[i].found e) unread fun s => s.nextSide i x e

/-- The record of a position on entry to SPLIT with reference count `n` (R137, 3 and 4; log 14). -/
def splitNode (n outReach inReach : Nat) (renew : Bool) (p : Nat) (x : Node) : Node :=
  if n < p then { x with state := .absent }
  else if outReach < p ∧ p ≤ n - inReach then { x with state := .unreachable }
  else if renew then { x with state := .suspect, badReplies := 0, goodRun := 0 }
  else x

/-- The record of a chain that enters SPLIT (R137, 2 to 4). -/
def Chain.split (n : Nat) (x : Split) (renew : Bool) (c : Chain) : Chain :=
  ({ c with found := n, mode := .split x } : Chain).mapNodes (splitNode n x.outReach x.inReach renew)

/-- The reference count before step 1 of R137. -/
def Chain.reference (c : Chain) : Nat := if c.ringDone then c.found else c.expected

/-- R137: entry to SPLIT from LOCATING. -/
def State.enterSplit (s : State) (i : Fin 4) (outReach inReach : Nat) : State :=
  let c := s.chains[i]
  let more := decide (c.reference < outReach + inReach)
  let n := if more then outReach + inReach else c.reference
  let renew := more || !c.ringDone
  let x : Split := { outReach := outReach, inReach := inReach, phase := .driving .idle .idle [], restore := .stopped }
  let s := if more then s.raiseMismatch i n else s
  let s := s.updateChain i (Chain.split n x renew)
  if renew then s.updateChain i (Chain.countSide x (if 0 < outReach then .out else .inn) 0) else s.finishSplit i x

/-! ## LOCATE (R135, R136) -/

/-- A probe of a LOCATE is sent. -/
def Chain.probe (probe : LocateProbe) (second fromRing : Bool) (c : Chain) : Chain :=
  ({ c with mode := .locating probe second fromRing } : Chain).transmit
    (match probe with
      | .fromIn _ _ => .inn
      | _ => .out)
    (match probe with
      | .whole => probeFrame .out 0
      | .fromOut hop => probeFrame .out hop
      | .fromIn _ hop => probeFrame .inn hop)

/-- The end that a probe of a LOCATE is sent from. -/
def LocateProbe.sender : LocateProbe → End
  | .whole => .out
  | .fromOut _ => .out
  | .fromIn _ _ => .inn

/-- R136: both reaches are known. -/
def State.located (s : State) (i : Fin 4) (outReach inReach : Nat) : State :=
  if outReach = 0 ∧ inReach = 0 then s.failChain i
  else if 60 < outReach + inReach then (s.raiseMismatch i 61).failChain i
  else s.enterSplit i outReach inReach

/-- R135: a probe is returned. -/
def State.probeReached (s : State) (i : Fin 4) (probe : LocateProbe) (fromRing : Bool) : State :=
  match probe with
  | .whole => if fromRing then s.updateChain i fun c => { c with mode := .ring none } else s.failChain i
  | .fromOut hop =>
    s.updateChain i (Chain.probe (if 60 ≤ hop then .fromIn hop 1 else .fromOut (hop + 1)) false fromRing)
  | .fromIn j hop =>
    if 60 ≤ hop then s.located i j hop else s.updateChain i (Chain.probe (.fromIn j (hop + 1)) false fromRing)

/-- R135: both sendings of a probe are lost. -/
def State.probeFailed (s : State) (i : Fin 4) (probe : LocateProbe) (fromRing : Bool) : State :=
  match probe with
  | .whole => s.updateChain i (Chain.probe (.fromOut 1) false fromRing)
  | .fromOut hop => s.updateChain i (Chain.probe (.fromIn (hop - 1) 1) false fromRing)
  | .fromIn j hop => s.located i j (hop - 1)

/-- R135: a sending of a probe is lost. -/
def State.probeMissed (s : State) (i : Fin 4) (probe : LocateProbe) (second fromRing : Bool) : State :=
  if second then s.probeFailed i probe fromRing else s.updateChain i (Chain.probe probe true fromRing)

/-! ## Reply checking (R109, R133, R134) -/

/-- The flags of a record after a good reply. -/
def NodeFlags.replied (f : NodeFlags) (reply : BitVec 48) : NodeFlags :=
  { openRed := reply.getLsbD 39, openGreen := reply.getLsbD 38, openBlue := reply.getLsbD 37
    short := reply.getLsbD 36, overheat := overheatAfter f.overheat (slotTemperature reply) }

/-- R133: a record after a good reply. -/
def Node.goodReply (n : Node) (rejoin : Rejoin) (reply : BitVec 48) : Node :=
  let n := { n with temperature := slotTemperature reply, flags := n.flags.replied reply, badReplies := 0 }
  match n.state with
  | .online | .suspect => { n with state := .online }
  | .offline =>
    let run := min 255 (n.goodRun + 1)
    if rejoin = .auto ∧ 3 ≤ run then { n with state := .online, goodRun := 0 } else { n with goodRun := run }
  | .absent | .unreachable => n

/-- R133: a record after a bad reply. -/
def Node.badReply (n : Node) (limit : Nat) : Node :=
  match n.state with
  | .online | .suspect =>
    if limit < n.badReplies + 1 then { n with state := .offline, badReplies := n.badReplies + 1, goodRun := 0 }
    else { n with state := .suspect, badReplies := n.badReplies + 1 }
  | .offline => { n with goodRun := 0 }
  | .absent | .unreachable => n

/-- The faults that a reply newly sets, in the order of R134, OVERHEAT after them (R109). -/
def newFaults (before after : NodeFlags) : List NodeFault :=
  (if !before.openRed && after.openRed then [.openRed] else []) ++
  (if !before.openGreen && after.openGreen then [.openGreen] else []) ++
  (if !before.openBlue && after.openBlue then [.openBlue] else []) ++
  (if !before.short && after.short then [.short] else []) ++
  (if !before.overheat && after.overheat then [.overheat] else [])

/-- A bad reply newly takes a record OFFLINE. -/
def Node.dropsOut (n : Node) (limit : Nat) : Bool := n.state.driven && decide (limit < n.badReplies + 1)

/-- One reply slot of a clean DUTY frame against the slot sent, with the mark that a node has entered OFFLINE. -/
def State.handleReply (i : Fin 4) (s : State × Bool) (x : SentSlot × BitVec 48) : State × Bool :=
  match s.1.chains[i].nodeAt x.1.position with
  | none => s
  | some n =>
    if goodDutyReply x.1.bits x.2 then
      let n' := n.goodReply s.1.chains[i].rejoin x.2
      ((newFaults n.flags n'.flags).foldl (fun s f => s.raiseNode i x.1.position f)
        (s.1.updateChain i fun c => c.setNode x.1.position n'), s.2)
    else
      let limit := s.1.chains[i].retryLimit
      let s' := s.1.updateChain i fun c => (c.setNode x.1.position (n.badReply limit)).retry 1
      if n.dropsOut limit then (s'.raiseNode i x.1.position .offline, true) else (s', s.2)

/-- Every reply slot of a clean DUTY frame, in index order; under HALT a node that entered OFFLINE fails the chain. -/
def State.checkReplies (s : State) (i : Fin 4) (slots : List SentSlot) (replies : List (BitVec 48)) : State :=
  let r := (slots.zip replies).foldl (State.handleReply i) (s, false)
  if r.2 && r.1.chains[i].rejoin == .halt then r.1.failChain i else r.1

/-! ## RING (R131, R132) -/

/-- The slot of an entry as it is sent now: blank for a node that is OFFLINE. -/
def Chain.sentSlot (c : Chain) (d : DutyEntry) : SentSlot :=
  { position := d.position
    bits := dutySlot (if (c.nodeAt d.position).any (·.state == .offline) then .blank else d.duty) }

/-- A DUTY frame with a set is sent in RING, and the mailbox is empty (R131). -/
def Chain.sendRing (set : List DutyEntry) (c : Chain) : Chain :=
  let slots := set.map c.sentSlot
  ({ c with mailbox := none, mode := .ring (some { set := set, slots := slots }) } : Chain).transmit .out
    (dutyFrame .out 0 slots)

/-- A clean DUTY frame in RING. -/
def State.ringClean (s : State) (i : Fin 4) (slots : List SentSlot) (f : RingFrame) : State :=
  (s.updateChain i fun c => { c with runOut := 0, mode := .ring none }).checkReplies i slots f.slots

/-- A lost DUTY frame in RING (R131, R132). -/
def State.ringLost (s : State) (i : Fin 4) (set : List DutyEntry) : State :=
  let s := s.updateChain i fun c => c.retry 1
  let c := s.chains[i]
  if c.retryLimit < c.runOut + 1 then (s.updateChain i fun c => { c with runOut := 0 }).giveUp i true
  else s.updateChain i fun c => Chain.sendRing (c.mailbox.getD set) { c with runOut := c.runOut + 1 }

/-! ## SPLIT operation (R139, R140) -/

/-- What a side does, while both sides are driven. -/
def SplitPhase.side (p : SplitPhase) (e : End) : Option Side :=
  match p, e with
  | .driving o _ _, .out => some o
  | .driving _ n _, .inn => some n
  | _, _ => none

/-- The set being carried. -/
def SplitPhase.carried : SplitPhase → List DutyEntry
  | .driving _ _ set => set
  | _ => []

/-- A side does something else. -/
def SplitPhase.withSide (p : SplitPhase) (e : End) (v : Side) : SplitPhase :=
  match p, e with
  | .driving _ n set, .out => .driving v n set
  | .driving o _ set, .inn => .driving o v set
  | p, _ => p

/-- The entries of a side, in the order that its half meets the nodes (R139). -/
def Split.entries (x : Split) (n : Nat) (set : List DutyEntry) : End → List DutyEntry
  | .out => set.filter fun d => decide (d.position ≤ x.outReach)
  | .inn => (set.filter fun d => decide (n - x.inReach < d.position ∧ d.position ≤ n)).reverse

/-- A half is sent from a side (R139). -/
def Chain.sendHalf (x : Split) (e : End) (set : List DutyEntry) (c : Chain) : Chain :=
  let slots := (x.entries c.found set e).map c.sentSlot
  (c.phase x (x.phase.withSide e (.half slots))).transmit e (dutyFrame e (x.reach e) slots)

/-- A side that is idle and has a reach sends its half of the set being carried. -/
def Chain.sendIdle (c : Chain) (e : End) : Chain :=
  match c.mode with
  | .split x => if x.phase.side e = some .idle ∧ 0 < x.reach e then c.sendHalf x e x.phase.carried else c
  | _ => c

/-- A set is taken from the mailbox and its halves are sent (R139). -/
def Chain.takeSplit (x : Split) (set : List DutyEntry) (c : Chain) : Chain :=
  match x.phase with
  | .driving o n _ =>
    ((({ c with mailbox := none } : Chain).phase x (.driving o n set)).sendIdle .out).sendIdle .inn
  | _ => c

/-- Whether a side has a half on the loop. -/
def Side.busy : Side → Bool
  | .half _ => true
  | _ => false

/-- Whether a set can be taken now: the one before is carried, no restore attempt is due, and some side can send
(R139, R141; log 17). -/
def Split.ready (x : Split) : Bool :=
  match x.phase with
  | .driving o n _ =>
    !o.busy && !n.busy && x.restore != .expired &&
      ((o == .idle && decide (0 < x.outReach)) || (n == .idle && decide (0 < x.inReach)))
  | _ => false

/-- R131, R139: a set waits and the loop is free. -/
def Chain.dutySend (c : Chain) : Chain :=
  match c.mailbox, c.mode with
  | some set, .ring none => c.sendRing set
  | some set, .split x => if x.ready then c.takeSplit x set else c
  | _, _ => c

/-- The ring-loss run of an end. -/
def Chain.run (c : Chain) : End → Nat
  | .out => c.runOut
  | .inn => c.runIn

def Chain.setRun (c : Chain) (e : End) (n : Nat) : Chain :=
  match e with
  | .out => { c with runOut := n }
  | .inn => { c with runIn := n }

/-- A probe of a re-location is sent (R140). -/
def Chain.probeSide (x : Split) (e : End) (hop : Nat) (second : Bool) (c : Chain) : Chain :=
  (c.phase x (x.phase.withSide e (.relocating hop second))).transmit e (probeFrame e hop)

/-- A clean half (R139). -/
def State.halfClean (s : State) (i : Fin 4) (x : Split) (e : End) (slots : List SentSlot) (f : RingFrame) : State :=
  (s.updateChain i fun c => (c.setRun e 0).phase x (x.phase.withSide e .idle)).checkReplies i slots f.slots

/-- A lost half (R139). -/
def State.halfLost (s : State) (i : Fin 4) (x : Split) (e : End) : State :=
  let s := s.updateChain i fun c => (c.retry 1).setRun e (c.run e + 1)
  let c := s.chains[i]
  if c.retryLimit < c.run e then
    if c.rejoin = .halt then s.failChain i else s.updateChain i (Chain.probeSide x e 1 false)
  else s.updateChain i fun c => c.sendHalf x e (c.mailbox.getD x.phase.carried)

/-- A side's reach is replaced. -/
def Split.withReach (x : Split) (e : End) (reach : Nat) : Split :=
  match e with
  | .out => { x with outReach := reach }
  | .inn => { x with inReach := reach }

/-- Whether a position of a side falls beyond its new reach (R140). -/
def Split.beyond (x : Split) (n : Nat) (e : End) (reach p : Nat) : Bool :=
  match e with
  | .out => decide (reach < p ∧ p ≤ x.outReach)
  | .inn => decide (n - x.inReach < p ∧ p ≤ n - reach)

/-- The record of a chain whose side has shrunk (R140). -/
def Chain.shrink (x : Split) (e : End) (reach : Nat) (c : Chain) : Chain :=
  let x' := x.withReach e reach
  ({ c with mode := .split { x' with phase := x.phase.withSide e .idle }, brk := some (x'.break c.found) } :
    Chain).mapNodes fun p n => if x.beyond c.found e reach p then { n with state := .unreachable } else n

/-- R140: the end of a re-location with the new reach. -/
def State.relocated (s : State) (i : Fin 4) (x : Split) (e : End) (reach : Nat) : State :=
  let s := s.updateChain i fun c => c.setRun e 0
  if reach = x.reach e then s.updateChain i fun c => c.phase x (x.phase.withSide e .idle)
  else
    let x' := x.withReach e reach
    let s := (s.updateChain i (Chain.shrink x e reach)).raiseChain i (.split (x'.break s.chains[i].found))
    if x'.outReach = 0 ∧ x'.inReach = 0 then s.failChain i else s

/-- R140: a probe of a re-location is returned. -/
def State.sideReached (s : State) (i : Fin 4) (x : Split) (e : End) (hop : Nat) : State :=
  if x.reach e ≤ hop then s.relocated i x e hop else s.updateChain i (Chain.probeSide x e (hop + 1) false)

/-- R140: a sending of a probe of a re-location is lost. -/
def State.sideMissed (s : State) (i : Fin 4) (x : Split) (e : End) (hop : Nat) (second : Bool) : State :=
  if second then s.relocated i x e (hop - 1) else s.updateChain i (Chain.probeSide x e hop true)

/-! ## Restoring (R141) -/

/-- Whether the attempt can be made: it is due, and no frame of the chain is on the loop. -/
def Split.attemptReady (x : Split) : Bool :=
  x.restore == .expired && x.phase.side .out == some .idle && x.phase.side .inn == some .idle

/-- The whole-loop PROBE that begins an attempt. -/
def Chain.attempt (c : Chain) : Chain :=
  match c.mode with
  | .split x =>
    if x.attemptReady then
      (c.phase { x with restore := .stopped } .restoreProbe).transmit .out (probeFrame .out 0)
    else c
  | _ => c

/-- The restore timer of a SPLIT chain expires. -/
def Chain.restoreExpired (c : Chain) : Chain :=
  match c.mode with
  | .split x =>
    match x.restore with
    | .running _ => { c with mode := .split { x with restore := .expired } }
    | _ => c
  | _ => c

/-- An attempt fails: the chain stays in SPLIT, and the timer starts again under AUTO. -/
def Chain.attemptFailed (x : Split) (c : Chain) : Chain :=
  { c with mode := .split { x with phase := .driving .idle .idle [], restore := c.restoreTimer } }

/-- The COUNT of an attempt returns good with a number. -/
def State.attemptCounted (s : State) (i : Fin 4) (x : Split) (position : Nat) : State :=
  let n := s.chains[i].found
  if position = n + 1 then
    s.updateChain i fun c => (c.phase x .restoreIdent).transmit .out (identFrame .out 0 n)
  else (s.raiseMismatch i (min 61 (countedNumber position))).updateChain i (Chain.attemptFailed x)

/-- The record of a chain whose loop is restored. -/
def Chain.restored (replies : List (Nat × BitVec 48)) (c : Chain) : Chain :=
  let c := (c.readBins replies).mapNodes fun _ n =>
    if n.state = .unreachable then { n with state := .suspect, badReplies := 0, goodRun := 0 } else n
  ({ c with mode := .ring none, ringDone := true, brk := none, mailbox := none, runOut := 0, runIn := 0 } :
    Chain).switched

/-- The IDENT of an attempt is returned: every slot must be good. -/
def State.attemptIdentified (s : State) (i : Fin 4) (x : Split) (f : RingFrame) : State :=
  let n := s.chains[i].found
  if frameClean f .ident .out n && f.slots.all goodIdentReply then
    (s.updateChain i (Chain.restored ((outPositions n).zip f.slots))).raiseChain i .restored
  else s.updateChain i (Chain.attemptFailed x)

/-! ## Events -/

/-- COUNT_RETURNED (R129, R138, R141). -/
def State.countReturned (s : State) (i : Fin 4) (f : RingFrame) : State :=
  match s.chains[i].mode with
  | .counting failures =>
    match countReply f .out with
    | none => s.startCountFailed i failures
    | some r => s.startCounted i r
  | .split x =>
    match x.phase with
    | .counting e failures =>
      if countReply f e = some (x.returns s.chains[i].found e) then
        s.updateChain i fun c => Chain.identifySide x e 1 0 (x.positions c.found e) c
      else s.sideCountFailed i x e failures
    | .restoreCount =>
      match countReply f .out with
      | none => s.updateChain i (Chain.attemptFailed x)
      | some r => s.attemptCounted i x r
    | _ => s
  | _ => s

/-- COUNT_LOST (R129, R138, R141). -/
def State.countLost (s : State) (i : Fin 4) : State :=
  match s.chains[i].mode with
  | .counting failures => s.startCountFailed i failures
  | .split x =>
    match x.phase with
    | .counting e failures => s.sideCountFailed i x e failures
    | .restoreCount => s.updateChain i (Chain.attemptFailed x)
    | _ => s
  | _ => s

/-- IDENT_LOST (R130, R138, R141). -/
def State.identLost (s : State) (i : Fin 4) : State :=
  match s.chains[i].mode with
  | .identifying sent lost unread => (s.updateChain i fun c => c.retry 1).startIdentified i sent (lost + 1) unread
  | .split x =>
    match x.phase with
    | .identifying e sent lost unread =>
      (s.updateChain i fun c => c.retry 1).sideIdentified i x e sent (lost + 1) unread
    | .restoreIdent => s.updateChain i (Chain.attemptFailed x)
    | _ => s
  | _ => s

/-- IDENT_RETURNED (R130, R138, R141). A frame that is not clean is as one that is lost (R121). -/
def State.identReturned (s : State) (i : Fin 4) (f : RingFrame) : State :=
  match s.chains[i].mode with
  | .identifying sent lost unread =>
    if frameClean f .ident .out s.chains[i].found then
      let replies := (outPositions s.chains[i].found).zip f.slots
      (s.updateChain i (Chain.readBins replies)).startIdentified i sent lost (stillUnread unread replies)
    else s.identLost i
  | .split x =>
    match x.phase with
    | .identifying e sent lost unread =>
      if frameClean f .ident e (x.reach e) then
        let replies := (x.positions s.chains[i].found e).zip f.slots
        (s.updateChain i (Chain.readBins replies)).sideIdentified i x e sent lost (stillUnread unread replies)
      else s.identLost i
    | .restoreIdent => s.attemptIdentified i x f
    | _ => s
  | _ => s

/-- DUTY_LOST (R132, R139). -/
def State.dutyLost (s : State) (i : Fin 4) (e : End) : State :=
  match s.chains[i].mode with
  | .ring (some d) => if e = .out then s.ringLost i d.set else s
  | .split x =>
    match x.phase.side e with
    | some (.half _) => s.halfLost i x e
    | _ => s
  | _ => s

/-- DUTY_RETURNED (R131, R133, R139). -/
def State.dutyReturned (s : State) (i : Fin 4) (e : End) (f : RingFrame) : State :=
  match s.chains[i].mode with
  | .ring (some d) =>
    if e = .out ∧ frameClean f .duty .out d.slots.length then s.ringClean i d.slots f else s.dutyLost i e
  | .split x =>
    match x.phase.side e with
    | some (.half slots) =>
      if frameClean f .duty e slots.length then s.halfClean i x e slots f else s.dutyLost i e
    | _ => s
  | _ => s

/-- PROBE_LOST (R135, R140, R141). -/
def State.probeLost (s : State) (i : Fin 4) (e : End) : State :=
  match s.chains[i].mode with
  | .locating probe second fromRing => if e = probe.sender then s.probeMissed i probe second fromRing else s
  | .split x =>
    match x.phase, x.phase.side e with
    | .restoreProbe, _ => if e = .out then s.updateChain i (Chain.attemptFailed x) else s
    | _, some (.relocating hop second) => s.sideMissed i x e hop second
    | _, _ => s
  | _ => s

/-- PROBE_RETURNED (R135, R140, R141). -/
def State.probeReturned (s : State) (i : Fin 4) (e : End) (f : RingFrame) : State :=
  if frameClean f .probe e 0 then
    match s.chains[i].mode with
    | .locating probe _ fromRing => if e = probe.sender then s.probeReached i probe fromRing else s
    | .split x =>
      match x.phase, x.phase.side e with
      | .restoreProbe, _ =>
        if e = .out then
          s.updateChain i fun c => (c.phase x .restoreCount).transmit .out (countFrame .out 0 1)
        else s
      | _, some (.relocating hop _) => s.sideReached i x e hop
      | _, _ => s
    | _ => s
  else s.probeLost i e

/-- COUNT_RETURNED. -/
def execCountReturned (i : Fin 4) (f : RingFrame) (s : State) : Result := s.event fun s => s.countReturned i f

/-- COUNT_LOST. -/
def execCountLost (i : Fin 4) (s : State) : Result := s.event fun s => s.countLost i

/-- IDENT_RETURNED. -/
def execIdentReturned (i : Fin 4) (f : RingFrame) (s : State) : Result := s.event fun s => s.identReturned i f

/-- IDENT_LOST. -/
def execIdentLost (i : Fin 4) (s : State) : Result := s.event fun s => s.identLost i

/-- DUTY_RETURNED. -/
def execDutyReturned (i : Fin 4) (e : End) (f : RingFrame) (s : State) : Result :=
  s.event fun s => s.dutyReturned i e f

/-- DUTY_LOST. -/
def execDutyLost (i : Fin 4) (e : End) (s : State) : Result := s.event fun s => s.dutyLost i e

/-- PROBE_RETURNED. -/
def execProbeReturned (i : Fin 4) (e : End) (f : RingFrame) (s : State) : Result :=
  s.event fun s => s.probeReturned i e f

/-- PROBE_LOST. -/
def execProbeLost (i : Fin 4) (e : End) (s : State) : Result := s.event fun s => s.probeLost i e

/-- DUTY_FRAME_SEND (R131, R139). -/
def execDutyFrameSend (i : Fin 4) (s : State) : Result := s.event fun s => s.updateChain i Chain.dutySend

/-- RESTORE_TIMER_EXPIRY (R141). -/
def execRestoreTimerExpiry (i : Fin 4) (s : State) : Result := s.event fun s => s.updateChain i Chain.restoreExpired

/-- RESTORE_ATTEMPT (R141). -/
def execRestoreAttempt (i : Fin 4) (s : State) : Result := s.event fun s => s.updateChain i Chain.attempt

end Sys2Proof.Machine
end

