-- ==== Sys2Proof/Machine/Frames.lean ====
section
/-! DEFINITION. The composition frame (sections 5.1, 5.2, 6.1 and 6.6): its snapshot at the expiry of the frame timer and
what its completion records and delivers. -/

namespace Sys2Proof.Machine

open Sys2Proof

/-! ## The snapshot (R61, R83, R99, R102, R118) -/

/-- R61: a pending frozen composite is captured from the latest composite, or as black. -/
def Zone.capture (z : Zone) (latest : Option (List Comp)) : Zone :=
  match z.hold with
  | .pending => { z with hold := .captured (latest.getD (z.nodes.map fun _ => Comp.clear)) }
  | _ => z

/-- R61 for every zone. -/
def State.captureHolds (s : State) : State :=
  s.setZones (s.zones.mapFinIdx fun i z h => z.capture (s.composer.latest[i]'h))

/-- R118: the fields of the chains that are in neither RING nor SPLIT return to their initial values. -/
def Conditioner.resetUndriven (c : Conditioner) (chains : Vector Chain 4) : Conditioner :=
  { c with perChain := c.perChain.mapFinIdx fun i x h =>
      if (chains[i]'h).mode.state.driven then x else ChainOutput.initial }

/-- What a frame reads of a chain. -/
def Chain.snapshot (c : Chain) : ChainSnapshot := { state := c.mode.state, budget := c.budget, nodes := c.nodes }

/-- What a frame reads (R83, R99). -/
def State.snapshot (s : State) : Snapshot :=
  { cues := s.cues, palette := s.palette, zones := s.zones, level := s.cond.level, envelope := s.power.envelope,
    bins := s.cond.bins, knee := s.cond.knee, limit := s.cond.limit, chains := s.chains.map Chain.snapshot }

/-! ## Completion (R85, R115, R117) -/

/-- R115: the notices of a chain whose set is placed. -/
def State.raiseLimits (s : State) (i : Fin 4) (before after : ChainOutput) : State :=
  let s :=
    if before.thermal = 1000 ∧ after.thermal < 1000 then
      s.raise .thermalLimit (.chain i) (.number (after.thermal / 10))
    else s
  if before.budget = 1000 ∧ after.budget < 1000 then s.raise .budgetLimit (.chain i) (.number (after.budget / 10))
  else s

/-- The per-chain fields become those of a frame (R115). -/
def Conditioner.withOutput (c : Conditioner) (i : Fin 4) (x : ChainOutput) : Conditioner :=
  { c with perChain := c.perChain.set i x }

/-- A duty set is placed in the mailbox of a chain (R117). -/
def State.place (s : State) (i : Fin 4) (set : List DutyEntry) : State :=
  s.updateChain i fun c => { c with mailbox := some set }

/-- R115, R117: one chain's part in a completion. -/
def State.deliver (f : Frame) (s : State) (i : Fin 4) : State :=
  if f.snap.chains[i].state.driven && !f.left.getLsbD i then
    let s := s.raiseLimits i s.cond.perChain[i] (f.snap.output i)
    (s.setCond (s.cond.withOutput i (f.snap.output i))).place i (f.snap.dutySet i)
  else s

/-- R82: a frame in flight completes. -/
def State.completeFrame (s : State) : State :=
  match s.composer.frame with
  | none => s
  | some f => (indices 4).foldl (State.deliver f) (s.setComposer (s.composer.record f))

/-! ## The frame timer (R80 to R82) -/

/-- The Output Conditioner at a snapshot (R102, R118). -/
def Conditioner.atSnapshot (c : Conditioner) (chains : Vector Chain 4) : Conditioner := (c.resetUndriven chains).moved

/-- What a snapshot changes before it is taken. -/
def State.prepareSnapshot (s : State) : State :=
  let s := s.captureHolds
  s.setCond (s.cond.atSnapshot s.chains)

/-- The frame begins, and the next expiry is scheduled (R80, R81). -/
def State.beginFrame (s : State) : State :=
  let s := s.prepareSnapshot
  s.setComposer { s.composer with timer := some s.composer.period
                                  frame := some { snap := s.snapshot, discarded := 0, left := 0 } }

/-- Step 6 of R176 where it waits for the first snapshot of LIT (log 10). -/
def State.makeLateWake (s : State) : State := if s.power.state = .lit then s.makePendingWake else s

/-- R82: the frame timer expires. A frame still in flight completes first (log 9), and a wake start that waits for the
snapshot is made after it (R176). -/
def State.frameExpiry (s : State) : State :=
  if s.composer.timer.isSome then s.completeFrame.beginFrame.makeLateWake else s

/-- FRAME_TIMER_EXPIRY (R82). -/
def execFrameTimerExpiry (s : State) : Result := s.event State.frameExpiry

/-- FRAME_COMPLETION (R82). -/
def execFrameCompletion (s : State) : Result := s.event State.completeFrame

end Sys2Proof.Machine
end

