-- ==== Sys2Proof/Machine/Signals.lean ====
section
/-! DEFINITION. The Palette and the Signal Table (chapter 2): SET_PALETTE, CLEAR_PALETTE and SET_SIGNALS, with the signal
change event that restarts gates and wakes runners. -/

namespace Sys2Proof.Machine

open Sys2Proof

/-! ## The Palette (R34, R35, R37) -/

/-- Apply modes (11.6): 0 NOW, 1 AFTER_SEQUENCE. -/
def applyModeOf (code : Byte) : Option Bool :=
  match code.toNat with
  | 0 => some false
  | 1 => some true
  | _ => none

def State.setEntry (s : State) (e : Fin 32) (x : PaletteEntry) : State := s.setPalette (s.palette.set e x)

/-- SET_PALETTE (R34, R35): staged while a runner is active under AFTER_SEQUENCE, applied at once otherwise. -/
def execSetPalette (h : Header) (entry : Byte) (r g b : BitVec 16) (mode : Byte) (s : State) : Result :=
  s.takeOpen 8 h fun s =>
    require h.plain <| requireSome (index? 32 entry.toNat) fun e => requireSome (applyModeOf mode) fun after =>
      let c := rgbOf r g b
      if after && s.seq.anyActive then
        .accept c.2 (.palette true) (s.setEntry e { colour := s.palette[e].colour, staged := some c.1 })
      else .accept c.2 (.palette false) (s.setEntry e { colour := some c.1, staged := none })

/-- CLEAR_PALETTE (R37). -/
def execClearPalette (h : Header) (entry : Byte) (s : State) : Result :=
  s.takeOpen 1 h fun s =>
    require h.plain <| requireSome (index? 32 entry.toNat) fun e =>
      .accept false .empty (s.setEntry e { colour := none, staged := none })

/-! ## Signals (R42, R45) -/

/-- R45: the gate envelope of a cue gated on signal `n` restarts from where it stands, toward the new target. -/
def Cue.restartGate (c : Cue) (n : Fin 16) (signals : BitVec 16) : Cue :=
  match c.desc.gate with
  | none => c
  | some g =>
    if g.signal = n then
      { c with gateRun := some { opened := g.isOpen signals, start := c.gateEnvelope, elapsed := 0 } }
    else c

/-- R45 for every live cue. -/
def State.restartGates (s : State) (n : Fin 16) : State :=
  s.setCues { s.cues with slots := s.cues.slots.map fun x =>
    { x with cue := x.cue.map fun c => c.restartGate n s.signals } }

/-- One signal change event (R42): the gated cues, then the Sequence Engine. -/
def State.signalChange (s : State) (n : Fin 16) : State := (s.restartGates n).wakeRunners n

/-- The signals after a SET_SIGNALS. -/
def signalsAfter (old mask values : BitVec 16) : BitVec 16 := (old &&& ~~~mask) ||| (values &&& mask)

/-- R42: the values are set, then an event is delivered for each signal that changed, in ascending order. -/
def State.changeSignals (s : State) (mask values : BitVec 16) : State :=
  (members (s.signals ^^^ signalsAfter s.signals mask values)).foldl State.signalChange
    (s.setSignals (signalsAfter s.signals mask values))

/-- SET_SIGNALS (R42). Each reply carries the sixteen values (R41), a refusal too (log 23). -/
def execSetSignals (h : Header) (mask values : BitVec 16) (s : State) : Result :=
  s.takeConfiguring 4 h fun s =>
    if h.plain then .accept false (.signals (signalsAfter s.signals mask values)) (s.changeSignals mask values)
    else .refuse .badValue (.signals s.signals)

end Sys2Proof.Machine
end

