-- ==== Sys2Proof/Machine/Time.lean ====
section
/-! DEFINITION. The time base (R8): what one millisecond advances, after the events that are due have been taken. -/

namespace Sys2Proof.Machine

open Sys2Proof

/-! ## What advances -/

/-- R8: the time into fade. -/
def Phase.tick : Phase → Phase
  | .fadingIn t => .fadingIn (t + 1)
  | .steady => .steady
  | .fadingOut t exit start => .fadingOut (t + 1) exit start

/-- R8: the remaining lifetime counts down in FADING_IN and STEADY. -/
def Cue.tickRemaining (c : Cue) : Option Nat := if c.phase.isFadingOut then c.remaining else c.remaining.map (· - 1)

/-- R44: the elapsed time of a gate ramp. -/
def GateRun.tick (g : GateRun) : GateRun := { g with elapsed := g.elapsed + 1 }

/-- R8, R44: one millisecond of a live cue. -/
def Cue.tick (c : Cue) : Cue :=
  { c with clock := c.clock + 1, phase := c.phase.tick, remaining := c.tickRemaining,
           gateRun := c.gateRun.map GateRun.tick }

/-- R8: one millisecond of the Cue Table. -/
def CueTable.tick (t : CueTable) : CueTable :=
  { t with slots := t.slots.map fun x => { x with cue := x.cue.map Cue.tick }, timeBase := t.timeBase + 1 }

/-- R159, R161: one millisecond of a runner's wait. -/
def Runner.tick (x : Runner) : Runner := { x with wait := x.wait.map (· - 1) }

/-- One millisecond of the Sequence Engine. -/
def Sequencer.tick (q : Sequencer) : Sequencer := { q with runners := q.runners.map Runner.tick }

/-- R179: the dark remaining counts while nothing lights the cabin and no runner is active. -/
def State.darkCounts (s : State) : Bool :=
  s.power.state == .lit && s.power.darkInterval != 0 && !s.cues.anyLive && !s.seq.anyActive

/-- R171, R179: one millisecond of the Power Controller. -/
def State.tickPower (s : State) : Power :=
  { s.power with
    envElapsed := s.power.envElapsed + 1
    darkRemaining := if s.darkCounts then s.power.darkRemaining.map (· - 1) else s.power.darkRemaining }

/-- One millisecond of everything that counts on the time base. -/
def State.tick (s : State) : State :=
  ((s.setPower s.tickPower).setCues s.cues.tick).setSeq s.seq.tick

/-! ## What is due (log 2) -/

def Cue.anyDue (c : Cue) : Bool := c.fadeInDue || c.lifetimeDue || c.fadeOutDue

/-- Whether an event of the time base is due at this millisecond and has not been taken. -/
def State.due (s : State) : Bool :=
  s.cues.slots.toList.any (fun x => x.cue.any Cue.anyDue) ||
    s.seq.runners.toList.any (fun r => r.waitDue || r.timeoutDue) || s.power.dimmed || s.power.darkDue

/-- The lifecycle events of one slot. -/
def State.settleSlot (s : State) (k : Fin 48) : State :=
  ((s.fadeInCompletion k).lifetimeExpiry k).fadeOutCompletion k

/-- The waiting events of one runner. -/
def State.settleRunner (s : State) (r : Fin 2) : State := (s.waitExpiry r).waitSignalTimeout r

/-- Every event that is due is taken, in the order of log 2. -/
def State.settle (s : State) : State :=
  (((indices 2).foldl State.settleRunner ((indices 48).foldl State.settleSlot s)).dimmingEnd).darkExpiry

/-- R8: the next millisecond of the time base, in the states in which it runs. -/
def State.nextMillisecond (s : State) : State :=
  if s.power.state.timeRuns then
    let s := if s.due then s.settle else s
    if s.power.state.timeRuns then s.tick else s
  else s

/-- TIME_BASE_MILLISECOND (R8). -/
def execTimeBaseMillisecond (s : State) : Result := s.event State.nextMillisecond

end Sys2Proof.Machine
end

