-- ==== Sys2Proof/Machine/Zones.lean ====
section
/-! DEFINITION. The commands of the Zone Map and the Watch Table (chapters 3 and 4): mapping, trim, holds, READ_ZONE with
the creation of a watch, and DROP_WATCH. -/

namespace Sys2Proof.Machine

open Sys2Proof

/-! ## Mapping (R56, R57) -/

/-- Whether another zone than `z` lists a node, and which (R56, 6). -/
def State.listedBy (s : State) (z : Fin 16) (n : NodeRef) : Option (Fin 16) :=
  (indices 16).find? fun y => y != z && s.zones[y].nodes.contains n

/-- The first entry of a list that another zone lists, with that zone (R56, 6). -/
def State.firstInUse (s : State) (z : Fin 16) (nodes : List NodeRef) : Option (NodeRef × Fin 16) :=
  nodes.findSome? fun n => (s.listedBy z n).map fun y => (n, y)

/-- R57: the list is replaced, the latest composite discarded, and one event raised. -/
def State.mapZone (s : State) (z : Fin 16) (nodes : List NodeRef) : State :=
  State.zoneEvent none
    ((s.setZones (modifyAt s.zones z fun x => { x with nodes := nodes })).setComposer (s.composer.discardZone z)) z

/-- MAP_ZONE (R56, R57). -/
def execMapZone (h : Header) (zone : Byte) (nodes : List RawNodeRef) (s : State) : Result :=
  .next <| s.takeFrame .configuring false (mapZoneLengthOk nodes) (1 + 2 * nodes.length) h fun s =>
    require h.plain <| requireSome (index? 16 zone.toNat) fun z =>
      require (decide (nodes.length ≤ 64)) <| requireSome (nodes.mapM nodeRefOf) fun list =>
        require (decide list.Nodup) <| guardWith (s.zones[z].hold != .clear) .wrongState <|
          match s.firstInUse z list with
          | some (n, y) => .refuse .inUse (.inUse n y)
          | none => .accept false .empty (s.mapZone z list)

/-- SET_ZONE_TRIM (R58). -/
def execSetZoneTrim (h : Header) (zone : Byte) (trim : BitVec 16) (s : State) : Result :=
  s.takeConfiguring 3 h fun s =>
    require h.plain <| requireSome (index? 16 zone.toNat) fun z =>
      let t := clampMax 1000 trim.toNat
      .accept t.2 .empty (s.setZones (modifyAt s.zones z fun x => { x with trim := t.1 }))

/-! ## Holds (R60, R62) -/

/-- HOLD_ZONE (R60). -/
def execHoldZone (h : Header) (zones : BitVec 16) (s : State) : Result :=
  s.takeConfiguring 2 h fun s =>
    require (h.plain && zones != 0)
      (.accept false (.count (s.countZones zones fun x => x.hold == .clear)) (s.holdZones zones))

/-- RELEASE_ZONE (R62). -/
def execReleaseZone (h : Header) (zones : BitVec 16) (s : State) : Result :=
  s.takeConfiguring 2 h fun s =>
    require (h.plain && zones != 0)
      (.accept false (.count (s.countZones zones fun x => x.hold != .clear)) (s.releaseZones zones))

/-! ## Watches (R69 to R71, R78) -/

/-- The slot of the entry of a client on a zone, if it holds one (R70). -/
def WatchTable.entryOf (t : WatchTable) (e : WatchEntry) : Option (Fin 8) :=
  (indices 8).find? fun w => t.slots[w].entry == some e

/-- The slot that a new entry is written into: its own (R70), else the lowest free one (R69), else the oldest entry's
(R71). -/
def WatchTable.placeFor (t : WatchTable) (e : WatchEntry) : Fin 8 :=
  match t.entryOf e with
  | some w => w
  | none =>
    match (indices 8).find? fun w => t.slots[w].entry.isNone with
    | some w => w
    | none => t.order.head?.getD 0

/-- The entry is written with a new generation and becomes the newest (R69, R70). -/
def WatchTable.write (t : WatchTable) (w : Fin 8) (e : WatchEntry) : WatchTable :=
  { slots := modifyAt t.slots w fun x => { gen := x.gen + 1, entry := some e }
    order := (t.order.filter fun x => x != w) ++ [w] }

/-- The watch id of a slot (R68). -/
def WatchTable.idOf (t : WatchTable) (w : Fin 8) : WatchId := { slot := w, gen := t.slots[w].gen }

/-- DROP_WATCH (R78). That the reserved bits and GUARDED (R197) are tested before NOT_FOUND is the model's choice (DESIGN CHOICE,
log 51). -/
def execDropWatch (h : Header) (slot gen : Byte) (s : State) : Result :=
  s.takeOpen 2 h fun s =>
    require h.plain <|
      match s.watches.find h.client slot gen with
      | none => .refuse .notFound .empty
      | some w => .accept false .empty (s.freeWatch w)

/-! ## Reading (R66) -/

/-- A selected cue as READ_ZONE reports it. -/
def State.layerCue (s : State) (k : Option (Fin 48)) : Option LayerCue :=
  k.map fun k => { handle := s.handleAt k, void := (s.cueAt k).any fun c => c.void s.palette }

/-- The winner and the outgoing cue of a layer at this moment (R66). They are reported whatever the length of the node list, an
empty one too: R86 selects for lists of at least one entry, and R66 does not say what it reports for an empty one (DESIGN
CHOICE, log 45). -/
def State.layerReport (s : State) (z : Fin 16) (l : Layer) : LayerReport :=
  { winner := s.layerCue (s.cues.winner z l), outgoing := s.layerCue (s.cues.outgoing z l) }

/-- The coverages that READ_ZONE reports: of a captured frozen composite, else of the latest, else 0. -/
def State.coverages (s : State) (z : Fin 16) : List Nat :=
  match s.zones[z].hold, s.composer.latest[z] with
  | .captured c, _ => c.map (·.coverage)
  | _, some c => c.map (·.coverage)
  | _, none => s.zones[z].nodes.map fun _ => 0

def Hold.isCaptured : Hold → Bool
  | .captured _ => true
  | _ => false

/-- What READ_ZONE reports (R66), with the watch id when a watch is created. -/
def State.zoneReport (s : State) (z : Fin 16) (watch : Option WatchId) : ZoneReport :=
  { nodes := s.zones[z].nodes, trim := s.zones[z].trim, held := s.zones[z].hold != .clear
    captured := s.zones[z].hold.isCaptured, count := s.zones[z].count, layers := layersUp.map (s.layerReport z)
    coverages := s.coverages z, watch := watch }

/-- READ_ZONE (R66, R69). -/
def execReadZone (h : Header) (zone watch : Byte) (s : State) : Result :=
  s.takeOpen 2 h fun s =>
    require h.plain <| requireSome (index? 16 zone.toNat) fun z => requireSome (boolOf watch) fun create =>
      if create then
        let e : WatchEntry := { client := h.client, zone := z }
        let w := s.watches.placeFor e
        let t := s.watches.write w e
        .accept false (.zone (s.zoneReport z (some (t.idOf w)))) (s.setWatches t)
      else .accept false (.zone (s.zoneReport z none)) s

end Sys2Proof.Machine
end

