-- ==== Sys2Proof/Machine/CommandFrame.lean ====
section
/-! DEFINITION. SOFT_RESET and the resets (R189, R190), and a whole command frame: its tests at the port (R183, R185) and its
hand-over to the block that owns the command. -/

namespace Sys2Proof.Machine

open Sys2Proof

/-! ## SOFT_RESET (R190) -/

/-- R30: every slot is freed without events; the generations stay. -/
def CueTable.emptied (t : CueTable) : CueTable :=
  { t with slots := t.slots.map fun x => { x with cue := none }, postOrder := [], retiring := [] }

/-- R79: the Watch Table is emptied; the generations stay. -/
def WatchTable.emptied (t : WatchTable) : WatchTable :=
  { slots := t.slots.map fun x => { x with entry := none }, order := [] }

/-- R55: every hold is released without events. -/
def State.clearHolds (s : State) : State := s.setZones (s.zones.map fun z => { z with hold := .clear })

/-- R168: an active runner is stopped silently. -/
def State.silence (s : State) (r : Fin 2) : State := if s.seq.runners[r].state.active then s.idleRunner r else s

/-- R190, 4: the list is emptied and the missed count is 0; the mask stays. -/
def Notices.emptied (n : Notices) : Notices := { n with list := [], missed := 0 }

/-- R190, 1 to 5. -/
def State.softReset (s : State) : State :=
  let s := (s.setCues s.cues.emptied).setWatches s.watches.emptied
  let s := ((s.clearHolds.silence 0).silence 1).applyStaged.reloadDark
  (s.setNotices s.notices.emptied).raise .restarted .none .soft

/-- SOFT_RESET (R190). -/
def execSoftReset (h : Header) (s : State) : Result :=
  s.takeConfiguring 0 h fun s => require h.plain (.accept false .empty s.softReset)

/-! ## RESET_N (R189) -/

/-- RESET_N_LOW (R189): the part is held in device reset. A period that is under way shifts out zero bytes alone (DESIGN CHOICE,
log 47). -/
def execResetNLow (s : State) : Result :=
  .next ((((s.setResetLow true).setNoticeLow false).setSupplyEn false).unheard 0)

/-- DEVICE_RESET (R189): RESET_N rises, or power comes on. A period that is under way then is not taken: its COMMAND_FRAME says
so. What waits outside the part goes on waiting, and no free value is used twice. -/
def execDeviceReset (s : State) : Result :=
  .next ((State.reset.setPending s.pending).setFreeCounter s.freeCounter)

/-! ## A command frame (R183, R185) -/

/-- The command of a frame that has passed the tests of R185 on its bytes is handed to its owning block. -/
def handOver (i : Instr) (s : State) : Result :=
  match i with
  | .nop h => execNop h s
  | .identify h => execIdentify h s
  | .softReset h => execSoftReset h s
  | .readNotices h => execReadNotices h s
  | .ackOldest h => execAckOldest h s
  | .ackMatch h kind subject => execAckMatch h kind subject s
  | .ackAll h => execAckAll h s
  | .setNoticeMask h mask => execSetNoticeMask h mask s
  | .postCue h d => execPostCue h d s
  | .placeCue h slot d => execPlaceCue h slot d s
  | .modifyCue h handle mask d => execModifyCue h handle mask d s
  | .retireCue h handle mode => execRetireCue h handle mode s
  | .retireOwner h owner mode => execRetireOwner h owner mode s
  | .refreshCue h handle lifetime => execRefreshCue h handle lifetime s
  | .readCue h handle => execReadCue h handle s
  | .setPalette h entry r g b mode => execSetPalette h entry r g b mode s
  | .clearPalette h entry => execClearPalette h entry s
  | .setSignals h mask values => execSetSignals h mask values s
  | .mapZone h zone nodes => execMapZone h zone nodes s
  | .setZoneTrim h zone trim => execSetZoneTrim h zone trim s
  | .holdZone h zones => execHoldZone h zones s
  | .releaseZone h zones => execReleaseZone h zones s
  | .readZone h zone watch => execReadZone h zone watch s
  | .dropWatch h slot gen => execDropWatch h slot gen s
  | .setFramePeriod h period => execSetFramePeriod h period s
  | .setLux h lux => execSetLux h lux s
  | .setMaster h level => execSetMaster h level s
  | .setCurve h count points => execSetCurve h count points s
  | .setSlew h slew => execSetSlew h slew s
  | .setBin h bin b => execSetBin h bin b s
  | .setThermal h knee limit => execSetThermal h knee limit s
  | .configureChain h chain cfg => execConfigureChain h chain cfg s
  | .startChain h chain => execStartChain h chain s
  | .stopChain h chain => execStopChain h chain s
  | .restartChain h chain => execRestartChain h chain s
  | .rejoinNode h chain position => execRejoinNode h chain position s
  | .readChain h chain position => execReadChain h chain position s
  | .loadTemplate h template d => execLoadTemplate h template d s
  | .clearTemplate h template => execClearTemplate h template s
  | .loadSteps h slot first steps => execLoadSteps h slot first steps s
  | .finishSequence h slot count rank => execFinishSequence h slot count rank s
  | .clearSequence h slot => execClearSequence h slot s
  | .startSequence h slot => execStartSequence h slot s
  | .abortSequence h slot => execAbortSequence h slot s
  | .readSequence h slot first => execReadSequence h slot first s
  | .goDormant h => execGoDormant h s
  | .goStandby h => execGoStandby h s
  | .goLit h => execGoLit h s
  | .setPowerTimes h mask wakeDelay settleTime fadeTime => execSetPowerTimes h mask wakeDelay settleTime fadeTime s
  | .setDarkInterval h seconds => execSetDarkInterval h seconds s
  | .armWelcome h slot => execArmWelcome h slot s
  | .commandFrame _ _ | .csNFallInDormant | .wakeRisingEdge | .resetNLow | .deviceReset | .timeBaseMillisecond
  | .fadeInCompletion _ | .lifetimeExpiry _ | .fadeOutCompletion _ | .waitExpiry _ | .waitSignalTimeout _
  | .frameTimerExpiry | .frameCompletion | .wakeDelayExpiry | .supplySettleExpiry | .endOfDimming
  | .darkIntervalExpiry | .restoreTimerExpiry _ | .restoreAttempt _ | .dutyFrameSend _ | .countReturned _ _
  | .countLost _ | .identReturned _ _ | .identLost _ | .dutyReturned _ _ _ | .dutyLost _ _ | .probeReturned _ _ _
  | .probeLost _ _ => .next s

/-- R185, 1: the length of a frame, in whole bytes. -/
def frameLengthOk (bytes : List Byte) (period : Period) : Bool :=
  period != .partialByte && decide (5 ≤ bytes.length) && decide ((byteAt bytes 3).toNat ≤ 248) &&
    bytes.length == (byteAt bytes 3).toNat + 5

/-- R185, 2: the check of a frame. -/
def frameCheckOk (bytes : List Byte) : Bool := crc8 bytes.dropLast == byteAt bytes (bytes.length - 1)

/-- R185, 3: the code names GO_DORMANT, GO_STANDBY or GO_LIT. -/
def goCode (code : Byte) : Bool := code == 0x60 || code == 0x61 || code == 0x62

/-- Steps 4 to 6 of R185 on a frame's payload, and the hand-over. -/
def State.takeCommand (s : State) (clocked : Nat) (code flags tag : Byte) (payload : List Byte) : Result :=
  match commandRow code with
  | none => .next (s.turnAway clocked .unknown tag)
  | some row =>
    if clientOf flags = 7 then .next (s.turnAway clocked .badClient tag)
    else
      match commandOf row flags tag payload with
      | none => .next (s.turnAway clocked .badLength tag)
      | some i => handOver i s

/-- A frame that the port receives (R185). -/
def State.takeBytes (s : State) (bytes : List Byte) (period : Period) : Result :=
  let tag := byteAt bytes 2
  let n := bytes.length
  if frameLengthOk bytes period = false then .next (s.turnAway n .badLength 0)
  else if frameCheckOk bytes = false then .next (s.turnAway n .badCheck 0)
  else if s.power.state = .waking ∧ goCode (byteAt bytes 0) = false then .next (s.turnAway n .notReady tag)
  else s.takeCommand n (byteAt bytes 0) (byteAt bytes 1) tag ((bytes.drop 4).dropLast)

/-- COMMAND_FRAME (R183, R185). In DORMANT the period wakes the part and its frame is not received (R188), whether CS_N
fell in DORMANT or before the entry to it (DESIGN CHOICE, log 48); while RESET_N is low no frame is taken, nor is one during
whose period it rose (R189). -/
def execCommandFrame (bytes : List Byte) (period : Period) (s : State) : Result :=
  if s.resetLow || period == .resetRose then .next (s.unheard bytes.length)
  else if s.power.state = .dormant then .next (s.wakeByChipSelect bytes.length)
  else s.takeBytes bytes period

end Sys2Proof.Machine
end

