-- ==== Sys2Proof/Machine/Dispatch.lean ====
section
/-! DEFINITION. The meaning of every command, one direct call each. -/

namespace Sys2Proof.Machine

open Sys2Proof

/-- What a command does to everything but the queue. -/
def exec (i : Instr) (s : State) : Host.Outcome State Fault Refusal :=
  match i with
  | .commandFrame bytes period => Sys2Proof.Machine.execCommandFrame bytes period s
  | .nop h => Sys2Proof.Machine.execNop h s
  | .identify h => Sys2Proof.Machine.execIdentify h s
  | .softReset h => Sys2Proof.Machine.execSoftReset h s
  | .readNotices h => Sys2Proof.Machine.execReadNotices h s
  | .ackOldest h => Sys2Proof.Machine.execAckOldest h s
  | .ackMatch h kind subject => Sys2Proof.Machine.execAckMatch h kind subject s
  | .ackAll h => Sys2Proof.Machine.execAckAll h s
  | .setNoticeMask h mask => Sys2Proof.Machine.execSetNoticeMask h mask s
  | .postCue h d => Sys2Proof.Machine.execPostCue h d s
  | .placeCue h slot d => Sys2Proof.Machine.execPlaceCue h slot d s
  | .modifyCue h handle mask d => Sys2Proof.Machine.execModifyCue h handle mask d s
  | .retireCue h handle mode => Sys2Proof.Machine.execRetireCue h handle mode s
  | .retireOwner h owner mode => Sys2Proof.Machine.execRetireOwner h owner mode s
  | .refreshCue h handle lifetime => Sys2Proof.Machine.execRefreshCue h handle lifetime s
  | .readCue h handle => Sys2Proof.Machine.execReadCue h handle s
  | .setPalette h entry r g b mode => Sys2Proof.Machine.execSetPalette h entry r g b mode s
  | .clearPalette h entry => Sys2Proof.Machine.execClearPalette h entry s
  | .setSignals h mask values => Sys2Proof.Machine.execSetSignals h mask values s
  | .mapZone h zone nodes => Sys2Proof.Machine.execMapZone h zone nodes s
  | .setZoneTrim h zone trim => Sys2Proof.Machine.execSetZoneTrim h zone trim s
  | .holdZone h zones => Sys2Proof.Machine.execHoldZone h zones s
  | .releaseZone h zones => Sys2Proof.Machine.execReleaseZone h zones s
  | .readZone h zone watch => Sys2Proof.Machine.execReadZone h zone watch s
  | .dropWatch h slot gen => Sys2Proof.Machine.execDropWatch h slot gen s
  | .setFramePeriod h period => Sys2Proof.Machine.execSetFramePeriod h period s
  | .setLux h lux => Sys2Proof.Machine.execSetLux h lux s
  | .setMaster h level => Sys2Proof.Machine.execSetMaster h level s
  | .setCurve h count points => Sys2Proof.Machine.execSetCurve h count points s
  | .setSlew h slew => Sys2Proof.Machine.execSetSlew h slew s
  | .setBin h bin b => Sys2Proof.Machine.execSetBin h bin b s
  | .setThermal h knee limit => Sys2Proof.Machine.execSetThermal h knee limit s
  | .configureChain h chain cfg => Sys2Proof.Machine.execConfigureChain h chain cfg s
  | .startChain h chain => Sys2Proof.Machine.execStartChain h chain s
  | .stopChain h chain => Sys2Proof.Machine.execStopChain h chain s
  | .restartChain h chain => Sys2Proof.Machine.execRestartChain h chain s
  | .rejoinNode h chain position => Sys2Proof.Machine.execRejoinNode h chain position s
  | .readChain h chain position => Sys2Proof.Machine.execReadChain h chain position s
  | .loadTemplate h template d => Sys2Proof.Machine.execLoadTemplate h template d s
  | .clearTemplate h template => Sys2Proof.Machine.execClearTemplate h template s
  | .loadSteps h slot first steps => Sys2Proof.Machine.execLoadSteps h slot first steps s
  | .finishSequence h slot count rank => Sys2Proof.Machine.execFinishSequence h slot count rank s
  | .clearSequence h slot => Sys2Proof.Machine.execClearSequence h slot s
  | .startSequence h slot => Sys2Proof.Machine.execStartSequence h slot s
  | .abortSequence h slot => Sys2Proof.Machine.execAbortSequence h slot s
  | .readSequence h slot first => Sys2Proof.Machine.execReadSequence h slot first s
  | .goDormant h => Sys2Proof.Machine.execGoDormant h s
  | .goStandby h => Sys2Proof.Machine.execGoStandby h s
  | .goLit h => Sys2Proof.Machine.execGoLit h s
  | .setPowerTimes h mask wakeDelay settleTime fadeTime => Sys2Proof.Machine.execSetPowerTimes h mask wakeDelay settleTime fadeTime s
  | .setDarkInterval h seconds => Sys2Proof.Machine.execSetDarkInterval h seconds s
  | .armWelcome h slot => Sys2Proof.Machine.execArmWelcome h slot s
  | .csNFallInDormant => Sys2Proof.Machine.execCsNFallInDormant s
  | .wakeRisingEdge => Sys2Proof.Machine.execWakeRisingEdge s
  | .resetNLow => Sys2Proof.Machine.execResetNLow s
  | .deviceReset => Sys2Proof.Machine.execDeviceReset s
  | .timeBaseMillisecond => Sys2Proof.Machine.execTimeBaseMillisecond s
  | .fadeInCompletion slot => Sys2Proof.Machine.execFadeInCompletion slot s
  | .lifetimeExpiry slot => Sys2Proof.Machine.execLifetimeExpiry slot s
  | .fadeOutCompletion slot => Sys2Proof.Machine.execFadeOutCompletion slot s
  | .waitExpiry runner => Sys2Proof.Machine.execWaitExpiry runner s
  | .waitSignalTimeout runner => Sys2Proof.Machine.execWaitSignalTimeout runner s
  | .frameTimerExpiry => Sys2Proof.Machine.execFrameTimerExpiry s
  | .frameCompletion => Sys2Proof.Machine.execFrameCompletion s
  | .wakeDelayExpiry => Sys2Proof.Machine.execWakeDelayExpiry s
  | .supplySettleExpiry => Sys2Proof.Machine.execSupplySettleExpiry s
  | .endOfDimming => Sys2Proof.Machine.execEndOfDimming s
  | .darkIntervalExpiry => Sys2Proof.Machine.execDarkIntervalExpiry s
  | .restoreTimerExpiry chain => Sys2Proof.Machine.execRestoreTimerExpiry chain s
  | .restoreAttempt chain => Sys2Proof.Machine.execRestoreAttempt chain s
  | .dutyFrameSend chain => Sys2Proof.Machine.execDutyFrameSend chain s
  | .countReturned chain frame => Sys2Proof.Machine.execCountReturned chain frame s
  | .countLost chain => Sys2Proof.Machine.execCountLost chain s
  | .identReturned chain frame => Sys2Proof.Machine.execIdentReturned chain frame s
  | .identLost chain => Sys2Proof.Machine.execIdentLost chain s
  | .dutyReturned chain sender frame => Sys2Proof.Machine.execDutyReturned chain sender frame s
  | .dutyLost chain sender => Sys2Proof.Machine.execDutyLost chain sender s
  | .probeReturned chain sender frame => Sys2Proof.Machine.execProbeReturned chain sender frame s
  | .probeLost chain sender => Sys2Proof.Machine.execProbeLost chain sender s

end Sys2Proof.Machine
end

