-- ==== Sys2Proof/Safety.lean ====
section
/-! DEFINITION. The terms in which the statements speak: what stays as it is, when a frame reaches its block and how it is
answered, the class of every command, and the invariants of the part. -/

namespace Sys2Proof.Machine

open Sys2Proof

/-! ## What stays as it is -/

/-- The fields of the state. -/
inductive Field where
  | cues | palette | signals | zones | watches | composer | cond | chains | seq | power | notices | reply | sdo
  | resetLow | noticeLow | supplyEn | freeCounter | pending
  deriving DecidableEq, Repr

/-- A field is the same in two states. -/
def Field.same (f : Field) (s t : State) : Prop :=
  match f with
  | .cues => t.cues = s.cues
  | .palette => t.palette = s.palette
  | .signals => t.signals = s.signals
  | .zones => t.zones = s.zones
  | .watches => t.watches = s.watches
  | .composer => t.composer = s.composer
  | .cond => t.cond = s.cond
  | .chains => t.chains = s.chains
  | .seq => t.seq = s.seq
  | .power => t.power = s.power
  | .notices => t.notices = s.notices
  | .reply => t.reply = s.reply
  | .sdo => t.sdo = s.sdo
  | .resetLow => t.resetLow = s.resetLow
  | .noticeLow => t.noticeLow = s.noticeLow
  | .supplyEn => t.supplyEn = s.supplyEn
  | .freeCounter => t.freeCounter = s.freeCounter
  | .pending => t.pending = s.pending

/-- Every field but the listed ones is the same. -/
def OnlyChanges (fields : List Field) (s t : State) : Prop := ∀ f : Field, f ∉ fields → f.same s t

/-! ## Frames at the port -/

/-- The states in which the port receives every frame (R188). -/
def PowerState.receives : PowerState → Bool
  | .standby | .powering | .lit | .dimming => true
  | .dormant | .waking => false

/-- A frame of a command of this class reaches its owning block (R185, R187 to R189). -/
def Reaches (cls : CommandClass) (h : Header) (s : State) : Prop :=
  s.resetLow = false ∧ s.power.state.receives = true ∧ h.client ≠ 7 ∧ (cls = .configuring → h.client = 0)

/-- The reply buffer of `t` answers the frame `h`, and the reply that `s` held has been shifted out (R184). -/
def Answers (s t : State) (h : Header) (status : Status) (payload : Payload) : Prop :=
  t.reply = { status := status, tag := h.tag, payload := payload } ∧ t.sdo.frame = some s.reply

/-- A command is refused with this status and payload, and nothing but the reply changes (R186). -/
def Refuses (h : Header) (status : Status) (payload : Payload) (i : Instr) (s : State) : Prop :=
  ∃ t, exec i s = .next t ∧ Answers s t h status payload ∧ OnlyChanges [.reply, .sdo] s t

/-- The status of a command that was carried out (R186). -/
def doneStatus (altered : Bool) : Status := if altered then .clamped else .ok

/-- A status that is a refusal (R186). -/
def Status.refusal : Status → Bool
  | .ok | .clamped => false
  | _ => true

/-- The header of a host command. -/
def headerOfCommand : Instr → Option Header
  | .nop h | .identify h | .softReset h | .readNotices h | .ackOldest h | .ackMatch h _ _ | .ackAll h
  | .setNoticeMask h _ | .postCue h _ | .placeCue h _ _ | .modifyCue h _ _ _ | .retireCue h _ _ | .retireOwner h _ _
  | .refreshCue h _ _ | .readCue h _ | .setPalette h _ _ _ _ _ | .clearPalette h _ | .setSignals h _ _
  | .mapZone h _ _ | .setZoneTrim h _ _ | .holdZone h _ | .releaseZone h _ | .readZone h _ _ | .dropWatch h _ _
  | .setFramePeriod h _ | .setLux h _ | .setMaster h _ | .setCurve h _ _ | .setSlew h _ | .setBin h _ _
  | .setThermal h _ _ | .configureChain h _ _ | .startChain h _ | .stopChain h _ | .restartChain h _
  | .rejoinNode h _ _ | .readChain h _ _ | .loadTemplate h _ _ | .clearTemplate h _ | .loadSteps h _ _ _
  | .finishSequence h _ _ _ | .clearSequence h _ | .startSequence h _ | .abortSequence h _ | .readSequence h _ _
  | .goDormant h | .goStandby h | .goLit h | .setPowerTimes h _ _ _ _ | .setDarkInterval h _ | .armWelcome h _ =>
    some h
  | _ => none

/-- The configuring commands of the table of 10.8 (R187). -/
def isConfiguring : Instr → Bool
  | .softReset _ | .setNoticeMask _ _ | .placeCue _ _ _ | .retireOwner _ _ _ | .setSignals _ _ _ | .mapZone _ _ _
  | .setZoneTrim _ _ _ | .holdZone _ _ | .releaseZone _ _ | .setFramePeriod _ _ | .setCurve _ _ _ | .setSlew _ _
  | .setBin _ _ _ | .setThermal _ _ _ | .configureChain _ _ _ | .startChain _ _ | .stopChain _ _ | .restartChain _ _
  | .rejoinNode _ _ _ | .loadTemplate _ _ _ | .clearTemplate _ _ | .loadSteps _ _ _ _ | .finishSequence _ _ _ _
  | .clearSequence _ _ | .goDormant _ | .goStandby _ | .goLit _ | .setPowerTimes _ _ _ _ _ | .setDarkInterval _ _
  | .armWelcome _ _ => true
  | _ => false

/-- The commands that the Cue Table tests by R14, whose reserved bits are tested after the handle (R197). -/
def isCueCommand : Instr → Bool
  | .postCue _ _ | .placeCue _ _ _ | .modifyCue _ _ _ _ | .retireCue _ _ _ | .refreshCue _ _ _ | .readCue _ _ => true
  | _ => false

/-- The three power commands that WAKING takes (R173, R188). -/
def isGo : Instr → Bool
  | .goDormant _ | .goStandby _ | .goLit _ => true
  | _ => false

/-! ## Descriptors and steps as frames carry them (sections 1.10, 8.2, 11.2 and 11.3) -/

/-- A colour source, of kind DIRECT or PALETTE, that is refused (R28, R197): its kind names neither, its entry is above 31, or
a byte that a PALETTE does not use is not zero. -/
abbrev RefusedColour (kind : Byte) (v0 v1 v2 : BitVec 16) : Prop :=
  1 < kind.toNat ∨ kind.toNat = 1 ∧ (31 < v0.toNat ∨ v1 ≠ 0 ∨ v2 ≠ 0)

/-- A colour source B that is refused: kind 2 is absent, with its bytes zero (11.2). -/
abbrev RefusedColourB (kind : Byte) (v0 v1 v2 : BitVec 16) : Prop :=
  kind.toNat = 2 ∧ (v0 ≠ 0 ∨ v1 ≠ 0 ∨ v2 ≠ 0) ∨ kind.toNat ≠ 2 ∧ RefusedColour kind v0 v1 v2

/-- A colour component that is clamped (R27). -/
abbrev AlteredColour (kind : Byte) (v0 v1 v2 : BitVec 16) : Prop :=
  kind.toNat = 0 ∧ (4095 < v0.toNat ∨ 4095 < v1.toNat ∨ 4095 < v2.toNat)

/-- What a colour source is stored as (R27, 11.2). -/
def StoredColour (kind : Byte) (v0 v1 v2 : BitVec 16) (c : ColourSource) : Prop :=
  (kind.toNat = 0 → c = .direct { r := min 4095 v0.toNat, g := min 4095 v1.toNat, b := min 4095 v2.toNat }) ∧
    (kind.toNat = 1 → ∃ e : Fin 32, c = .palette e ∧ e.val = v0.toNat)

/-- An effect that is refused (R28, R197): a kind or a direction that names none, an edge width above 16, or a byte that the kind
does not use and that is not zero. -/
abbrev RefusedEffect (kind : Byte) (p0 p1 p2 : BitVec 16) : Prop :=
  3 < kind.toNat ∨ kind.toNat = 0 ∧ (p0 ≠ 0 ∨ p1 ≠ 0 ∨ p2 ≠ 0) ∨
    kind.toNat = 2 ∧ (16 < p1.toNat / 256 ∨ 1 < p1.toNat % 256 ∨ p2 ≠ 0) ∨
    kind.toNat = 3 ∧ (1 < p0.toNat / 256 ∨ p0.toNat % 256 ≠ 0 ∨ p1 ≠ 0 ∨ p2 ≠ 0)

/-- An effect parameter that is altered (R27): a phase offset is reduced modulo the period after the period's clamping. -/
abbrev AlteredEffect (kind : Byte) (p0 p1 p2 : BitVec 16) : Prop :=
  kind.toNat = 1 ∧ (p0.toNat < 10 ∨ 1000 < p0.toNat ∨ 1000 < p1.toNat ∨ max 10 (min 1000 p0.toNat) ≤ p2.toNat) ∨
    kind.toNat = 2 ∧ (p0.toNat = 0 ∨ 1000 < p0.toNat)

/-- What an effect is stored as, in milliseconds (R27, 11.2). -/
def StoredEffect (kind : Byte) (p0 p1 p2 : BitVec 16) (e : Effect) : Prop :=
  (kind.toNat = 0 → e = .solid) ∧
    (kind.toNat = 1 → e = .pulse (10 * max 10 (min 1000 p0.toNat)) (min 1000 p1.toNat)
      (10 * (p2.toNat % max 10 (min 1000 p0.toNat)))) ∧
    (kind.toNat = 2 → e = .sweep (10 * max 1 (min 1000 p0.toNat)) (p1.toNat / 256)
      (if p1.toNat % 256 = 0 then .forward else .reverse)) ∧
    (kind.toNat = 3 → e = .gradient (if p0.toNat / 256 = 0 then .forward else .reverse))

/-- A gate byte that is refused (R28, R197): a signal above 15, or a reserved bit that is set. -/
abbrev RefusedGate (g : Byte) : Prop :=
  g.getLsbD 7 = true ∧ (15 < g.toNat % 32 ∨ g.getLsbD 5 = true) ∨ g.getLsbD 7 = false ∧ g ≠ 0

/-- What a gate byte is stored as (11.2). -/
def StoredGate (g : Byte) (gate : Option Gate) : Prop :=
  (g = 0 → gate = none) ∧
    (g ≠ 0 → ∃ x : Gate, gate = some x ∧ x.signal.val = g.toNat % 32 ∧ x.openWhen = !g.getLsbD 6)

/-- A descriptor that POST_CUE, PLACE_CUE and LOAD_TEMPLATE refuse with BAD_VALUE (R28, R197). -/
abbrev RefusedDescriptor (d : RawDescriptor) : Prop :=
  d.zones = 0 ∨ 3 < d.layer.toNat ∨ RefusedColour d.aKind d.a0 d.a1 d.a2 ∨ RefusedColourB d.bKind d.b0 d.b1 d.b2 ∨
    RefusedEffect d.effect d.p0 d.p1 d.p2 ∨ RefusedGate d.gate ∨ d.effect.toNat = 3 ∧ d.bKind.toNat = 2

/-- What a descriptor is stored as, and whether a value of it was altered (R3, R27). A colour source B without a GRADIENT is
tested and clamped before it is discarded (DEDUCED, log 35). -/
def StoredDescriptor (d : RawDescriptor) (d' : Descriptor) (altered : Bool) : Prop :=
  d'.layer = (match d.layer.toNat with
    | 0 => .foundation
    | 1 => .theme
    | 2 => .accent
    | _ => .alert) ∧
  d'.priority = min 15 d.priority.toNat ∧ d'.zones = d.zones ∧ StoredColour d.aKind d.a0 d.a1 d.a2 d'.a ∧
  (d.effect.toNat = 3 → ∃ b, d'.b = some b ∧ StoredColour d.bKind d.b0 d.b1 d.b2 b) ∧
  (d.effect.toNat ≠ 3 → d'.b = none) ∧ StoredEffect d.effect d.p0 d.p1 d.p2 d'.effect ∧
  d'.intensity = min 1000 d.intensity.toNat ∧ d'.fadeIn = 10 * min 1000 d.fadeIn.toNat ∧
  d'.fadeOut = 10 * min 1000 d.fadeOut.toNat ∧
  d'.lifetime = (if d.lifetime = 0 then none else some (10 * min 60000 d.lifetime.toNat)) ∧
  StoredGate d.gate d'.gate ∧
  (altered = true ↔ 15 < d.priority.toNat ∨ 1000 < d.intensity.toNat ∨ 1000 < d.fadeIn.toNat ∨
    1000 < d.fadeOut.toNat ∨ 60000 < d.lifetime.toNat ∨ AlteredColour d.aKind d.a0 d.a1 d.a2 ∨
    AlteredColour d.bKind d.b0 d.b1 d.b2 ∨ AlteredEffect d.effect d.p0 d.p1 d.p2)

/-- A change of a cue, already stored as `c`, that MODIFY_CUE refuses with BAD_VALUE (R20, R28, R197): a mask bit from 6 on, a
named field that a posting would refuse, or a GRADIENT left without colour source B. -/
abbrev RefusedModify (c : Descriptor) (mask : BitVec 16) (r : RawDescriptor) : Prop :=
  64 ≤ mask.toNat ∨ mask.getLsbD 2 = true ∧ RefusedColour r.aKind r.a0 r.a1 r.a2 ∨
    mask.getLsbD 3 = true ∧ RefusedColourB r.bKind r.b0 r.b1 r.b2 ∨
    mask.getLsbD 4 = true ∧ RefusedEffect r.effect r.p0 r.p1 r.p2 ∨ mask.getLsbD 5 = true ∧ RefusedGate r.gate ∨
    (if mask.getLsbD 4 then r.effect.toNat = 3 else c.effect.isGradient = true) ∧
      (if mask.getLsbD 3 then r.bKind.toNat = 2 else c.b = none)

/-- A value that MODIFY_CUE alters (R27), among the fields that its mask names. -/
abbrev AlteredModify (mask : BitVec 16) (r : RawDescriptor) : Prop :=
  mask.getLsbD 0 = true ∧ 1000 < r.intensity.toNat ∨ mask.getLsbD 1 = true ∧ 15 < r.priority.toNat ∨
    mask.getLsbD 2 = true ∧ AlteredColour r.aKind r.a0 r.a1 r.a2 ∨
    mask.getLsbD 3 = true ∧ AlteredColour r.bKind r.b0 r.b1 r.b2 ∨
    mask.getLsbD 4 = true ∧ AlteredEffect r.effect r.p0 r.p1 r.p2

/-- A step with a byte that its kind does not use and that is not zero (11.3, R197). -/
abbrev ReservedStep (r : RawStep) : Prop :=
  (r.kind.toNat = 0 ∨ r.kind.toNat = 1 ∨ r.kind.toNat = 3 ∨ r.kind.toNat = 5) ∧ (r.b3 ≠ 0 ∨ r.b4 ≠ 0 ∨ r.b5 ≠ 0) ∨
    r.kind.toNat = 2 ∧ (r.b4 ≠ 0 ∨ r.b5 ≠ 0) ∨
    r.kind.toNat = 6 ∧ (r.b2 ≠ 0 ∨ r.b3 ≠ 0 ∨ r.b4 ≠ 0 ∨ r.b5 ≠ 0)

/-- A step that is refused for its own field values (R148). -/
abbrev RefusedStep (r : RawStep) : Prop :=
  6 < r.kind.toNat ∨ r.kind.toNat = 0 ∧ (23 < r.b1.toNat ∨ 7 < r.b2.toNat) ∨
    r.kind.toNat = 1 ∧ (7 < r.b1.toNat ∨ 1 < r.b2.toNat) ∨ r.kind.toNat = 2 ∧ 7 < r.b1.toNat ∨
    r.kind.toNat = 4 ∧ (15 < r.b1.toNat ∨ 1 < r.b2.toNat ∨ 192 ≤ r.b5.toNat ∨
      128 ≤ r.b5.toNat ∧ 31 < r.b5.toNat % 64) ∨
    r.kind.toNat = 5 ∧ (31 < r.b1.toNat ∨ r.b2 = 0) ∨ r.kind.toNat = 6 ∧ 2 < r.b1.toNat

/-- What a step is stored as, in milliseconds, and whether a value of it was altered (R148, 11.3). The target bits of a CONTINUE
and an ABORT are ignored (DEDUCED, log 25). -/
def StoredStep (r : RawStep) (x : Step) (altered : Bool) : Prop :=
  (r.kind.toNat = 0 → (∃ (t : Fin 24) (l : Fin 8), x = .post t l ∧ t.val = r.b1.toNat ∧ l.val = r.b2.toNat) ∧
    altered = false) ∧
  (r.kind.toNat = 1 → (∃ l : Fin 8, x = .retire l (if r.b2.toNat = 0 then .fade else .now) ∧ l.val = r.b1.toNat) ∧
    altered = false) ∧
  (r.kind.toNat = 2 →
    (∃ l : Fin 8, x = .modify l (min 1000 (256 * r.b2.toNat + r.b3.toNat)) ∧ l.val = r.b1.toNat) ∧
    (altered = true ↔ 1000 < 256 * r.b2.toNat + r.b3.toNat)) ∧
  (r.kind.toNat = 3 → x = .wait (10 * max 1 (min 6000 (256 * r.b1.toNat + r.b2.toNat))) ∧
    (altered = true ↔ 256 * r.b1.toNat + r.b2.toNat = 0 ∨ 6000 < 256 * r.b1.toNat + r.b2.toNat)) ∧
  (r.kind.toNat = 4 →
    (∃ n : Fin 16, x = .waitSignal n (decide (r.b2.toNat = 1)) (10 * min 6000 (256 * r.b3.toNat + r.b4.toNat))
        (if r.b5.toNat < 64 then .goOn else if r.b5.toNat < 128 then .abort else .goto (r.b5.toNat % 64)) ∧
      n.val = r.b1.toNat) ∧
    (altered = true ↔ 6000 < 256 * r.b3.toNat + r.b4.toNat)) ∧
  (r.kind.toNat = 5 → x = .repeatFrom r.b1.toNat r.b2.toNat ∧ altered = false) ∧
  (r.kind.toNat = 6 → x = .finish (match r.b1.toNat with
    | 0 => .keep
    | 1 => .retire
    | _ => .hold) ∧ altered = false)

/-! ## What statements say of tables -/

/-- The two bytes of a handle (11.2): the slot in bits 15 to 10, the generation in bits 9 to 0. -/
def handleBits (slot : Fin 48) (gen : BitVec 10) : BitVec 16 := BitVec.ofNat 6 slot ++ gen

/-- Slot `k` holds the cue `c` under the handle `handle` (R2). -/
def Names (s : State) (handle : BitVec 16) (k : Fin 48) (c : Cue) : Prop :=
  handle = handleBits k s.cues.slots[k].gen ∧ s.cues.slots[k].cue = some c

/-- A handle names no cue (R2, R197): its slot field is above 47, or its slot is free, or it has another generation than its
slot. -/
abbrev NamesNoCue (s : State) (handle : BitVec 16) : Prop :=
  47 < handle.toNat / 1024 ∨
    ∃ k : Fin 48, handle.toNat / 1024 = k.val ∧
      (s.cues.slots[k].cue = none ∨ handle.toNat % 1024 ≠ s.cues.slots[k].gen.toNat)

/-- The watch check of a frame passes (R14, R73): it has no guard, or one with a mode of 0 or 1 whose watch id names an entry
of its client. -/
abbrev PassesWatchCheck (s : State) (h : Header) : Prop :=
  ∀ g : Guard, h.guard = some g → g.mode.toNat ≤ 1 ∧
    ∃ (w : Fin 8) (e : WatchEntry), s.watches.slots[w] = { gen := g.gen, entry := some e } ∧ g.slot.toNat = w.val ∧
      e.client = h.client

/-- Every slot of the Cue Table but `k` is the same. -/
def OnlySlot (k : Fin 48) (s t : State) : Prop := ∀ j : Fin 48, j ≠ k → t.cues.slots[j] = s.cues.slots[j]

/-- Every zone record but that of `z` is the same. -/
def OnlyZone (z : Fin 16) (s t : State) : Prop := ∀ y : Fin 16, y ≠ z → t.zones[y] = s.zones[y]

/-- Every chain record but that of `i` is the same. -/
def OnlyChain (i : Fin 4) (s t : State) : Prop := ∀ j : Fin 4, j ≠ i → t.chains[j] = s.chains[j]

/-- A watch entry that one zone change event for each zone of a set frees (R72); the guarding entry of the command that
raises the events stays (R74, R75). -/
def freedByEvents (s : State) (zones : BitVec 16) (guarding : Option (Fin 8)) (w : Fin 8) : Bool :=
  (s.watches.slots[w].entry.any fun e => zones.getLsbD e.zone) && guarding != some w

/-- One zone change event has been raised for each zone of a set and for no other (R67, R72). -/
def RaisesEvents (zones : BitVec 16) (guarding : Option (Fin 8)) (s t : State) : Prop :=
  (∀ z : Fin 16, t.zones[z] =
      if zones.getLsbD z then { s.zones[z] with count := s.zones[z].count + 1 } else s.zones[z]) ∧
    (∀ w : Fin 8, t.watches.slots[w] =
      if freedByEvents s zones guarding w then { s.watches.slots[w] with entry := none } else s.watches.slots[w]) ∧
    t.watches.order = s.watches.order.filter fun w => !freedByEvents s zones guarding w

/-- The SLEEP frames of a stop or a failure, from OUT and from IN, newest first (R125, R142). -/
def sleepFrames : List TxFrame := [{ sender := .inn, frame := sleepFrame .inn }, { sender := .out, frame := sleepFrame .out }]

/-- A cue as it is written (R3, R7, R43): at its clock's start, fading in unless its fade-in time is 0, its gate at its
target. -/
def writtenCue (s : State) (owner : BitVec 3) (tag : Option RunnerTag) (d : Descriptor) : Cue :=
  { owner := owner, tag := tag, desc := d
    phase := if d.fadeIn = 0 then .steady else .fadingIn 0
    clock := 0, remaining := d.lifetime
    gateRun := d.gate.map fun g =>
      { opened := s.signals.getLsbD g.signal == g.openWhen
        start := if s.signals.getLsbD g.signal == g.openWhen then 1000 else 0, elapsed := 0 } }

/-- A live cue that a posting by a client purges (R15): transient, not fading out, of its layer, sharing a zone, and its own.
-/
def isPurged (s : State) (owner : BitVec 3) (d : Descriptor) (k : Fin 48) : Bool :=
  decide (8 ≤ k.val) && s.cues.slots[k].cue.any fun c =>
    c.owner == owner && c.desc.layer == d.layer && c.desc.zones &&& d.zones != 0 && !c.phase.isFadingOut

/-- The cues that a posting purges, in post order. -/
def purgedCues (s : State) (owner : BitVec 3) (d : Descriptor) : List (Fin 48) :=
  s.cues.postOrder.filter (isPurged s owner d)

/-- A slot whose cue has begun its fade-out with an exit fade time (R10). -/
def CueSlot.fading (x : CueSlot) (exit : Nat) : CueSlot :=
  { x with cue := x.cue.map fun c => { c with phase := .fadingOut 0 exit c.fadeEnvelope } }

/-- A new cue ranks above another (R17): in a higher layer, or in the same layer with a higher priority. -/
def ranksAbove (d e : Descriptor) : Prop :=
  e.layer.rank < d.layer.rank ∨ (d.layer = e.layer ∧ e.priority < d.priority)

/-- Every cue that satisfies `p` and is not fading has begun its fade-out, or is freed where its fade-out time is 0 (R10);
every other slot is as it was. -/
def CuesFade (p : Cue → Bool) (s t : State) : Prop :=
  ∀ k : Fin 48, t.cues.slots[k] = { gen := s.cues.slots[k].gen, cue := match s.cues.slots[k].cue with
    | none => none
    | some c =>
      if p c = true ∧ c.phase.isFadingOut = false then
        (if c.desc.fadeOut = 0 then none else some { c with phase := .fadingOut 0 c.desc.fadeOut c.fadeEnvelope })
      else some c }

/-- The runner tag of a cue names a runner (R163). -/
def Cue.ranBy (r : Fin 2) (c : Cue) : Bool := c.tag.any fun x => x.runner == r

/-- The entry of a palette after the last runner has stopped (R36). -/
def PaletteEntry.settled (e : PaletteEntry) : PaletteEntry :=
  match e.staged with
  | none => e
  | some c => { colour := some c, staged := none }

/-- The Palette is told of the end of runner `r`: where the other runner is idle too, the staged colours are applied (R166).
-/
def staysStaged (r : Fin 2) (s t : State) : Prop :=
  ∀ e : Fin 32, t.palette[e] =
    if (∀ q : Fin 2, q ≠ r → s.seq.runners[q].state = .idle) then s.palette[e].settled else s.palette[e]

/-- Runner `r` has become idle, with its slot READY (R151, R163); its step index stays (log 37). Nothing else of the Sequence
Engine has changed but labels of freed cues. -/
def RunEnds (r : Fin 2) (k : Fin 6) (s t : State) : Prop :=
  t.seq.runners[r] = { Runner.idle with index := s.seq.runners[r].index } ∧
    (∀ q : Fin 2, q ≠ r → t.seq.runners[q] = s.seq.runners[q]) ∧
    t.seq.slots[k] = { s.seq.slots[k] with state := .ready } ∧
    (∀ m : Fin 6, m ≠ k → t.seq.slots[m] = s.seq.slots[m]) ∧ t.seq.templates = s.seq.templates ∧
    t.seq.nextOrder = s.seq.nextOrder

/-- Runner `r` steps through slot `k` and waits at index `i`. -/
def RunsAt (r : Fin 2) (k : Fin 6) (i : Nat) (s : State) : Prop :=
  s.seq.runners[r].slot = some k ∧ s.seq.runners[r].index = i

/-- Slot `k` holds a step at an index. -/
def HasStep (k : Fin 6) (i : Nat) (x : Step) (s : State) : Prop :=
  ∃ j : Fin 32, j.val = i ∧ s.seq.slots[k].steps[j] = some x

/-- Runner `r`, otherwise `x`, waits at the WAIT at index `i`, and nothing else of the Sequence Engine has changed (R159). -/
def WaitsAt (r : Fin 2) (x : Runner) (i duration : Nat) (s t : State) : Prop :=
  t.seq.runners[r] = { x with state := .timedWait, index := i, wait := some duration } ∧
    (∀ q : Fin 2, q ≠ r → t.seq.runners[q] = s.seq.runners[q]) ∧ t.seq = { s.seq with runners := t.seq.runners }

/-- Runner `r` has been given slot `k` and waits at its first step, a WAIT (R154, R155, R159). -/
def Started (r : Fin 2) (k : Fin 6) (starter : Starter) (duration : Nat) (s t : State) : Prop :=
  t.seq.runners[r] =
      { state := .timedWait, slot := some k, startedBy := some starter, order := some s.seq.nextOrder, index := 0,
        labels := Vector.replicate 8 none, loop := none, posted := 0, wait := some duration } ∧
    t.seq.slots[k] = { s.seq.slots[k] with state := .running r } ∧ t.seq.templates = s.seq.templates ∧
    t.seq.nextOrder = s.seq.nextOrder + 1

/-- A POST step of slot `k` names a template that holds a zone (R65). -/
def PostsTo (k : Fin 6) (z : Fin 16) (s : State) : Prop :=
  ∃ (j : Fin 32) (t : Fin 24) (l : Fin 8) (d : Descriptor),
    s.seq.slots[k].steps[j] = some (.post t l) ∧ s.seq.templates[t] = some d ∧ d.zones.getLsbD z = true

/-- The step at an index of a slot. -/
def SeqSlot.stepIs (q : SeqSlot) (i : Nat) (p : Step → Prop) : Prop :=
  ∃ (j : Fin 32) (x : Step), j.val = i ∧ q.steps[j] = some x ∧ p x

/-- A condition of R149's table fails at index `i` of a sequence of `count` steps. -/
def breaksRule (q : SeqSlot) (count : Nat) (fault : SequenceFault) (i : Nat) : Prop :=
  match fault with
  | .notWritten => q.written.getLsbD i = false
  | .finalNotEnd => i + 1 = count ∧ ¬ q.stepIs i fun x => ∃ d, x = .finish d
  | .targetNotBelow => q.stepIs i fun x => ∃ t n, x = .repeatFrom t n ∧ i ≤ t
  | .nestedRepeat => q.stepIs i fun x => ∃ t n, x = .repeatFrom t n ∧ ∃ j, t ≤ j ∧ j < i ∧
      q.stepIs j fun y => ∃ t' n', y = .repeatFrom t' n'
  | .rangeWithoutWait => q.stepIs i fun x => ∃ t n, x = .repeatFrom t n ∧ ∀ j, t ≤ j → j < i →
      ¬ q.stepIs j fun y => (∃ d, y = .wait d) ∨ ∃ m v l a, y = .waitSignal m v l a
  | .gotoBeyond => q.stepIs i fun x => ∃ m v l t, x = .waitSignal m v l (.goto t) ∧ count ≤ t

/-- The latest composites after the frame in flight has completed (R85, R97). -/
def latestAfter (s : State) (z : Fin 16) : Option (List Comp) :=
  match s.composer.frame with
  | none => s.composer.latest[z]
  | some f => if f.discarded.getLsbD z then s.composer.latest[z] else some (f.snap.composite z)

/-- The record of a chain that has failed (R142): its mailbox emptied and its SLEEP frames sent. -/
def failedChain (c : Chain) : Chain := { c with mailbox := none, mode := .failed, sent := sleepFrames ++ c.sent }

/-- The slot of a duty set's entry as it is sent (R131): blank for a node that is OFFLINE. -/
def slotSent (c : Chain) (d : DutyEntry) : SentSlot :=
  { position := d.position
    bits := dutySlot (if (c.nodeAt d.position).any (·.state == .offline) then .blank else d.duty) }

/-- The slots of the half that goes out on an end of a SPLIT chain (R139): ascending to the reach of OUT, descending to that
of IN. -/
def halfSlots (c : Chain) (x : Split) (set : List DutyEntry) : End → List SentSlot
  | .out => (set.filter fun d => decide (d.position ≤ x.outReach)).map (slotSent c)
  | .inn => ((set.filter fun d => decide (c.found - x.inReach < d.position ∧ d.position ≤ c.found)).map
      (slotSent c)).reverse

/-- A notice reaches the list and the line follows it (R193, R196), written out: it merges, is appended, or is missed. -/
def Notices.after (n : Notices) (kind : NoticeKind) (subject : Subject) (detail : Detail) : Notices :=
  if (kind, subject) ∈ n.list.map (fun x => (x.kind, x.subject)) then
    { n with list := n.list.map fun x =>
        if (x.kind, x.subject) = (kind, subject) then { x with detail := detail, count := min 255 (x.count + 1) }
        else x }
  else if n.list.length = 8 then { n with missed := min 255 (n.missed + 1) }
  else { n with list := n.list ++ [{ kind := kind, subject := subject, detail := detail, count := 1 }] }

/-- NOTICE_N is driven low (R196): an unmasked notice waits, or the missed count is above 0. -/
def lineLow (n : Notices) : Prop := (∃ x ∈ n.list, n.mask.getLsbD x.kind.code = false) ∨ 0 < n.missed

/-- R118, R124, R129: what a start leaves of a chain record: an empty mailbox, cleared node records, no found count, no
break, no runs, the rate of the policy, STARTING, and a COUNT frame on OUT with running position 1. -/
def startedChain (c : Chain) : Chain :=
  { c with
    enabled := true, mailbox := none
    nodes := Vector.replicate 60
      { state := .absent, bin := 0, badReplies := 0, goodRun := 0, temperature := -40,
        flags := { openRed := false, openGreen := false, openBlue := false, short := false, overheat := false } }
    found := 0, brk := none, runOut := 0, runIn := 0
    rate := if c.ratePolicy = .auto then .fast else .slow
    ringDone := false, mode := .counting 0
    sent := { sender := .out, frame := countFrame .out 0 1 } :: c.sent }

/-- R118: chain `i` has been reported to the Output Conditioner as starting. -/
def outputInitial (i : Fin 4) (s t : State) : Prop :=
  t.cond.perChain[i] = { thermal := 1000, budget := 1000, estimate := 0 } ∧
    (∀ j : Fin 4, j ≠ i → t.cond.perChain[j] = s.cond.perChain[j]) ∧
    t.cond = { s.cond with perChain := t.cond.perChain }

/-- The two SLEEP frames of a stop (R125) on top of what a chain has sent. -/
def sleepSent (c : Chain) : List TxFrame := sleepFrames ++ c.sent

/-- The Composer but for its mark that a chain has left the state it held at the snapshot (R117). -/
def onlyMarks (i : Fin 4) (s t : State) : Prop :=
  t.composer.period = s.composer.period ∧ t.composer.timer = s.composer.timer ∧ t.composer.latest = s.composer.latest ∧
    (s.composer.frame = none → t.composer.frame = none) ∧
    ∀ f, s.composer.frame = some f → ∃ f', t.composer.frame = some f' ∧ f'.snap = f.snap ∧
      f'.discarded = f.discarded ∧ f'.left.getLsbD i = true ∧
      ∀ j : Fin 4, j ≠ i → f'.left.getLsbD j = f.left.getLsbD j

/-- The levels of a cue lie in their ranges (R10, R27, R44). -/
def Cue.levelsOk (c : Cue) : Bool :=
  decide (c.desc.intensity ≤ 1000) &&
    (match c.desc.effect with
      | .pulse period floor _ => decide (floor ≤ 1000 ∧ 2 ≤ period ∧ period % 2 = 0)
      | _ => true) &&
    (match c.phase with
      | .fadingIn t => decide (t ≤ c.desc.fadeIn)
      | .steady => true
      | .fadingOut _ _ start => decide (start ≤ 1000)) &&
    c.gateRun.all fun g => decide (g.start ≤ 1000)

/-- Every component of a colour is at most `n`. -/
def Rgb.le (c : Rgb) (n : Nat) : Prop := c.r ≤ n ∧ c.g ≤ n ∧ c.b ≤ n

/-- Every component that a source gives of itself is at most `n`. -/
def ColourSource.le (x : ColourSource) (n : Nat) : Prop :=
  match x with
  | .direct c => c.le n
  | .palette _ => True

/-- A colour source gives a colour (R38): its own, or that of the palette entry it names. -/
def SourceGives (x : ColourSource) (pal : Vector PaletteEntry 32) (c : Rgb) : Prop :=
  x = .direct c ∨ ∃ e : Fin 32, x = .palette e ∧ pal[e].colour = some c

/-- A colour source names an UNDEFINED palette entry (R39). -/
def NamesUndefined (x : ColourSource) (pal : Vector PaletteEntry 32) : Prop :=
  ∃ e : Fin 32, x = .palette e ∧ pal[e].colour = none

/-- Every colour and level that a composition reads lies in its range (R27, R34, R53, R54). -/
def ReadsInRange (t : CueTable) (pal : Vector PaletteEntry 32) : Prop :=
  (∀ (e : Fin 32) (c : Rgb), pal[e].colour = some c → c.le 4095) ∧
    ∀ (k : Fin 48) (c : Cue), t.slots[k].cue = some c →
      c.levelsOk = true ∧ c.desc.a.le 4095 ∧ ∀ b, c.desc.b = some b → b.le 4095

/-- A cue of layer `l` that may light zone `z` (R47, R86): it is not fading out, and its gate is not wholly closed. -/
def mayLight (t : CueTable) (z : Fin 16) (l : Layer) (k : Fin 48) : Prop :=
  ∃ c, t.slots[k].cue = some c ∧ c.desc.layer = l ∧ c.desc.zones.getLsbD z = true ∧ c.phase.isFadingOut = false ∧
    ∀ g, c.gateRun = some g → g.opened = true ∨ c.gateEnvelope ≠ 0

/-- A cue of layer `l` that fades out of zone `z` (R88). -/
def fadesFrom (t : CueTable) (z : Fin 16) (l : Layer) (k : Fin 48) : Prop :=
  ∃ c, t.slots[k].cue = some c ∧ c.desc.layer = l ∧ c.desc.zones.getLsbD z = true ∧ c.phase.isFadingOut = true

/-- The notices of R115 for one chain whose set is placed. -/
def limitNotices (f : Frame) (perChain : Vector ChainOutput 4) (n : Notices) (i : Fin 4) : Notices :=
  if (f.snap.chains[i].state = .ring ∨ f.snap.chains[i].state = .split) ∧ f.left.getLsbD i = false then
    let after := f.snap.output i
    let n := if perChain[i].thermal = 1000 ∧ after.thermal < 1000 then
      n.after .thermalLimit (.chain i) (.number (after.thermal / 10)) else n
    if perChain[i].budget = 1000 ∧ after.budget < 1000 then
      n.after .budgetLimit (.chain i) (.number (after.budget / 10)) else n
  else n

/-! ## Transitions of the power state -/

/-- Steps 1 to 5 of R176: `t` is `s` with the part in LIT, on a path of this cause and with this list of notices before
POWER_STATE. No frame is in flight (R96; log 41). `waits` says whether the wake start of step 6 is still pending. -/
def EntersLit (cause : PathCause) (notices : Notices) (waits : Bool) (s t : State) : Prop :=
  t.power = { s.power with
    state := .lit, envStart := 0, envElapsed := 0, awaited := 0, settle := none, cause := none, pendingWake := waits
    darkRemaining := if s.power.darkInterval = 0 then none else some (1000 * s.power.darkInterval) } ∧
  t.cond = { s.cond with level := curveLevelOf s.cond.curve s.cond.lux * s.cond.master / 1000 } ∧
  (∀ z : Fin 16, t.composer.latest[z] = none) ∧ t.composer.timer = some 0 ∧ t.composer.frame = none ∧
  t.composer.period = s.composer.period ∧
  t.notices = notices.after .powerState .lit (.power (match cause with
    | .command => .command
    | .wake => .wake))

/-- The state without its pending wake start (R170). -/
def withoutWake (s : State) : State := { s with power := { s.power with pendingWake := false } }

/-- Step 6 of R176, of an entry to LIT that was begun in `s` and whose steps 1 to 5 gave `u`, which keeps the pending wake
start. It has been made, with the effect that R177 gives a WAKE edge in LIT; or the first snapshot comes before it, and it
still waits for that. Which of the two is a free value (UNVERIFIED, log 10). -/
def OrdersWakeStart (s u t : State) : Prop :=
  if Config.snapshotFirst s.freeCounter then t = u else exec .wakeRisingEdge (withoutWake u) = .next t

/-- R175: chain `i` of the awaited set has arrived in POWERING, with this list of notices. It leaves the set, and where it
was the last the part enters LIT, where a pending wake start finds no welcome armed, or is made before or after the first
snapshot. -/
def ArrivesInPowering (i : Fin 4) (cause : PathCause) (notices : Notices) (s t : State) : Prop :=
  OnlyChain i s t ∧
  (s.power.awaited ≠ BitVec.twoPow 4 i →
    (∀ j : Fin 4, t.power.awaited.getLsbD j = (s.power.awaited.getLsbD j && decide (j ≠ i))) ∧
    t.power = { s.power with awaited := t.power.awaited } ∧ t.notices = notices ∧
    t.composer.timer = s.composer.timer ∧ t.composer.period = s.composer.period ∧
    t.composer.latest = s.composer.latest ∧ t.composer.frame.map (·.snap) = s.composer.frame.map (·.snap) ∧
    OnlyChanges [.power, .chains, .composer, .notices, .noticeLow] s t) ∧
  (s.power.awaited = BitVec.twoPow 4 i →
    (s.power.pendingWake = false ∨ s.power.welcomeArm = none → EntersLit cause notices false s t ∧
      OnlyChanges [.power, .chains, .cond, .composer, .notices, .noticeLow] s t) ∧
    (s.power.pendingWake = true → s.power.welcomeArm ≠ none → ∃ u, EntersLit cause notices true s u ∧
      OnlyChanges [.power, .chains, .cond, .composer, .notices, .noticeLow, .freeCounter] s u ∧ OrdersWakeStart s u t))

/-- The list of notices after the aborts of an entry to DIMMING (R164, R177): SEQUENCE_END (POWER) for the slot of each
active runner, the lower-numbered runner first. -/
def abortNotices (s : State) : Notices :=
  (List.finRange 2).foldl (fun n r => match s.seq.runners[r].slot with
    | none => n
    | some k => n.after .sequenceEnd (.slot k) (.ended .power)) s.notices

/-- R171, R177: the part has entered DIMMING, its ramp starting from the envelope of that moment. Every active runner has
been aborted with the cause POWER (R164): its cues fade, it is idle with its step index kept (log 37), its slot is READY, and
the staged colours are applied after the last. -/
def EntersDimming (dest : Destination) (s t : State) : Prop :=
  t.power = { s.power with state := .dimming, dest := some dest, envStart := s.power.envelope, envElapsed := 0,
                           darkRemaining := none } ∧
  (∀ r : Fin 2, t.seq.runners[r] = if s.seq.runners[r].state.active then
      { Runner.idle with index := s.seq.runners[r].index }
    else s.seq.runners[r]) ∧
  (∀ k : Fin 6, t.seq.slots[k] = { s.seq.slots[k] with state := match s.seq.slots[k].state with
    | .running _ => .ready
    | x => x }) ∧
  t.seq.templates = s.seq.templates ∧ t.seq.nextOrder = s.seq.nextOrder ∧
  CuesFade (fun c => c.tag.any fun x => s.seq.runners[x.runner].state.active) s t ∧ t.notices = abortNotices s ∧
  ∀ e : Fin 32, t.palette[e] =
    if (∃ r : Fin 2, s.seq.runners[r].state.active = true) then s.palette[e].settled else s.palette[e]

/-- R178: DIMMING toward this destination has ended. Every chain that is not OFF has been stopped with its SLEEP frames, the
transient cues are free, POWER_STATE (DIMMED) is raised, and a frame in flight at the entry to DORMANT has completed (R96,
R97; log 41). -/
def DimmingEnds (dest : Destination) (s t : State) : Prop :=
  t.power = { s.power with state := (match dest with
                | .standby => .standby
                | .dormant => .dormant), dest := none } ∧
  t.supplyEn = false ∧ t.composer.timer = none ∧ t.composer.period = s.composer.period ∧
  (dest = .standby → t.composer.latest = s.composer.latest ∧
    t.composer.frame.map (·.snap) = s.composer.frame.map (·.snap)) ∧
  (dest = .dormant → t.composer.frame = none ∧ ∀ z : Fin 16, t.composer.latest[z] = latestAfter s z) ∧
  (∀ i : Fin 4, t.chains[i] = if s.chains[i].mode = .off then s.chains[i]
    else { s.chains[i] with mailbox := none, mode := .off, sent := sleepSent s.chains[i] }) ∧
  (∀ k : Fin 48, t.cues.slots[k] =
    if 8 ≤ k.val then { gen := s.cues.slots[k].gen, cue := none } else s.cues.slots[k]) ∧
  t.cues.postOrder = (s.cues.postOrder.filter fun k => decide (k.val < 8)) ∧
  t.notices = s.notices.after .powerState .standby (.power .dimmed)

/-- What an entry to DIMMING may change. -/
abbrev dimmingFields : List Field := [.cues, .zones, .watches, .seq, .power, .palette, .notices, .noticeLow]

/-- What the end of DIMMING may change. -/
abbrev dimmedFields : List Field :=
  [.power, .supplyEn, .composer, .chains, .cues, .zones, .watches, .seq, .notices, .noticeLow]

/-! ## Stages 6 to 10 of a frame (chapter 6) -/

/-- A record of a good reply of a driven node (R109, R133): ONLINE with the reported temperature, no open and no short, and
OVERHEAT only where it was set and the temperature is above 110. -/
def Node.answered (n : Node) (reply : BitVec 48) : Node :=
  { n with
    state := .online, badReplies := 0, temperature := slotTemperature reply
    flags := { openRed := false, openGreen := false, openBlue := false, short := false
               overheat := n.flags.overheat && decide (110 < slotTemperature reply) } }

/-- The flags of a record after a good reply (R109, R134): the open and short flags as the reply has them, OVERHEAT with its
hysteresis. -/
def flagsAfter (f : NodeFlags) (reply : BitVec 48) : NodeFlags :=
  { openRed := reply.getLsbD 39, openGreen := reply.getLsbD 38, openBlue := reply.getLsbD 37
    short := reply.getLsbD 36
    overheat := if f.overheat then decide (110 < slotTemperature reply) else decide (125 ≤ slotTemperature reply) }

/-- The list of notices after a good reply of a node (R109, R134): NODE_FAULT for each flag that is newly set, OPEN_RED,
OPEN_GREEN, OPEN_BLUE, SHORT and, last, OVERHEAT (DEDUCED, log 38). -/
def faultNotices (n : Notices) (node : NodeRef) (before after : NodeFlags) : Notices :=
  let fault (was now : Bool) (f : NodeFault) (n : Notices) : Notices :=
    if was = false ∧ now = true then n.after .nodeFault (.node node) (.node f) else n
  let n := fault before.openRed after.openRed .openRed n
  let n := fault before.openGreen after.openGreen .openGreen n
  let n := fault before.openBlue after.openBlue .openBlue n
  let n := fault before.short after.short .short n
  fault before.overheat after.overheat .overheat n

/-- What a good reply makes of a node record (R109, R133, R134): its temperature and its flags are taken and its bad replies
are 0. A driven node is ONLINE; an OFFLINE one has one more good reply in its run, and under AUTO the third brings it ONLINE.
-/
def Node.repliesWell (n n' : Node) (rejoin : Rejoin) (reply : BitVec 48) : Prop :=
  n' = { n with badReplies := 0, temperature := slotTemperature reply, flags := flagsAfter n.flags reply
                state := n'.state, goodRun := n'.goodRun } ∧
  (n.state = .online ∨ n.state = .suspect → n'.state = .online ∧ n'.goodRun = n.goodRun) ∧
  (n.state = .offline →
    if rejoin = .auto ∧ 2 ≤ n.goodRun then n'.state = .online ∧ n'.goodRun = 0
    else n'.state = .offline ∧ n'.goodRun = min 255 (n.goodRun + 1))

/-! ## LampRing formats (section 11.5) -/

/-- The check of a slot holds: the CRC-8 over its bits 47 to 8. -/
abbrev Checked (x : BitVec 48) : Prop :=
  x.extractLsb' 0 8 =
    crc8 [x.extractLsb' 40 8, x.extractLsb' 32 8, x.extractLsb' 24 8, x.extractLsb' 16 8, x.extractLsb' 8 8]

/-- A header is one of a kind, sent from an end, with a slot count, and its check holds; the hop count is any (R121, R198). -/
def HeaderReads (h : BitVec 24) (kind : RingKind) (e : End) (slots : Nat) : Prop :=
  (h.extractLsb' 21 3).toNat = (match kind with
    | .count => 0
    | .ident => 1
    | .duty => 2
    | .probe => 3
    | .sleep => 4) ∧
  (h.getLsbD 20 = true ↔ e = .inn) ∧ (h.extractLsb' 8 6).toNat = slots ∧
  h.extractLsb' 0 8 = crc8 [h.extractLsb' 16 8, h.extractLsb' 8 8]

/-- A kind of notice can have a subject (R192). -/
def MayConcern (kind : NoticeKind) (x : Subject) : Prop :=
  match kind with
  | .restarted => x = .none
  | .powerState => x = .standby ∨ x = .lit
  | .chainState | .countMismatch | .budgetLimit | .thermalLimit => ∃ c, x = .chain c
  | .nodeFault => ∃ n, x = .node n ∧ 1 ≤ n.position ∧ n.position ≤ 60
  | .stepTimeout | .sequenceEnd => ∃ k, x = .slot k
  | .cueEvicted => ∃ c, x = .client c

/-! ## Enumeration (section 7.4) -/

/-- The nodes that are still unread after a clean IDENT of the whole loop (R130), whose slots lie in the order of the
positions. A node once read stays read (DEDUCED, log 30). -/
def unreadAfter (unread : List Nat) (f : RingFrame) : List Nat :=
  unread.filter fun p => !(f.slots[p - 1]?.any goodIdentReply)

/-- A chain after the slots of a clean IDENT of the whole loop (R130): each good one gives its node's bin, each other adds 1
to the retries total, also for a node that was read before (DEDUCED, log 30). -/
def binsRead (c : Chain) (f : RingFrame) : Chain :=
  { c with
    retries := min 65535 (c.retries + f.slots.countP fun x => !goodIdentReply x)
    nodes := Vector.ofFn fun k : Fin 60 => match f.slots[k.val]? with
      | some x => if goodIdentReply x then { c.nodes[k] with bin := slotBin x } else c.nodes[k]
      | none => c.nodes[k] }

/-- NODE_FAULT (OFFLINE) is raised for each node that was never read (R130), in ascending position (DEDUCED, log 14). -/
def unreadNotices (n : Notices) (i : Fin 4) (unread : List Nat) : Notices :=
  (List.range' 1 60).foldl (fun n p =>
    if p ∈ unread then n.after .nodeFault (.node { chain := i, position := p }) (.node .offline) else n) n

/-- R130: the IDENT of a start has ended, outside POWERING, with some nodes never read; `c` is the chain after its last frame.
Those nodes are OFFLINE with bin 0. Under AUTO and MANUAL the others are ONLINE and the chain is in RING, under HALT it has
failed. -/
def EndsUnread (i : Fin 4) (c : Chain) (unread : List Nat) (s t : State) : Prop :=
  (let off := fun n : Node => { n with state := .offline, bin := 0, goodRun := 0 }
   let faults := unreadNotices s.notices i unread
   (c.rejoin ≠ .halt →
     (∀ k : Fin 60, t.chains[i].nodes[k] =
       if k.val + 1 ∈ unread then off c.nodes[k]
       else if k.val < c.found then { c.nodes[k] with state := .online } else c.nodes[k]) ∧
     t.chains[i] = { c with mode := .ring none, ringDone := true, nodes := t.chains[i].nodes } ∧ t.notices = faults) ∧
   (c.rejoin = .halt →
     (∀ k : Fin 60, t.chains[i].nodes[k] = if k.val + 1 ∈ unread then off c.nodes[k] else c.nodes[k]) ∧
     t.chains[i] = failedChain { c with nodes := t.chains[i].nodes } ∧
     t.notices = faults.after .chainState (.chain i) (.chain .failed))) ∧
  OnlyChain i s t ∧ onlyMarks i s t ∧ OnlyChanges [.chains, .composer, .notices, .noticeLow] s t

/-- R135: chain `i`, which is `c` before it, has entered LOCATING from STARTING, with its first probe sent. -/
def LocatesFromStart (i : Fin 4) (c : Chain) (s t : State) : Prop :=
  t.chains[i] = { c with mailbox := none, mode := .locating .whole false false
                         sent := { sender := .out, frame := probeFrame .out 0 } :: c.sent } ∧
  t.notices = s.notices.after .chainState (.chain i) (.chain .locating) ∧ OnlyChain i s t ∧ onlyMarks i s t ∧
  OnlyChanges [.chains, .composer, .notices, .noticeLow] s t

/-- R142: chain `i`, which is `c` before it, has failed, outside POWERING, with this list of notices before CHAIN_STATE. -/
def FailsFromStart (i : Fin 4) (c : Chain) (n : Notices) (s t : State) : Prop :=
  t.chains[i] = failedChain c ∧ t.notices = n.after .chainState (.chain i) (.chain .failed) ∧ OnlyChain i s t ∧
  onlyMarks i s t ∧ OnlyChanges [.chains, .composer, .notices, .noticeLow] s t

/-! ## The sides of a SPLIT (sections 7.6.1 and 7.6.2) -/

/-- The probe after which both reaches of a LOCATE are known (R135): the hop count after `m` from IN is lost twice, or hop count
60 from IN is returned. -/
def LastProbe (i : Fin 4) (j m : Nat) (fromRing : Bool) (event : Instr) (s : State) : Prop :=
  event = .probeLost i .inn ∧ s.chains[i].mode = .locating (.fromIn j (m + 1)) true fromRing ∨
    event = .probeReturned i .inn (probeFrame .inn 0) ∧ m = 60 ∧
      ∃ second, s.chains[i].mode = .locating (.fromIn j 60) second fromRing

/-- The positions of a side, in the order that a frame from its end meets the nodes (R138). -/
def sidePositions (c : Chain) (x : Split) : End → List Nat
  | .out => List.range' 1 x.outReach
  | .inn => (List.range' (c.found - x.inReach + 1) x.inReach).reverse

/-- The nodes that are still unread after a clean IDENT of a side (R130, R138; DEDUCED, log 30, as unreadAfter). -/
def unreadOfSide (positions unread : List Nat) (f : RingFrame) : List Nat :=
  unread.filter fun p => !(positions.zip f.slots).any fun y => y.1 == p && goodIdentReply y.2

/-- A chain after the slots of a clean IDENT of a side (R130, R138): each good one gives its node's bin, each other adds 1 to the
retries total (DEDUCED, log 30, as binsRead). -/
def sideRead (c : Chain) (positions : List Nat) (f : RingFrame) : Chain :=
  { c with
    retries := min 65535 (c.retries + f.slots.countP fun x => !goodIdentReply x)
    nodes := Vector.ofFn fun k : Fin 60 =>
      match (positions.zip f.slots).find? fun y => y.1 == k.val + 1 with
      | some y => if goodIdentReply y.2 then { c.nodes[k] with bin := slotBin y.2 } else c.nodes[k]
      | none => c.nodes[k] }

/-- R137, steps 5 to 7: the chain, with its break between the reaches, drives its two sides. -/
def splitSettled (c : Chain) (x : Split) : Chain :=
  { c with
    brk := some { lastOut := x.outReach, firstIn := c.found - x.inReach + 1 }, runOut := 0, runIn := 0
    switches := min 255 (c.switches + 1)
    mode := .split { x with
      phase := .driving .idle .idle []
      restore := if c.rejoin = .auto then .running c.restoreInterval else .stopped } }

/-- R130, R138: the IDENT of side `e` has ended, outside POWERING, with some nodes never read; `c` is the chain after its last
frame. Those nodes are OFFLINE with bin 0. Under AUTO and MANUAL the others of the side are ONLINE, and the IN side follows or
the entry to SPLIT is finished; under HALT the chain has failed. -/
def SideEndsUnread (i : Fin 4) (x : Split) (e : End) (c : Chain) (unread : List Nat) (s t : State) : Prop :=
  (let off := fun n : Node => { n with state := .offline, bin := 0, goodRun := 0 }
   let faults := unreadNotices s.notices i unread
   (c.rejoin ≠ .halt →
     (∀ k : Fin 60, t.chains[i].nodes[k] =
       if k.val + 1 ∈ unread then off c.nodes[k]
       else if k.val + 1 ∈ sidePositions c x e then { c.nodes[k] with state := .online } else c.nodes[k]) ∧
     t.composer = s.composer ∧
     (e = .out ∧ 0 < x.inReach →
       t.chains[i] = { c with
         nodes := t.chains[i].nodes, mode := .split { x with phase := .counting .inn 0 }
         sent := { sender := .inn, frame := countFrame .inn x.inReach c.found } :: c.sent } ∧ t.notices = faults) ∧
     (¬ (e = .out ∧ 0 < x.inReach) →
       t.chains[i] = { splitSettled c x with nodes := t.chains[i].nodes } ∧
       t.notices = faults.after .chainState (.chain i)
         (.chain (.split { lastOut := x.outReach, firstIn := c.found - x.inReach + 1 })))) ∧
   (c.rejoin = .halt →
     (∀ k : Fin 60, t.chains[i].nodes[k] = if k.val + 1 ∈ unread then off c.nodes[k] else c.nodes[k]) ∧
     t.chains[i] = failedChain { c with nodes := t.chains[i].nodes } ∧ onlyMarks i s t ∧
     t.notices = faults.after .chainState (.chain i) (.chain .failed))) ∧
  OnlyChain i s t ∧
  OnlyChanges [.chains, .composer, .notices, .noticeLow] s t

/-! ## Steps of a runner (section 8.4) -/

/-- A live cue that the POST step of a runner purges (R15): one that client 7 would purge, and of the same runner. -/
def isRunPurged (s : State) (r : Fin 2) (d : Descriptor) (k : Fin 48) : Bool :=
  isPurged s 7 d k && s.cues.slots[k].cue.any (Cue.ranBy r)

/-- The cues that the POST step of a runner purges, in post order. -/
def runPurged (s : State) (r : Fin 2) (d : Descriptor) : List (Fin 48) := s.cues.postOrder.filter (isRunPurged s r d)

/-- A posting that finds no free slot and frees none by its purge evicts the cue `c` in slot `k` (R16, R17): the first
transient cue on the retiring list after the purge, else the lowest in layer, priority and post order, where the new cue ranks
above it. -/
def Evicts (s : State) (purged : List (Fin 48)) (d : Descriptor) (k : Fin 48) (c : Cue) : Prop :=
  ((d.fadeIn ≠ 0 ∨ purged = []) ∧ (s.cues.retiring ++ purged).find? (fun j => decide (8 ≤ j.val)) = some k) ∨
    (purged = [] ∧ (∀ j ∈ s.cues.retiring, j.val < 8) ∧ ranksAbove d c.desc ∧
      ∀ (j : Fin 48) (e : Cue), 8 ≤ j.val → j ≠ k → s.cues.slots[j].cue = some e →
        ranksAbove e.desc c.desc ∨ (e.desc.layer = c.desc.layer ∧ e.desc.priority = c.desc.priority ∧
          s.cues.postOrder.idxOf k < s.cues.postOrder.idxOf j))

/-- Labels with the handles that satisfy `p` taken out (R157). -/
def labelsWithout (labels : Vector (Option Handle) 8) (p : Handle → Bool) : Vector (Option Handle) 8 :=
  labels.map fun l => l.filter fun h => !p h

/-- Runner `r`, otherwise `x`, waits at the WAIT_SIGNAL at index `i` whose signal has another value (R160): with its timeout,
or without one where that is 0. Nothing else of the Sequence Engine has changed. -/
def WaitsForSignal (r : Fin 2) (x : Runner) (i timeout : Nat) (s t : State) : Prop :=
  t.seq.runners[r] = { x with state := .signalWait, index := i, wait := if timeout = 0 then none else some timeout } ∧
    (∀ q : Fin 2, q ≠ r → t.seq.runners[q] = s.seq.runners[q]) ∧ t.seq = { s.seq with runners := t.seq.runners }

/-- R178: `t` is `s` with DIMMING reversed to LIT, with this list of notices. -/
def Reversed (notices : Notices) (s t : State) : Prop :=
  t.power = { s.power with
    state := .lit, dest := none, envStart := s.power.envelope, envElapsed := 0
    darkRemaining := if s.power.darkInterval = 0 then none else some (1000 * s.power.darkInterval) } ∧
  t.cond = { s.cond with level := curveLevelOf s.cond.curve s.cond.lux * s.cond.master / 1000 } ∧
  (∀ z : Fin 16, t.composer.latest[z] = none) ∧ t.composer.timer = s.composer.timer ∧
  t.composer.period = s.composer.period ∧ t.notices = notices

/-- A node record that is ONLINE or SUSPECT and not flagged OVERHEAT (R100, R110). -/
def Node.burns (n : Node) : Prop := (n.state = .online ∨ n.state = .suspect) ∧ n.flags.overheat = false

/-- R108, 1 to 3: what a row of a matrix gives for a colour, before the scaling of step 4. -/
def rowValue (row : Int × Int × Int) (p : Rgb) : Nat :=
  (max 0 ((row.1 * p.r + row.2.1 * p.g + row.2.2 * p.b + 512) / 1024)).toNat

/-- What a drive draws (R113): the sum over its channels of duty times the full-scale current of its bin. -/
def drawOf (f : Snapshot) (d : Drive) : Nat :=
  let i := f.bins[d.bin].current
  d.duty.r * i.1 + d.duty.g * i.2.1 + d.duty.b * i.2.2

/-- The reply of a GO command (R182). -/
def goReply (t : State) : Payload := .power t.power.state t.power.envelope t.power.darkRemaining

/-! ## Invariants -/

/-- The identity of a notice (R192). -/
def Notice.key (n : Notice) : NoticeKind × Subject := (n.kind, n.subject)

/-- The notice list and NOTICE_N (R189, R192, R196). -/
abbrev NoticeInv (s : State) : Prop :=
  s.notices.list.length ≤ 8 ∧ (s.notices.list.map Notice.key).Nodup ∧
    (∀ n ∈ s.notices.list, 1 ≤ n.count ∧ n.count ≤ 255) ∧ s.notices.missed ≤ 255 ∧
    s.noticeLow = (!s.resetLow && s.notices.drivesLine)

/-- The lists of the Cue Table (R5, R6). -/
abbrev CueInv (s : State) : Prop :=
  s.cues.postOrder.Nodup ∧ s.cues.retiring.Nodup ∧
    (∀ k : Fin 48, k ∈ s.cues.postOrder ↔ s.cues.slots[k].cue.isSome = true) ∧
    (∀ k : Fin 48, k ∈ s.cues.retiring ↔ (s.cues.slots[k].cue.any fun c => c.phase.isFadingOut) = true)

/-- The Watch Table (R68, R70). -/
abbrev WatchInv (s : State) : Prop :=
  s.watches.order.Nodup ∧ (∀ w : Fin 8, w ∈ s.watches.order ↔ s.watches.slots[w].entry.isSome = true) ∧
    (∀ v w : Fin 8, s.watches.slots[v].entry.isSome = true → s.watches.slots[v].entry = s.watches.slots[w].entry →
      v = w)

/-- Whether a frozen composite has been captured for this many nodes. -/
def Hold.fits (h : Hold) (nodes : Nat) : Bool :=
  match h with
  | .captured c => c.length == nodes
  | _ => true

/-- The zones and their composites (R55, R56, R59, R94): a node is listed once at most, and every composite held for a
zone has one entry per entry of its node list. -/
abbrev ZoneInv (s : State) : Prop :=
  (∀ z : Fin 16, s.zones[z].nodes.Nodup ∧ s.zones[z].nodes.length ≤ 64 ∧ s.zones[z].trim ≤ 1000 ∧
      s.zones[z].hold.fits s.zones[z].nodes.length = true ∧
      (∀ n ∈ s.zones[z].nodes, 1 ≤ n.position ∧ n.position ≤ 60) ∧
      (∀ c ∈ s.composer.latest[z], c.length = s.zones[z].nodes.length) ∧
      (∀ f ∈ s.composer.frame, f.discarded.getLsbD z = false →
        (f.snap.composite z).length = s.zones[z].nodes.length)) ∧
    (∀ y z : Fin 16, y ≠ z → ∀ n ∈ s.zones[y].nodes, n ∉ s.zones[z].nodes)

/-- A row of a bin's matrix within −2048 to 2047 (R98). -/
abbrev rowInRange (row : Int × Int × Int) : Prop :=
  (-2048 ≤ row.1 ∧ row.1 ≤ 2047) ∧ (-2048 ≤ row.2.1 ∧ row.2.1 ≤ 2047) ∧ (-2048 ≤ row.2.2 ∧ row.2.2 ≤ 2047)

/-- The ranges of a calibration bin (R98). -/
abbrev Bin.inRange (b : Bin) : Prop :=
  rowInRange b.red ∧ rowInRange b.green ∧ rowInRange b.blue ∧
    b.current.1 ≤ 1000 ∧ b.current.2.1 ≤ 1000 ∧ b.current.2.2 ≤ 1000

/-- The ranges of the per-chain fields (R98). -/
abbrev ChainOutput.inRange (x : ChainOutput) : Prop :=
  300 ≤ x.thermal ∧ x.thermal ≤ 1000 ∧ x.budget ≤ 1000 ∧ x.estimate ≤ 30000

/-- Every field of the Output Conditioner lies in its range (R98), with the chain budgets, now and at the snapshot of the
frame in flight, that bound the current estimate (R113, R114). -/
abbrev LevelInv (s : State) : Prop :=
  s.cond.lux ≤ 65535 ∧ 2 ≤ s.cond.curve.length ∧ s.cond.curve.length ≤ 8 ∧ luxAscending s.cond.curve = true ∧
    (∀ p ∈ s.cond.curve, p.lux ≤ 65535 ∧ p.level ≤ 1000) ∧ s.cond.master ≤ 1000 ∧ 1 ≤ s.cond.slew ∧
    s.cond.slew ≤ 1000 ∧ s.cond.level ≤ 1000 ∧ (∀ b : Fin 16, s.cond.bins[b].inRange) ∧ -40 ≤ s.cond.knee ∧
    s.cond.knee < s.cond.limit ∧ s.cond.limit ≤ 150 ∧ (∀ i : Fin 4, s.cond.perChain[i].inRange) ∧
    (∀ i : Fin 4, s.chains[i].budget ≤ 3000) ∧ ∀ f ∈ s.composer.frame, ∀ i : Fin 4, f.snap.chains[i].budget ≤ 3000

/-- A runner and the slot it steps through name each other (R146, R151). -/
abbrev RunnerInv (s : State) : Prop :=
  (∀ r : Fin 2, s.seq.runners[r].state.active = s.seq.runners[r].slot.isSome) ∧
    (∀ (r : Fin 2) (k : Fin 6), s.seq.runners[r].slot = some k ↔ s.seq.slots[k].state = .running r)

/-- The power states in which every chain is OFF (R125). -/
def PowerState.chainsOff : PowerState → Bool
  | .dormant | .waking | .standby => true
  | .powering | .lit | .dimming => false

/-- What goes with the power state (R80, R96, R125, R170, R172 to R176, R179, R189). A wake start is pending in WAKING with the
continue intent, in POWERING, and in LIT while it waits for the first snapshot (log 10). -/
abbrev PowerInv (s : State) : Prop :=
  s.supplyEn = (!s.resetLow && s.power.state.supplied) ∧ s.composer.timer.isSome = s.power.state.framesRun ∧
    s.power.dest.isSome = (s.power.state == .dimming) ∧ s.power.cause.isSome = (s.power.state == .powering) ∧
    s.power.wakeTimer.isSome = (s.power.state == .waking) ∧
    (s.power.darkRemaining.isSome = true → s.power.state = .lit) ∧
    (s.power.state = .powering ↔ (s.power.settle.isSome = true ∨ s.power.awaited ≠ 0)) ∧
    (s.power.state.chainsOff = true → ∀ i : Fin 4, s.chains[i].mode = .off) ∧
    (s.power.state = .dormant → s.composer.frame = none) ∧
    (s.power.pendingWake = true →
      s.power.state = .waking ∧ s.power.continueIntent = true ∨ s.power.state = .powering ∨ s.power.state = .lit)

/-- A side that is not being re-located has lost no more frames in a row than the greatest retry limit. -/
def Chain.runOk (c : Chain) (e : End) : Bool :=
  match c.mode with
  | .split x =>
    match x.phase.side e with
    | some (.relocating _ _) => decide (c.run e ≤ 13)
    | _ => decide (c.run e ≤ 12)
  | .failed | .off => decide (c.run e ≤ 13)
  | _ => decide (c.run e ≤ 12)

/-- The break agrees with the reaches of a SPLIT chain whose sides are driven, and no break stands in STARTING, RING and
LOCATING (R119, R137, R140). -/
def Chain.breakOk (c : Chain) : Bool :=
  match c.mode with
  | .split x =>
    match x.phase with
    | .counting _ _ | .identifying _ _ _ _ => c.brk == none
    | _ => c.brk == some (x.break c.found)
  | .off | .failed => true
  | _ => c.brk == none

/-- The ranges of a chain record (R119). -/
abbrev Chain.inRange (c : Chain) : Prop :=
  c.expected ≤ 60 ∧ (c.enabled = true → c.expected ≠ 0) ∧ c.retryLimit ≤ 12 ∧ 50 ≤ c.budget ∧ c.budget ≤ 3000 ∧
    250 ≤ c.restoreInterval ∧ c.restoreInterval ≤ 5000 ∧ c.found ≤ 60 ∧ c.retries ≤ 65535 ∧ c.switches ≤ 255 ∧
    c.runOk .out = true ∧ c.runOk .inn = true ∧ c.breakOk = true

/-- The ranges of a node record (R120). A record that is not OFFLINE or UNREACHABLE has no more bad replies than the greatest
retry limit. -/
abbrev Node.inRange (n : Node) : Prop :=
  n.badReplies ≤ 13 ∧ (n.state ≠ .offline → n.state ≠ .unreachable → n.badReplies ≤ 12) ∧ n.goodRun ≤ 255 ∧
    -40 ≤ n.temperature ∧ n.temperature ≤ 150

/-- Every position of a list has been found. -/
def Chain.hasFound (c : Chain) (positions : List Nat) : Bool := positions.all fun p => decide (1 ≤ p ∧ p ≤ c.found)

/-- What a side of a SPLIT chain is doing agrees with its reach. -/
def Split.sideOk (x : Split) (e : End) : Bool :=
  match x.phase.side e with
  | some (.half _) => decide (0 < x.reach e)
  | some (.relocating hop _) => decide (1 ≤ hop ∧ hop ≤ x.reach e)
  | _ => true

/-- What a chain is doing agrees with its found count, and a chain that has come from RING has been enumerated there, as the
model's mark ringDone says (DESIGN CHOICE, log 15). -/
def Chain.modeOk (c : Chain) : Bool :=
  match c.mode with
  | .counting _ => c.found == 0
  | .identifying _ _ unread => c.hasFound unread
  | .ring _ => c.ringDone
  | .locating _ _ fromRing => !fromRing || c.ringDone
  | .split x =>
    decide (x.outReach + x.inReach ≤ c.found) && x.sideOk .out && x.sideOk .inn &&
      (match x.phase with
        | .identifying _ _ _ unread => c.hasFound unread
        | _ => true)
  | .off | .failed => true

/-- Whether the nodes of a chain are still being enumerated, so that none has exceeded a retry limit: at a start, in a LOCATE
before the mark ringDone is set (DESIGN CHOICE, log 15), and of a side, whose records begin with a count of 0 (DEDUCED, log
14). -/
def Chain.fresh (c : Chain) : Bool :=
  match c.mode with
  | .counting _ | .identifying _ _ _ => true
  | .locating _ _ _ => !c.ringDone
  | .split x =>
    match x.phase with
    | .counting _ _ | .identifying _ _ _ _ => true
    | _ => false
  | _ => false

/-- The node table (R119, R120): every record in its ranges, and a record that is not ABSENT just at the positions found. -/
abbrev Chain.nodesOk (c : Chain) : Prop :=
  (∀ k : Fin 60, c.nodes[k].inRange ∧ (c.nodes[k].state ≠ .absent ↔ k.val < c.found)) ∧
    (c.fresh = true → ∀ k : Fin 60, c.nodes[k].badReplies ≤ 12)

/-- The chain records and their node tables (R119, R120), and the marks on the frame in flight: a chain that is not marked is
in the state it held at the snapshot (R117). -/
abbrev ChainInv (s : State) : Prop :=
  (∀ i : Fin 4, s.chains[i].inRange ∧ s.chains[i].nodesOk ∧ s.chains[i].modeOk = true) ∧
    ∀ f ∈ s.composer.frame, ∀ i : Fin 4, f.left.getLsbD i = false → s.chains[i].mode.state = f.snap.chains[i].state

end Sys2Proof.Machine
end

