-- ==== Sys2Proof/Certificates/Slice0/Obligations.lean ====
section
/-! DEFINITION. The statements for the provers, in the order of OBLIGATIONS.json. -/

open Sys2Proof Sys2Proof.Machine

/-! ## The queue and every command -/

/-- A step takes the command at the front of the queue and runs it with the queue's rest; on an empty queue the block
idles (log 3). -/
def Obligations.StepTakesFrontCommand : Prop :=
  (∀ (c : Instr) (rest : List Instr) (s : State), s.pending = c :: rest → step s = exec c (s.setPending rest)) ∧
    ∀ s : State, s.pending = [] → step s = .next s

/-- Every command answers a next state with the queue as it was. For a host command this is R186: what the part refuses,
it refuses with a status. For the rest it is the model's choice: an event whose condition does not hold leaves the state
as it is (log 1, DESIGN CHOICE), and DEVICE_RESET and a low RESET_N leave the queue, which stands outside the part (logs 8
and 28). -/
def Obligations.EveryCommandAnswers : Prop :=
  ∀ (c : Instr) (s : State), ∃ t, exec c s = .next t ∧ t.pending = s.pending

/-! ## The command port (chapter 10) -/

/-- R186: a host command, or a command frame, that the port receives and refuses leaves the state of every block as it
found it; only the reply buffer changes, and what was shifted out before. -/
def Obligations.RefusalLeavesEveryBlock : Prop :=
  ∀ (c : Instr) (s t : State),
    (headerOfCommand c ≠ none ∨ ∃ bytes p, c = .commandFrame bytes p) → s.resetLow = false →
      s.power.state ≠ .dormant → exec c s = .next t → t.reply.status.refusal = true → OnlyChanges [.reply, .sdo] s t

/-- R185, R187, R188: what the port itself refuses, before any block, of the commands of the table of 10.8. In WAKING
every command but the three GO commands is NOT_READY; elsewhere client 7 is BAD_CLIENT, and a configuring command of
clients 1 to 6 is DENIED. Nothing but the reply changes. R197: a command that reaches its block with a reserved bit set,
or with the GUARDED flag where it may not be guarded, is BAD_VALUE, but for those that act on a cue, which are tested for
it after the handle (R14). That this test comes before BUSY in GO_DORMANT and before NOT_FOUND in DROP_WATCH and
ACK_OLDEST is the model's choice (DESIGN CHOICE, log 51). -/
def Obligations.PortRefusals : Prop :=
  ∀ (c : Instr) (h : Header) (s : State), headerOfCommand c = some h → c.wellFormed = true → s.resetLow = false →
    (s.power.state = .waking → isGo c = false →
      ∃ t, exec c s = .next t ∧ Answers s t h .notReady .empty ∧ OnlyChanges [.reply, .sdo] s t) ∧
    (s.power.state.receives = true → h.client = 7 →
      ∃ t, exec c s = .next t ∧ Answers s t h .badClient .empty ∧ OnlyChanges [.reply, .sdo] s t) ∧
    (s.power.state.receives = true → h.client ≠ 7 → h.client ≠ 0 → isConfiguring c = true →
      ∃ t, exec c s = .next t ∧ Answers s t h .denied .empty ∧ OnlyChanges [.reply, .sdo] s t) ∧
    (s.power.state.receives = true ∨ s.power.state = .waking ∧ isGo c = true → h.client ≠ 7 →
      (isConfiguring c = true → h.client = 0) → isCueCommand c = false → h.reserved ≠ 0 ∨ h.guard ≠ none →
      ∃ t payload, exec c s = .next t ∧ Answers s t h .badValue payload ∧ OnlyChanges [.reply, .sdo] s t) ∧
    (h.plain = true ↔ h.reserved = 0 ∧ h.guard = none)

/-- R184, R185, R197: a whole frame at the port in STANDBY, POWERING, LIT and DIMMING. A frame of a wrong length is
BAD_LENGTH and one with a wrong check BAD_CHECK, both with tag 0; a code that names no command is UNKNOWN with the frame's
tag; a known code from client 7 is BAD_CLIENT, and one from clients 0 to 6 with a payload length that its table does not
give, after the three bytes of a guard, is BAD_LENGTH, both with the frame's tag. In each case SDO has shifted out the
reply that the buffer held, for the bytes that were clocked. A frame of a known code from clients 0 to 6 with an accepted
payload does what the command it spells does. 11.1: the check is the CRC-8 with the polynomial x⁸ + x² + x + 1 and an
initial value of all ones. -/
def Obligations.CommandFrameIsTestedAndHandedOver : Prop :=
  (crc8 [] = 0xFF ∧ ∀ (bytes : List Byte) (b : Byte), crc8 (bytes ++ [b]) =
    (fun x : Byte => if x.getLsbD 7 then (x <<< 1) ^^^ 7 else x <<< 1)^[8] (crc8 bytes ^^^ b)) ∧
  ∀ (bytes : List Byte) (p : Period) (s : State), p ≠ .resetRose → s.resetLow = false →
    s.power.state.receives = true →
    (let shifted : Shift := { frame := some s.reply, clocked := bytes.length }
     ((p = .partialByte ∨ bytes.length < 5 ∨ 248 < (byteAt bytes 3).toNat ∨
         bytes.length ≠ (byteAt bytes 3).toNat + 5) →
       ∃ t, exec (.commandFrame bytes p) s = .next t ∧ t.sdo = shifted ∧
         t.reply = { status := .badLength, tag := 0, payload := .empty } ∧ OnlyChanges [.reply, .sdo] s t) ∧
     (frameLengthOk bytes p = true → crc8 bytes.dropLast ≠ byteAt bytes (bytes.length - 1) →
       ∃ t, exec (.commandFrame bytes p) s = .next t ∧ t.sdo = shifted ∧
         t.reply = { status := .badCheck, tag := 0, payload := .empty } ∧ OnlyChanges [.reply, .sdo] s t) ∧
     (frameLengthOk bytes p = true → crc8 bytes.dropLast = byteAt bytes (bytes.length - 1) →
       commandRow (byteAt bytes 0) = none →
       ∃ t, exec (.commandFrame bytes p) s = .next t ∧ t.sdo = shifted ∧
         t.reply = { status := .unknown, tag := byteAt bytes 2, payload := .empty } ∧
         OnlyChanges [.reply, .sdo] s t)) ∧
    (∀ row : CommandRow, frameLengthOk bytes p = true → crc8 bytes.dropLast = byteAt bytes (bytes.length - 1) →
      commandRow (byteAt bytes 0) = some row →
      (let refused : Status → Prop := fun status =>
         ∃ t, exec (.commandFrame bytes p) s = .next t ∧ t.sdo = { frame := some s.reply, clocked := bytes.length } ∧
           t.reply = { status := status, tag := byteAt bytes 2, payload := .empty } ∧ OnlyChanges [.reply, .sdo] s t
       let length := (byteAt bytes 3).toNat
       let guard := if (byteAt bytes 1).getLsbD 3 then 3 else 0
       (clientOf (byteAt bytes 1) = 7 → refused .badClient) ∧
       (clientOf (byteAt bytes 1) ≠ 7 → length < guard ∨ row.accepts (length - guard) = false →
         refused .badLength))) ∧
    (∀ (row : CommandRow) (i : Instr), frameLengthOk bytes p = true →
      crc8 bytes.dropLast = byteAt bytes (bytes.length - 1) → commandRow (byteAt bytes 0) = some row →
      clientOf (byteAt bytes 1) ≠ 7 →
      commandOf row (byteAt bytes 1) (byteAt bytes 2) ((bytes.drop 4).dropLast) = some i →
      exec (.commandFrame bytes p) s = exec i s)

/-- R191: NOP and IDENTIFY. R184: NOP fetches the reply before it. What SDO shifts out in a period is one byte for each
byte clocked: the reply frame that the buffer held, from its first byte, then zero bytes; a frame longer than the period
is cut short. The frame is the status, the tag, the payload length, the payload, of at most 248 bytes, and the CRC-8 of
them all (11.1). The status codes are those of the table of 10.2 in order, from 0 (11.6); a handle is two bytes, and a
notice record six, with its subject and its detail in the codes of 11.4. That SPLIT, which 11.4 encodes by itself, takes a
number among the details of CHAIN_STATE, so that RESTORED is 3 and FAILED 4, is the model's choice (DESIGN CHOICE, log 52);
that the details of each kind are numbered from 0 and a client subject is the client's number is its reading (DEDUCED, log
53). How the other payloads are laid out is left to the reply form of log 5, which these clauses do not ask about. -/
def Obligations.NopAndIdentifyReply : Prop :=
  (∀ (h : Header) (s : State), Reaches .open_ h s → h.plain = true →
    (∃ t, exec (.nop h) s = .next t ∧ Answers s t h .ok .empty ∧ t.sdo.clocked = 5 ∧
      OnlyChanges [.reply, .sdo] s t) ∧
    (∃ t, exec (.identify h) s = .next t ∧
      Answers s t h .ok (.identity
        { part := 416, revision := 1, cueSlots := 48, pinnedSlots := 8, paletteEntries := 32, signals := 16,
          zones := 16, nodesPerZone := 64, watches := 8, chains := 4, nodesPerChain := 60, bins := 16,
          templates := 24, sequenceSlots := 6, stepsPerSlot := 32, runners := 2, notices := 8 }) ∧
      OnlyChanges [.reply, .sdo] s t)) ∧
  (∀ x : Shift, x.bytes.length = x.clocked ∧ (x.frame = none → x.bytes = List.replicate x.clocked 0) ∧
    (∀ (r : Reply) (n : Nat), x.frame = some r → n < x.clocked →
      x.bytes[n]? = some (if n < r.bytes.length then byteAt r.bytes n else 0))) ∧
  (∀ r : Reply, r.payload.records.length ≤ 8 → r.payload.bytes.length ≤ 248 ∧
    r.bytes.length = r.payload.bytes.length + 4 ∧ byteAt r.bytes 0 = BitVec.ofNat 8 r.status.code ∧
    byteAt r.bytes 1 = r.tag ∧ (byteAt r.bytes 2).toNat = r.payload.bytes.length ∧
    (r.bytes.drop 3).dropLast = r.payload.bytes ∧
    byteAt r.bytes (r.bytes.length - 1) = crc8 r.bytes.dropLast) ∧
  ([Status.ok, .clamped, .busy, .badValue, .badClient, .denied, .noRoom, .notFound, .stale, .wrongState, .inUse,
    .badCheck, .badLength, .unknown, .notReady].map Status.code = List.range 15) ∧
  (∀ (k : Fin 48) (gen : BitVec 10), ∃ x y : Byte, (Payload.handle { slot := k, gen := gen }).bytes = [x, y] ∧
    x.toNat * 256 + y.toNat = k.val * 1024 + gen.toNat) ∧
  (∀ n : Notice, ∃ a b c d : Byte,
    n.bytes = [BitVec.ofNat 8 n.kind.code, a, b, c, d, BitVec.ofNat 8 n.count] ∧ a ++ b = n.subject.bits ∧
      c ++ d = n.detail.bits) ∧
  (Subject.none.bits = 0 ∧ Subject.standby.bits = 0 ∧ Subject.lit.bits = 1 ∧
    (∀ i : Fin 4, (Subject.chain i).bits.toNat = i.val) ∧ (∀ k : Fin 6, (Subject.slot k).bits.toNat = k.val) ∧
    (∀ c : BitVec 3, (Subject.client c).bits.toNat = c.toNat) ∧
    (∀ n : NodeRef, n.position ≤ 60 → (Subject.node n).bits.toNat = 256 * n.chain.val + n.position)) ∧
  (Detail.device.bits = 0 ∧ Detail.soft.bits = 1 ∧
    ([PowerCause.woken, .abandoned, .dimmed, .command, .wake, .resumed].map fun x => (Detail.power x).bits.toNat) =
      List.range 6 ∧
    ([NodeFault.offline, .openRed, .openGreen, .openBlue, .short, .overheat].map fun x =>
      (Detail.node x).bits.toNat) = List.range 6 ∧
    ([EndCause.done, .aborted, .timeout, .preempted, .power, .notLoaded, .refusedBusy].map fun x =>
      (Detail.ended x).bits.toNat) = List.range 7 ∧
    (Detail.chain .rateSlow).bits = 0 ∧ (Detail.chain .locating).bits = 1 ∧ (Detail.chain .restored).bits = 3 ∧
    (Detail.chain .failed).bits = 4 ∧ (∀ n, n < 65536 → (Detail.number n).bits.toNat = n) ∧
    ∀ b : Break, b.lastOut ≤ 60 → b.firstIn ≤ 61 →
      (Detail.chain (.split b)).bits.toNat = 32768 + 256 * b.lastOut + b.firstIn)

/-- R194: READ_NOTICES carries the missed count, the mask and every notice in list order, and changes nothing. -/
def Obligations.ReadNoticesReportsTheList : Prop :=
  ∀ (h : Header) (s : State), Reaches .open_ h s → h.plain = true →
    ∃ t, exec (.readNotices h) s = .next t ∧
      Answers s t h .ok (.notices s.notices.missed s.notices.mask s.notices.list) ∧ OnlyChanges [.reply, .sdo] s t

/-- ACK_OLDEST, ACK_MATCH and ACK_ALL (R195), on what they find and on what they do not, and NOTICE_N after them (R196).
R192, R195, 11.4: which codes name a kind, and which a subject that the kind can have (a client by its number: DEDUCED, log
53). That a refused acknowledgement
carries the notices left and the missed count, as an accepted one does, is the model's reading (DEDUCED, log 23). -/
def Obligations.AcknowledgementsRemoveNotices : Prop :=
  (∀ (kind : Byte) (k : NoticeKind), noticeKindOf kind = some k ↔ kind.toNat = k.code.val) ∧
  (∀ (k : NoticeKind) (subject : BitVec 16) (x : Subject),
    subjectOf k subject = some x ↔ MayConcern k x ∧ x.bits = subject) ∧
  ∀ (h : Header) (s : State), Reaches .open_ h s → h.plain = true →
    (∀ x rest, s.notices.list = x :: rest →
      ∃ t, exec (.ackOldest h) s = .next t ∧
        Answers s t h .ok (.acknowledged (some x) rest.length s.notices.missed) ∧
        t.notices = { s.notices with list := rest } ∧ (t.noticeLow = true ↔ lineLow t.notices) ∧
        OnlyChanges [.notices, .noticeLow, .reply, .sdo] s t) ∧
    (s.notices.list = [] →
      ∃ t, exec (.ackOldest h) s = .next t ∧ Answers s t h .notFound (.acknowledged none 0 s.notices.missed) ∧
        OnlyChanges [.reply, .sdo] s t) ∧
    (∀ kind subject, noticeKindOf kind = none ∨ (∃ k, noticeKindOf kind = some k ∧ subjectOf k subject = none) →
      ∃ t, exec (.ackMatch h kind subject) s = .next t ∧
        Answers s t h .badValue (.acknowledged none s.notices.list.length s.notices.missed) ∧
        OnlyChanges [.reply, .sdo] s t) ∧
    (∀ kind subject k x, noticeKindOf kind = some k → subjectOf k subject = some x →
      (∀ n before after, s.notices.list = before ++ n :: after → n.key = (k, x) →
        (s.notices.list.map Notice.key).Nodup →
        ∃ t, exec (.ackMatch h kind subject) s = .next t ∧
          Answers s t h .ok (.acknowledged (some n) (before ++ after).length s.notices.missed) ∧
          t.notices = { s.notices with list := before ++ after } ∧ (t.noticeLow = true ↔ lineLow t.notices) ∧
          OnlyChanges [.notices, .noticeLow, .reply, .sdo] s t) ∧
      ((k, x) ∉ s.notices.list.map Notice.key →
        ∃ t, exec (.ackMatch h kind subject) s = .next t ∧
          Answers s t h .notFound (.acknowledged none s.notices.list.length s.notices.missed) ∧
          OnlyChanges [.reply, .sdo] s t)) ∧
    (∃ t, exec (.ackAll h) s = .next t ∧ Answers s t h .ok (.acknowledged none 0 0) ∧
      t.notices = { s.notices with list := [], missed := 0 } ∧ t.noticeLow = false ∧
      OnlyChanges [.notices, .noticeLow, .reply, .sdo] s t)

/-- R196: SET_NOTICE_MASK replaces the mask and the line is evaluated anew; a flag for no kind is BAD_VALUE. Mask bit n is
that of the nth kind of the table of 10.6, from 0 (11.4). -/
def Obligations.NoticeMaskIsReplaced : Prop :=
  [NoticeKind.restarted, .powerState, .chainState, .nodeFault, .countMismatch, .stepTimeout, .sequenceEnd, .cueEvicted,
    .budgetLimit, .thermalLimit].map (·.code.val) = List.range 10 ∧
  ∀ (h : Header) (mask : BitVec 16) (s : State), Reaches .configuring h s → h.plain = true →
    ((∀ n : Fin 16, 10 ≤ n.val → mask.getLsbD n = false) →
      ∃ t, exec (.setNoticeMask h mask) s = .next t ∧ Answers s t h .ok .empty ∧
        t.notices.list = s.notices.list ∧ t.notices.missed = s.notices.missed ∧
        (∀ n : Fin 10, t.notices.mask.getLsbD n = mask.getLsbD n) ∧ (t.noticeLow = true ↔ lineLow t.notices) ∧
        OnlyChanges [.notices, .noticeLow, .reply, .sdo] s t) ∧
    ((∃ n : Fin 16, 10 ≤ n.val ∧ mask.getLsbD n = true) →
      ∃ t, exec (.setNoticeMask h mask) s = .next t ∧ Answers s t h .badValue .empty ∧
        OnlyChanges [.reply, .sdo] s t)

/-- R190: SOFT_RESET. The cues, watches, holds and runs are gone without an event; staged colours are applied; the dark
interval begins anew in LIT; the list holds RESTARTED (SOFT) alone. Generations, entries, settings, chains, the power
state and the sequences stay: every slot keeps its steps, rank, count and written set, the slot of an active runner is
READY, and every other slot keeps its state too (R146, R168). -/
def Obligations.SoftResetEmptiesTheTables : Prop :=
  ∀ (h : Header) (s : State), Reaches .configuring h s → h.plain = true →
    ∃ t, exec (.softReset h) s = .next t ∧ Answers s t h .ok .empty ∧
      (∀ k : Fin 48, t.cues.slots[k] = { gen := s.cues.slots[k].gen, cue := none }) ∧
      t.cues.postOrder = [] ∧ t.cues.retiring = [] ∧ t.cues.timeBase = s.cues.timeBase ∧
      (∀ w : Fin 8, t.watches.slots[w] = { gen := s.watches.slots[w].gen, entry := none }) ∧ t.watches.order = [] ∧
      (∀ z : Fin 16, t.zones[z] = { s.zones[z] with hold := .clear }) ∧
      (∀ e : Fin 32, t.palette[e] = (match s.palette[e].staged with
        | none => s.palette[e]
        | some c => { colour := some c, staged := none })) ∧
      (∀ r : Fin 2, t.seq.runners[r].state = .idle) ∧ t.seq.templates = s.seq.templates ∧
      (∀ k : Fin 6, t.seq.slots[k].steps = s.seq.slots[k].steps ∧ t.seq.slots[k].rank = s.seq.slots[k].rank ∧
        t.seq.slots[k].count = s.seq.slots[k].count ∧ t.seq.slots[k].written = s.seq.slots[k].written) ∧
      (∀ (r : Fin 2) (k : Fin 6), s.seq.runners[r].state.active = true → s.seq.runners[r].slot = some k →
        t.seq.slots[k].state = .ready) ∧
      (∀ k : Fin 6, (∀ r : Fin 2, s.seq.runners[r].state.active = true → s.seq.runners[r].slot ≠ some k) →
        t.seq.slots[k] = s.seq.slots[k]) ∧
      t.power = { s.power with darkRemaining :=
        if s.power.state = .lit then
          (if s.power.darkInterval = 0 then none else some (1000 * s.power.darkInterval))
        else s.power.darkRemaining } ∧
      t.notices = { list := [{ kind := .restarted, subject := .none, detail := .soft, count := 1 }], missed := 0,
                    mask := s.notices.mask } ∧
      t.noticeLow = !s.notices.mask.getLsbD 0 ∧
      OnlyChanges [.cues, .watches, .zones, .palette, .seq, .power, .notices, .noticeLow, .reply, .sdo] s t

/-- R189: RESET_N held low releases NOTICE_N and turns SUPPLY_EN off, and no other command or event does anything until
RESET_N rises but that SDO shifts out zero bytes (log 28); at the rise every block takes its value after device reset, and
a period during which RESET_N rises is not taken. What waits in the queue goes on waiting (logs 8 and 28). That every byte
of a period in which RESET_N is low at its end, or rises, is zero, before the fall and after the rise too, is the model's
choice (DESIGN CHOICE, logs 43 and 47). -/
def Obligations.DeviceResetHoldsAndRestores : Prop :=
  (∀ s : State, ∃ t, exec .resetNLow s = .next t ∧ t.resetLow = true ∧ t.noticeLow = false ∧ t.supplyEn = false ∧
    t.sdo = { frame := none, clocked := 0 } ∧ OnlyChanges [.resetLow, .noticeLow, .supplyEn, .sdo] s t) ∧
  (∀ s : State, ∃ t, exec .deviceReset s = .next t ∧ OnlyChanges [.pending, .freeCounter] State.reset t ∧
    t.pending = s.pending ∧ t.freeCounter = s.freeCounter) ∧
  (∀ (c : Instr) (s : State), s.resetLow = true → c ≠ .resetNLow → c ≠ .deviceReset →
    ∃ t, exec c s = .next t ∧ (t.sdo = s.sdo ∨ t.sdo.frame = none) ∧ OnlyChanges [.sdo] s t) ∧
  (∀ (bytes : List Byte) (p : Period) (s : State), p = .resetRose ∨ s.resetLow = true →
    ∃ t, exec (.commandFrame bytes p) s = .next t ∧ t.sdo = { frame := none, clocked := bytes.length } ∧
      t.sdo.bytes = List.replicate bytes.length 0 ∧ OnlyChanges [.sdo] s t)

/-- The values after device reset that the chapters give (R29, R33, R41, R55, R68, R81, R98, R119, R120, R145, R146, R151,
R170, R184, R189). The invariants hold after device reset. -/
def Obligations.ResetValuesMeetTheInvariants : Prop :=
  (let s := State.reset
   (∀ k : Fin 48, s.cues.slots[k] = { gen := 0, cue := none }) ∧ s.cues.postOrder = [] ∧ s.cues.retiring = [] ∧
     (∀ e : Fin 32, s.palette[e] = { colour := none, staged := none }) ∧ s.signals = 0 ∧
     (∀ z : Fin 16, s.zones[z] = { nodes := [], trim := 1000, hold := .clear, count := 0 }) ∧
     (∀ w : Fin 8, s.watches.slots[w] = { gen := 0, entry := none }) ∧ s.watches.order = [] ∧
     s.composer.period = 20 ∧ s.composer.timer = none ∧ s.composer.frame = none ∧
     (∀ z : Fin 16, s.composer.latest[z] = none) ∧
     s.cond.lux = 0 ∧ s.cond.curve = [{ lux := 0, level := 300 }, { lux := 1000, level := 1000 }] ∧
     s.cond.master = 1000 ∧ s.cond.slew = 20 ∧ s.cond.level = 0 ∧ s.cond.knee = 70 ∧ s.cond.limit = 100 ∧
     (∀ b : Fin 16, s.cond.bins[b] = { red := (1024, 0, 0), green := (0, 1024, 0), blue := (0, 0, 1024),
                                       current := (200, 200, 200) }) ∧
     (∀ i : Fin 4, s.cond.perChain[i] = { thermal := 1000, budget := 1000, estimate := 0 }) ∧
     (∀ i : Fin 4, s.chains[i].record =
       { enabled := false, expected := 0, ratePolicy := .auto, rejoin := .auto, retryLimit := 3, budget := 1000,
         restoreInterval := 1000, state := .off, rate := .fast, found := 0, brk := none, runOut := 0, runIn := 0,
         retries := 0, switches := 0 } ∧ s.chains[i].mailbox = none) ∧
     (∀ (i : Fin 4) (k : Fin 60), s.chains[i].nodes[k] = Node.cleared) ∧
     (∀ t : Fin 24, s.seq.templates[t] = none) ∧ (∀ k : Fin 6, s.seq.slots[k] = SeqSlot.empty) ∧
     (∀ r : Fin 2, s.seq.runners[r] = Runner.idle) ∧
     s.power.state = .standby ∧ s.power.wakeDelay = 20 ∧ s.power.settleTime = 10 ∧ s.power.fadeTime = 300 ∧
     s.power.darkInterval = 0 ∧ s.power.darkRemaining = none ∧ s.power.welcomeArm = none ∧
     s.power.continueIntent = false ∧ s.power.pendingWake = false ∧
     s.notices = { list := [{ kind := .restarted, subject := .none, detail := .device, count := 1 }], missed := 0,
                   mask := 0 } ∧
     s.noticeLow = true ∧ s.supplyEn = false ∧ s.reply = { status := .ok, tag := 0, payload := .empty }) ∧
  (NoticeInv State.reset ∧ CueInv State.reset ∧ WatchInv State.reset ∧ ZoneInv State.reset ∧ LevelInv State.reset ∧
     RunnerInv State.reset ∧ PowerInv State.reset ∧ ChainInv State.reset)

/-! ## Invariants that every step keeps -/

/-- R192, R196: at most 8 notices, no two with the same kind and subject, counts of 1 to 255, a missed count of at most
255, and NOTICE_N as the list gives it. -/
def Obligations.StepKeepsNoticeList : Prop :=
  ∀ s t : State, NoticeInv s → step s = .next t → NoticeInv t

/-- R5, R6: the post-order list holds each live cue once, and the retiring list each cue in FADING_OUT once. -/
def Obligations.StepKeepsCueLists : Prop :=
  ∀ s t : State, CueInv s → step s = .next t → CueInv t

/-- R68, R70: the creation-order list holds each watch entry once, and no client has two entries on one zone. -/
def Obligations.StepKeepsWatchTable : Prop :=
  ∀ s t : State, WatchInv s → step s = .next t → WatchInv t

/-- R55, R56, R94: a node is listed by one zone at most and once in it, and every composite that is held for a zone has
one entry per entry of its node list. -/
def Obligations.StepKeepsZoneMap : Prop :=
  ∀ s t : State, ZoneInv s → step s = .next t → ZoneInv t

/-- R98, R102: every field of the Output Conditioner stays in its range: lux, curve, master level, slew, global level,
calibration bins, thermal knee and limit, and the last factors and the current estimate of each chain; with the chain
budgets that bound the estimate, now and at the snapshot of the frame in flight. -/
def Obligations.StepKeepsLevels : Prop :=
  ∀ s t : State, LevelInv s → step s = .next t → LevelInv t

/-- R146, R151: a runner is active just when it names a slot, and that slot is the one that is RUNNING under it. -/
def Obligations.StepKeepsRunners : Prop :=
  ∀ s t : State, RunnerInv s → step s = .next t → RunnerInv t

/-- R80, R96, R125, R170: SUPPLY_EN, the frame timer and the fields of a transition go with the power state, every chain
is OFF in DORMANT, WAKING and STANDBY, and no frame is in flight in DORMANT (that the frame in flight completes at the
entry to DORMANT is log 41, DEDUCED). R172, R173, R175, R176: a wake start is pending in WAKING with the continue intent, in
POWERING, and in LIT alone, where the model lets it wait for the first snapshot (DEDUCED, log 10). -/
def Obligations.StepKeepsPowerState : Prop :=
  ∀ s t : State, PowerInv s → step s = .next t → PowerInv t

/-- R119, R120: every chain record and every node record stays in its ranges, the records that are not ABSENT are those of
the positions found, the break agrees with the reaches of the sides, and what a chain is doing agrees with its found
count. R117: a chain that the frame in flight does not mark as having left is in the state it held at the snapshot.
That a chain in RING, or in a LOCATE from RING, has been enumerated is said by the mark ringDone, which is the model's own
and which a restore sets too (DESIGN CHOICE, log 15). The bound on the bad replies while nodes are enumerated rests on that
mark in a LOCATE, and in a side's enumeration on its records beginning with their counts at 0 (DEDUCED, log 14). -/
def Obligations.StepKeepsChainRecords : Prop :=
  ∀ s t : State, ChainInv s → step s = .next t → ChainInv t

/-! ## The Cue Table (chapters 1, 2 and 4) -/

/-- R18: a posting that succeeds, whatever it purged or evicted and however it was guarded, has written the new cue in a
transient slot with the next generation, last in the post-order list, and replies its handle. One that does not changes
nothing but the reply. R1, R2, R18: an unguarded posting that purges nothing while a transient slot is free takes the
lowest such slot. Its frame: no other slot, no list but the post-order list, one event for each of its zones, the dark
interval reloaded. R15: an unguarded posting purges the transient cues of its owner and its layer that share a zone and
are not fading: they begin their fade-outs with the new fade-in time, in post order, or are free at once where that is 0.
R16, R17: where no slot is free and none is freed by the purge, the first transient cue on the retiring list is evicted,
else the lowest in layer, then priority, then post order, where the new cue ranks above it; CUE_EVICTED is raised; a new
cue that ranks above no transient cue is refused with NO_ROOM. R27, R28, 11.2: which descriptors are refused with
BAD_VALUE, and what is stored and clamped of the others; that a colour source B without a GRADIENT is tested and clamped
too is the model's reading (DEDUCED, log 35). -/
def Obligations.PostCueWritesOneCueOrChangesNothing : Prop :=
  (∀ (h : Header) (d : RawDescriptor) (s : State), Reaches .open_ h s →
     ∃ t, exec (.postCue h d) s = .next t ∧
       ((t.reply.status.refusal = true ∧ OnlyChanges [.reply, .sdo] s t) ∨
         ∃ (k : Fin 48) (d' : Descriptor) (altered : Bool), 8 ≤ k.val ∧ descriptorOf d = some (d', altered) ∧
           Answers s t h (doneStatus altered) (.handle { slot := k, gen := s.cues.slots[k].gen + 1 }) ∧
           t.cues.slots[k] =
             { gen := s.cues.slots[k].gen + 1
               cue := some
                 { owner := h.client, tag := none, desc := d'
                   phase := if d'.fadeIn = 0 then .steady else .fadingIn 0
                   clock := 0, remaining := d'.lifetime
                   gateRun := d'.gate.map fun g =>
                     { opened := s.signals.getLsbD g.signal == g.openWhen
                       start := if s.signals.getLsbD g.signal == g.openWhen then 1000 else 0, elapsed := 0 } } } ∧
           t.cues.postOrder.getLast? = some k ∧
           OnlyChanges [.cues, .zones, .watches, .seq, .power, .notices, .noticeLow, .reply, .sdo] s t)) ∧
  (∀ (h : Header) (d : RawDescriptor) (d' : Descriptor) (altered : Bool) (k : Fin 48) (s : State),
     Reaches .open_ h s → h.reserved = 0 → h.guard = none → descriptorOf d = some (d', altered) →
     8 ≤ k.val → s.cues.slots[k].cue = none →
     (∀ j : Fin 48, 8 ≤ j.val → j < k → s.cues.slots[j].cue ≠ none) →
     (∀ (j : Fin 48) (c : Cue), s.cues.slots[j].cue = some c →
       c.owner ≠ h.client ∨ c.desc.layer ≠ d'.layer ∨ c.desc.zones &&& d'.zones = 0 ∨ j.val < 8 ∨
         c.phase.isFadingOut = true) →
     ∃ t, exec (.postCue h d) s = .next t ∧
       Answers s t h (doneStatus altered) (.handle { slot := k, gen := s.cues.slots[k].gen + 1 }) ∧
       t.cues.slots[k].gen = s.cues.slots[k].gen + 1 ∧ t.cues.slots[k].cue.map (·.desc) = some d' ∧
       OnlySlot k s t ∧ t.cues.postOrder = s.cues.postOrder ++ [k] ∧ t.cues.retiring = s.cues.retiring ∧
       t.cues.timeBase = s.cues.timeBase ∧ RaisesEvents d'.zones none s t ∧ t.power = s.power.reloadDark ∧
       OnlyChanges [.cues, .zones, .watches, .power, .reply, .sdo] s t) ∧
  (∀ (h : Header) (d : RawDescriptor) (d' : Descriptor) (altered : Bool) (k : Fin 48) (s : State),
     Reaches .open_ h s → h.reserved = 0 → h.guard = none → descriptorOf d = some (d', altered) → CueInv s →
     8 ≤ k.val →
     (let written : CueSlot := { gen := s.cues.slots[k].gen + 1, cue := some (writtenCue s h.client none d') }
      let answer : Payload := .handle { slot := k, gen := s.cues.slots[k].gen + 1 }
      (d'.fadeIn ≠ 0 → s.cues.slots[k].cue = none →
        (∀ j : Fin 48, 8 ≤ j.val → j < k → s.cues.slots[j].cue ≠ none) →
        ∃ t, exec (.postCue h d) s = .next t ∧ Answers s t h (doneStatus altered) answer ∧
          t.cues.slots[k] = written ∧
          (∀ j : Fin 48, j ≠ k → t.cues.slots[j] =
            if isPurged s h.client d' j then s.cues.slots[j].fading d'.fadeIn else s.cues.slots[j]) ∧
          t.cues.postOrder = s.cues.postOrder ++ [k] ∧
          t.cues.retiring = s.cues.retiring ++ purgedCues s h.client d' ∧
          (∀ z : Fin 16, t.zones[z] = { s.zones[z] with
            count := s.zones[z].count + BitVec.ofNat 16
              (((purgedCues s h.client d').countP fun j =>
                  s.cues.slots[j].cue.any fun c => c.desc.zones.getLsbD z) +
                if d'.zones.getLsbD z then 1 else 0) }) ∧
          t.power = s.power.reloadDark ∧ OnlyChanges [.cues, .zones, .watches, .power, .reply, .sdo] s t) ∧
      (d'.fadeIn = 0 → s.cues.slots[k].cue = none ∨ isPurged s h.client d' k = true →
        (∀ j : Fin 48, 8 ≤ j.val → j < k → s.cues.slots[j].cue ≠ none ∧ isPurged s h.client d' j = false) →
        ∃ t, exec (.postCue h d) s = .next t ∧ Answers s t h (doneStatus altered) answer ∧
          t.cues.slots[k] = written ∧
          (∀ j : Fin 48, j ≠ k → t.cues.slots[j] =
            if isPurged s h.client d' j then { gen := s.cues.slots[j].gen, cue := none } else s.cues.slots[j]) ∧
          t.cues.postOrder = (s.cues.postOrder.filter fun j => !isPurged s h.client d' j) ++ [k] ∧
          t.cues.retiring = s.cues.retiring ∧ t.power = s.power.reloadDark ∧
          OnlyChanges [.cues, .zones, .watches, .seq, .power, .reply, .sdo] s t) ∧
      ((∀ j : Fin 48, 8 ≤ j.val → s.cues.slots[j].cue ≠ none) → s.notices.list.length ≤ 8 →
        ∀ c : Cue, s.cues.slots[k].cue = some c →
        Evicts s (purgedCues s h.client d') d' k c →
        ∃ t, exec (.postCue h d) s = .next t ∧ Answers s t h (doneStatus altered) answer ∧
          t.cues.slots[k] = written ∧
          (∀ j : Fin 48, j ≠ k → t.cues.slots[j] =
            if isPurged s h.client d' j then s.cues.slots[j].fading d'.fadeIn else s.cues.slots[j]) ∧
          t.cues.postOrder = (s.cues.postOrder.filter fun j => j != k) ++ [k] ∧
          t.cues.retiring = (s.cues.retiring ++ purgedCues s h.client d').filter (fun j => j != k) ∧
          t.notices = s.notices.after .cueEvicted (.client c.owner) (.number k.val) ∧
          t.power = s.power.reloadDark ∧
          OnlyChanges [.cues, .zones, .watches, .seq, .power, .notices, .noticeLow, .reply, .sdo] s t))) ∧
  (∀ (h : Header) (d : RawDescriptor) (d' : Descriptor) (altered : Bool) (s : State),
     Reaches .open_ h s → h.reserved = 0 → h.guard = none → descriptorOf d = some (d', altered) → CueInv s →
     (∀ j : Fin 48, 8 ≤ j.val → s.cues.slots[j].cue ≠ none) → purgedCues s h.client d' = [] →
     (∀ j ∈ s.cues.retiring, j.val < 8) →
     (∀ (j : Fin 48) (e : Cue), 8 ≤ j.val → s.cues.slots[j].cue = some e → ¬ ranksAbove d' e.desc) →
     ∃ t, exec (.postCue h d) s = .next t ∧ Answers s t h .noRoom .empty ∧ OnlyChanges [.reply, .sdo] s t) ∧
  (∀ d : RawDescriptor, (descriptorOf d = none ↔ RefusedDescriptor d) ∧
     ∀ (d' : Descriptor) (altered : Bool), descriptorOf d = some (d', altered) → StoredDescriptor d d' altered) ∧
  (∀ (h : Header) (d : RawDescriptor) (s : State), Reaches .open_ h s → h.guard = none →
     h.reserved ≠ 0 ∨ RefusedDescriptor d →
     ∃ t, exec (.postCue h d) s = .next t ∧ Answers s t h .badValue .empty ∧ OnlyChanges [.reply, .sdo] s t)

/-- R19: PLACE_CUE frees what a pinned slot holds and writes the new cue there, last in the post-order list, as its
descriptor is stored and clamped (11.2; that a colour source B without a GRADIENT is tested and clamped too is DEDUCED,
log 35). A slot number above 7 and a descriptor that is refused (R28) are BAD_VALUE. R12: a cue that the slot held is
freed with an event for each of its zones, and the label of its runner that held it is emptied. -/
def Obligations.PlaceCueFillsPinnedSlot : Prop :=
  (∀ (h : Header) (slot : Byte) (k : Fin 48) (d : RawDescriptor) (d' : Descriptor) (altered : Bool) (s : State),
    Reaches .configuring h s → h.reserved = 0 → h.guard = none → slot.toNat = k.val → k.val < 8 →
    descriptorOf d = some (d', altered) → CueInv s →
    ∃ t, exec (.placeCue h slot d) s = .next t ∧
      Answers s t h (doneStatus altered) (.handle { slot := k, gen := s.cues.slots[k].gen + 1 }) ∧
      t.cues.slots[k] = { gen := s.cues.slots[k].gen + 1, cue := some (writtenCue s 0 none d') } ∧
      StoredDescriptor d d' altered ∧ OnlySlot k s t ∧
      t.cues.postOrder = (s.cues.postOrder.filter fun j => j != k) ++ [k] ∧
      t.cues.retiring = (s.cues.retiring.filter fun j => j != k) ∧ t.power = s.power.reloadDark ∧
      (s.cues.slots[k].cue = none → RaisesEvents d'.zones none s t ∧ t.seq = s.seq) ∧
      (∀ c, s.cues.slots[k].cue = some c →
        (∀ z : Fin 16, t.zones[z] = { s.zones[z] with count := s.zones[z].count +
          (if c.desc.zones.getLsbD z then 1 else 0) + (if d'.zones.getLsbD z then 1 else 0) }) ∧
        (∀ w : Fin 8, t.watches.slots[w] =
          if freedByEvents s (c.desc.zones ||| d'.zones) none w then { s.watches.slots[w] with entry := none }
          else s.watches.slots[w]) ∧
        (c.tag = none → t.seq = s.seq) ∧
        (∀ x, c.tag = some x →
          t.seq.runners[x.runner] = { s.seq.runners[x.runner] with
            labels := labelsWithout s.seq.runners[x.runner].labels fun y =>
              y == { slot := k, gen := s.cues.slots[k].gen } } ∧
          (∀ q : Fin 2, q ≠ x.runner → t.seq.runners[q] = s.seq.runners[q]) ∧
          t.seq = { s.seq with runners := t.seq.runners })) ∧
      OnlyChanges [.cues, .zones, .watches, .seq, .power, .reply, .sdo] s t) ∧
  (∀ (h : Header) (slot : Byte) (d : RawDescriptor) (s : State), Reaches .configuring h s → h.guard = none →
     h.reserved ≠ 0 ∨ 7 < slot.toNat ∨ RefusedDescriptor d →
     ∃ t, exec (.placeCue h slot d) s = .next t ∧ Answers s t h .badValue .empty ∧ OnlyChanges [.reply, .sdo] s t)

/-- R20, R21, R46: MODIFY_CUE replaces the named fields of a cue of the client that is not fading, each read and clamped
as a posting reads it; a colour source B is kept with a GRADIENT alone; the clock restarts with a named effect and the
gate with a named gate; everything else of the cue and every other slot stays. R28, R197: a mask bit of 6 to 15, a named
field that a posting would refuse, and a GRADIENT left without colour source B are BAD_VALUE; the reply is CLAMPED just
where a named value was altered, a colour source B that is then discarded too (DEDUCED, log 35). R2, R13, R14, R197:
once the watch check has passed, a handle that names no cue is NOT_FOUND (another generation, a free slot, a slot field above
47), a cue of another owner DENIED, to client 0 too, a cue that fades WRONG_STATE, and then a reserved bit or a refused change
BAD_VALUE, in this order. -/
def Obligations.ModifyCueReplacesNamedFields : Prop :=
  (∀ (h : Header) (handle mask : BitVec 16) (r : RawDescriptor) (k : Fin 48) (c : Cue) (s : State),
     Reaches .open_ h s → h.reserved = 0 → h.guard = none → Names s handle k c → c.owner = h.client →
     c.phase.isFadingOut = false →
     (c.desc.modified mask r = none ↔ RefusedModify c.desc mask r) ∧
     (∀ (d' : Descriptor) (altered : Bool), c.desc.modified mask r = some (d', altered) →
     (altered = true ↔ AlteredModify mask r) ∧
     ∃ t, exec (.modifyCue h handle mask r) s = .next t ∧ Answers s t h (doneStatus altered) .empty ∧
       t.cues.slots[k] =
         { gen := s.cues.slots[k].gen
           cue := some
             { c with
               desc := d'
               clock := if mask.getLsbD 4 then 0 else c.clock
               gateRun := if mask.getLsbD 5 then
                   d'.gate.map fun g =>
                     { opened := s.signals.getLsbD g.signal == g.openWhen, start := c.gateEnvelope, elapsed := 0 }
                 else c.gateRun } } ∧
       (d'.layer = c.desc.layer ∧ d'.zones = c.desc.zones ∧ d'.fadeIn = c.desc.fadeIn ∧
         d'.fadeOut = c.desc.fadeOut ∧ d'.lifetime = c.desc.lifetime) ∧
       d'.intensity = (if mask.getLsbD 0 then min 1000 r.intensity.toNat else c.desc.intensity) ∧
       d'.priority = (if mask.getLsbD 1 then min 15 r.priority.toNat else c.desc.priority) ∧
       (let colour : BitVec 16 → BitVec 16 → BitVec 16 → Rgb := fun x y z =>
          { r := min 4095 x.toNat, g := min 4095 y.toNat, b := min 4095 z.toNat }
        (mask.getLsbD 2 = false → d'.a = c.desc.a) ∧
        (mask.getLsbD 2 = true → r.aKind = 0 → d'.a = .direct (colour r.a0 r.a1 r.a2)) ∧
        (mask.getLsbD 2 = true → r.aKind = 1 → ∃ e : Fin 32, e.val = r.a0.toNat ∧ d'.a = .palette e) ∧
        (d'.effect.isGradient = false → d'.b = none) ∧
        (d'.effect.isGradient = true → mask.getLsbD 3 = false → d'.b = c.desc.b) ∧
        (d'.effect.isGradient = true → mask.getLsbD 3 = true → r.bKind = 0 →
          d'.b = some (.direct (colour r.b0 r.b1 r.b2))) ∧
        (d'.effect.isGradient = true → mask.getLsbD 3 = true → r.bKind = 1 →
          ∃ e : Fin 32, e.val = r.b0.toNat ∧ d'.b = some (.palette e))) ∧
       (mask.getLsbD 4 = false → d'.effect = c.desc.effect) ∧
       (mask.getLsbD 4 = true →
         (let period := max 10 (min 1000 r.p0.toNat)
          (r.effect = 0 → d'.effect = .solid) ∧
          (r.effect = 1 → d'.effect =
            .pulse (10 * period) (min 1000 r.p1.toNat) (10 * (r.p2.toNat % period))) ∧
          (r.effect = 2 → d'.effect = .sweep (10 * max 1 (min 1000 r.p0.toNat)) (r.p1.toNat / 256)
            (if r.p1.toNat % 256 = 0 then .forward else .reverse)) ∧
          (r.effect = 3 → d'.effect = .gradient (if r.p0.toNat / 256 = 0 then .forward else .reverse)))) ∧
       (mask.getLsbD 5 = false → d'.gate = c.desc.gate) ∧
       (mask.getLsbD 5 = true → (r.gate = 0 → d'.gate = none) ∧
         (r.gate ≠ 0 → ∃ g : Gate, d'.gate = some g ∧ g.signal.val = r.gate.toNat % 32 ∧
           g.openWhen = !r.gate.getLsbD 6)) ∧
       OnlySlot k s t ∧ t.cues.postOrder = s.cues.postOrder ∧ t.cues.retiring = s.cues.retiring ∧
       RaisesEvents c.desc.zones none s t ∧ OnlyChanges [.cues, .zones, .watches, .reply, .sdo] s t) ∧
     (RefusedModify c.desc mask r →
       ∃ t, exec (.modifyCue h handle mask r) s = .next t ∧ Answers s t h .badValue .empty ∧
         OnlyChanges [.reply, .sdo] s t)) ∧
  ∀ (h : Header) (handle mask : BitVec 16) (r : RawDescriptor) (s : State), Reaches .open_ h s → PassesWatchCheck s h →
    (NamesNoCue s handle → Refuses h .notFound .empty (.modifyCue h handle mask r) s) ∧
    (∀ (k : Fin 48) (c : Cue), Names s handle k c →
      (c.owner ≠ h.client → Refuses h .denied .empty (.modifyCue h handle mask r) s) ∧
      (c.owner = h.client → c.phase.isFadingOut = true →
        Refuses h .wrongState .empty (.modifyCue h handle mask r) s) ∧
      (c.owner = h.client → c.phase.isFadingOut = false → h.reserved ≠ 0 ∨ RefusedModify c.desc mask r →
        Refuses h .badValue .empty (.modifyCue h handle mask r) s))

/-- R10, R13, R22: RETIRE_CUE by the owner of a cue or by client 0. FADE begins the fade-out of a cue that is not fading
from its present envelope, or frees it at once where its fade-out time is 0; it leaves a cue that is fading as it is; NOW
frees it. That the mode byte 0 is FADE and 1 is NOW is presumed (PRESUMED, log 6): 11.6 does not number it. R2, R14,
R197: once the watch check has passed, a handle that names no cue is NOT_FOUND (another generation, a free slot, a slot field
above 47), a cue of another owner DENIED but to client 0, and then a reserved bit or a mode above 1 BAD_VALUE, in this order.
-/
def Obligations.RetireCueFadesOrFrees : Prop :=
  (∀ (h : Header) (handle : BitVec 16) (k : Fin 48) (c : Cue) (s : State),
     Reaches .open_ h s → h.reserved = 0 → h.guard = none → Names s handle k c →
     (c.owner = h.client ∨ h.client = 0) →
     (c.phase.isFadingOut = false → c.desc.fadeOut ≠ 0 →
       ∃ t, exec (.retireCue h handle 0) s = .next t ∧ Answers s t h .ok .empty ∧
         t.cues.slots[k] = { gen := s.cues.slots[k].gen
                             cue := some { c with phase := .fadingOut 0 c.desc.fadeOut c.fadeEnvelope } } ∧
         OnlySlot k s t ∧ t.cues.postOrder = s.cues.postOrder ∧ t.cues.retiring = s.cues.retiring ++ [k] ∧
         RaisesEvents c.desc.zones none s t ∧ OnlyChanges [.cues, .zones, .watches, .reply, .sdo] s t) ∧
     (c.phase.isFadingOut = false → c.desc.fadeOut = 0 →
       ∃ t, exec (.retireCue h handle 0) s = .next t ∧ Answers s t h .ok .empty ∧ t.cues.slots[k].cue = none ∧
         OnlySlot k s t ∧ OnlyChanges [.cues, .zones, .watches, .seq, .reply, .sdo] s t) ∧
     (c.phase.isFadingOut = true →
       ∃ t, exec (.retireCue h handle 0) s = .next t ∧ Answers s t h .ok .empty ∧ OnlyChanges [.reply, .sdo] s t) ∧
     (∃ t, exec (.retireCue h handle 1) s = .next t ∧ Answers s t h .ok .empty ∧
       t.cues.slots[k] = { gen := s.cues.slots[k].gen, cue := none } ∧ OnlySlot k s t ∧
       t.cues.postOrder = (s.cues.postOrder.filter fun j => j != k) ∧
       t.cues.retiring = (s.cues.retiring.filter fun j => j != k) ∧ RaisesEvents c.desc.zones none s t ∧
       (c.tag = none → t.seq = s.seq) ∧ OnlyChanges [.cues, .zones, .watches, .seq, .reply, .sdo] s t)) ∧
  ∀ (h : Header) (handle : BitVec 16) (mode : Byte) (s : State), Reaches .open_ h s → PassesWatchCheck s h →
    (NamesNoCue s handle → Refuses h .notFound .empty (.retireCue h handle mode) s) ∧
    (∀ (k : Fin 48) (c : Cue), Names s handle k c →
      (c.owner ≠ h.client → h.client ≠ 0 → Refuses h .denied .empty (.retireCue h handle mode) s) ∧
      (c.owner = h.client ∨ h.client = 0 → h.reserved ≠ 0 ∨ 1 < mode.toNat →
        Refuses h .badValue .empty (.retireCue h handle mode) s))

/-- R23: RETIRE_OWNER acts on every live cue of the owner, and replies how many it acted on. NOW frees them; FADE begins
the fade-out of those that are not fading, and frees those whose fade-out time is 0. Every other slot stays. An owner above
7 and a mode above 1 are BAD_VALUE. That the mode byte 0 is FADE and 1 is NOW is presumed (PRESUMED, log 6): 11.6 does not
number it. -/
def Obligations.RetireOwnerActsOnEveryCue : Prop :=
  (∀ (h : Header) (owner : BitVec 3) (s : State), Reaches .configuring h s → h.plain = true → CueInv s →
     (∃ t, exec (.retireOwner h (owner.setWidth 8) 1) s = .next t ∧
       Answers s t h .ok (.count (s.cues.postOrder.countP fun k => s.cues.slots[k].cue.any (·.owner == owner))) ∧
       (∀ k : Fin 48, t.cues.slots[k] =
         { gen := s.cues.slots[k].gen, cue := s.cues.slots[k].cue.filter fun c => c.owner != owner }) ∧
       OnlyChanges [.cues, .zones, .watches, .seq, .reply, .sdo] s t) ∧
     (∃ t, exec (.retireOwner h (owner.setWidth 8) 0) s = .next t ∧
       Answers s t h .ok (.count (s.cues.postOrder.countP fun k =>
         s.cues.slots[k].cue.any fun c => c.owner == owner && !c.phase.isFadingOut)) ∧
       (∀ k : Fin 48, t.cues.slots[k].gen = s.cues.slots[k].gen ∧
         (∀ c, s.cues.slots[k].cue = some c → c.owner = owner → c.phase.isFadingOut = false →
           t.cues.slots[k].cue = if c.desc.fadeOut = 0 then none
             else some { c with phase := .fadingOut 0 c.desc.fadeOut c.fadeEnvelope }) ∧
         ((∀ c, s.cues.slots[k].cue = some c → c.owner ≠ owner ∨ c.phase.isFadingOut = true) →
           t.cues.slots[k] = s.cues.slots[k])) ∧
       OnlyChanges [.cues, .zones, .watches, .seq, .reply, .sdo] s t)) ∧
  ∀ (h : Header) (owner mode : Byte) (s : State), Reaches .configuring h s → h.plain = true →
    7 < owner.toNat ∨ 1 < mode.toNat → Refuses h .badValue .empty (.retireOwner h owner mode) s

/-- R24, R25: REFRESH_CUE reloads or replaces the lifetime of a cue of the client that is not fading; READ_CUE reports a
cue and changes nothing. The gate target 1000 that an ungated cue reports is the model's choice (DESIGN CHOICE, log 7). R2,
R13, R14, R197: a handle that names no cue is NOT_FOUND for both (another generation, a free slot, a slot field above 47); for
REFRESH_CUE a cue of another owner is DENIED, to client 0 too, and one that fades WRONG_STATE; and then a reserved bit or the
GUARDED flag is BAD_VALUE, in this order. -/
def Obligations.RefreshAndReadCue : Prop :=
  (∀ (h : Header) (handle : BitVec 16) (k : Fin 48) (c : Cue) (s : State),
     Reaches .open_ h s → h.plain = true → Names s handle k c →
     (c.owner = h.client → c.phase.isFadingOut = false →
       (∃ t, exec (.refreshCue h handle none) s = .next t ∧ Answers s t h .ok .empty ∧
         t.cues.slots[k] = { gen := s.cues.slots[k].gen
                             cue := some { c with remaining := c.desc.lifetime.orElse fun _ => c.remaining } } ∧
         OnlySlot k s t ∧ t.cues.postOrder = s.cues.postOrder ∧ t.cues.retiring = s.cues.retiring ∧
         OnlyChanges [.cues, .reply, .sdo] s t) ∧
       (∀ raw : BitVec 16, ∃ t, exec (.refreshCue h handle (some raw)) s = .next t ∧
         Answers s t h (doneStatus (decide (60000 < raw.toNat))) .empty ∧
         (∃ l, (l = if raw = 0 then none else some (10 * min 60000 raw.toNat)) ∧
           t.cues.slots[k] = { gen := s.cues.slots[k].gen
                               cue := some { c with desc := { c.desc with lifetime := l }, remaining := l } }) ∧
         OnlySlot k s t ∧ t.cues.postOrder = s.cues.postOrder ∧ t.cues.retiring = s.cues.retiring ∧
         OnlyChanges [.cues, .reply, .sdo] s t)) ∧
     (∃ t, exec (.readCue h handle) s = .next t ∧
       Answers s t h .ok (.cue
         { handle := { slot := k, gen := s.cues.slots[k].gen }, cue := c, fade := c.fadeEnvelope
           gate := c.gateEnvelope, void := c.void s.palette
           timeIntoFade := match c.phase with
             | .fadingIn x => x
             | .steady => 0
             | .fadingOut x _ _ => x
           gateTarget := match c.gateRun with
             | none => 1000
             | some g => if g.opened then 1000 else 0 }) ∧
       OnlyChanges [.reply, .sdo] s t)) ∧
  ∀ (h : Header) (handle : BitVec 16) (lifetime : Option (BitVec 16)) (s : State), Reaches .open_ h s →
    (NamesNoCue s handle → Refuses h .notFound .empty (.refreshCue h handle lifetime) s ∧
      Refuses h .notFound .empty (.readCue h handle) s) ∧
    (∀ (k : Fin 48) (c : Cue), Names s handle k c →
      (c.owner ≠ h.client → Refuses h .denied .empty (.refreshCue h handle lifetime) s) ∧
      (c.owner = h.client → c.phase.isFadingOut = true →
        Refuses h .wrongState .empty (.refreshCue h handle lifetime) s) ∧
      (h.reserved ≠ 0 ∨ h.guard ≠ none → Refuses h .badValue .empty (.readCue h handle) s ∧
        (c.owner = h.client → c.phase.isFadingOut = false →
          Refuses h .badValue .empty (.refreshCue h handle lifetime) s)))

/-- R73, R74, R76: the guard of the four commands that may carry one. A watch id that names no entry of the client is
STALE, whatever the rest of the command and the mode say. One that names an entry is BAD_VALUE with a mode above 1; with a
mode of 0 or 1 the command is carried out where it would be without the guard, and KEEP leaves the entry as it is while
CONSUME frees it. That the RETIRE_CUE mode byte 1 is NOW is presumed (PRESUMED, log 6): 11.6 does not number it. -/
def Obligations.GuardKeepsOrConsumesTheWatch : Prop :=
  ∀ (h : Header) (g : Guard) (d : RawDescriptor) (handle mask : BitVec 16) (mode slot : Byte) (s : State),
    Reaches .open_ h s → h.guard = some g →
    (let refuses : Status → Instr → Prop := fun status i =>
       ∃ t, exec i s = .next t ∧ Answers s t h status .empty ∧ OnlyChanges [.reply, .sdo] s t
     let refusesAll : Status → Prop := fun status =>
       refuses status (.postCue h d) ∧ refuses status (.modifyCue h handle mask d) ∧
         refuses status (.retireCue h handle mode) ∧ (h.client = 0 → refuses status (.placeCue h slot d))
     ((∀ (w : Fin 8) (e : WatchEntry), s.watches.slots[w].entry = some e →
         g.slot.toNat ≠ w.val ∨ g.gen ≠ s.watches.slots[w].gen ∨ e.client ≠ h.client) → refusesAll .stale) ∧
     (∀ (w : Fin 8) (e : WatchEntry), s.watches.slots[w] = { gen := g.gen, entry := some e } →
       g.slot.toNat = w.val → e.client = h.client →
       (1 < g.mode.toNat → refusesAll .badValue) ∧
       (g.mode.toNat ≤ 1 → h.reserved = 0 →
         (let kept : State → Prop := fun t =>
            t.watches.slots[w] = if g.mode = 1 then { gen := g.gen, entry := none } else s.watches.slots[w]
          (∀ (k : Fin 48) (d' : Descriptor) (altered : Bool), descriptorOf d = some (d', altered) → 8 ≤ k.val →
            s.cues.slots[k].cue = none → (∀ j : Fin 48, 8 ≤ j.val → j < k → s.cues.slots[j].cue ≠ none) →
            (∀ j : Fin 48, isPurged s h.client d' j = false) →
            ∃ t, exec (.postCue h d) s = .next t ∧
              Answers s t h (doneStatus altered) (.handle { slot := k, gen := s.cues.slots[k].gen + 1 }) ∧
              t.cues.slots[k].cue = some (writtenCue s h.client none d') ∧ OnlySlot k s t ∧ kept t) ∧
          (∀ (k : Fin 48) (c : Cue) (d' : Descriptor) (altered : Bool), Names s handle k c → c.owner = h.client →
            c.phase.isFadingOut = false → c.desc.modified mask d = some (d', altered) →
            ∃ t, exec (.modifyCue h handle mask d) s = .next t ∧ Answers s t h (doneStatus altered) .empty ∧
              t.cues.slots[k].cue.map (·.desc) = some d' ∧ OnlySlot k s t ∧ kept t) ∧
          (∀ (k : Fin 48) (c : Cue), Names s handle k c → c.owner = h.client ∨ h.client = 0 →
            ∃ t, exec (.retireCue h handle 1) s = .next t ∧ Answers s t h .ok .empty ∧
              t.cues.slots[k].cue = none ∧ OnlySlot k s t ∧ kept t) ∧
          (∀ (k : Fin 48) (d' : Descriptor) (altered : Bool), h.client = 0 → slot.toNat = k.val → k.val < 8 →
            descriptorOf d = some (d', altered) →
            ∃ t, exec (.placeCue h slot d) s = .next t ∧
              Answers s t h (doneStatus altered) (.handle { slot := k, gen := s.cues.slots[k].gen + 1 }) ∧
              t.cues.slots[k].cue = some (writtenCue s 0 none d') ∧ OnlySlot k s t ∧ kept t)))))

/-- R9, R11, R12: the lifecycle events when they are due. A fade-in completes into STEADY without an event; a lifetime
that has run out begins the fade-out, or frees a cue whose fade-out time is 0; a fade-out that is complete frees the slot.
R8, R31: while the time base is stopped, in DORMANT and WAKING, none of them occurs. -/
def Obligations.CueLifecycleEvents : Prop :=
  (∀ (k : Fin 48) (s : State), s.power.state = .dormant ∨ s.power.state = .waking →
    exec (.fadeInCompletion k) s = .next s ∧ exec (.lifetimeExpiry k) s = .next s ∧
      exec (.fadeOutCompletion k) s = .next s) ∧
  ∀ (k : Fin 48) (c : Cue) (s : State), s.resetLow = false → s.power.state.timeRuns = true →
    s.cues.slots[k].cue = some c →
    (∀ t0, c.phase = .fadingIn t0 → c.desc.fadeIn ≤ t0 →
      ∃ t, exec (.fadeInCompletion k) s = .next t ∧
        t.cues.slots[k] = { gen := s.cues.slots[k].gen, cue := some { c with phase := .steady } } ∧ OnlySlot k s t ∧
        t.cues.postOrder = s.cues.postOrder ∧ t.cues.retiring = s.cues.retiring ∧ OnlyChanges [.cues] s t) ∧
    (c.phase.isFadingOut = false → c.remaining = some 0 → c.desc.fadeOut ≠ 0 →
      ∃ t, exec (.lifetimeExpiry k) s = .next t ∧
        t.cues.slots[k] = { gen := s.cues.slots[k].gen
                            cue := some { c with phase := .fadingOut 0 c.desc.fadeOut c.fadeEnvelope } } ∧
        OnlySlot k s t ∧ t.cues.postOrder = s.cues.postOrder ∧ t.cues.retiring = s.cues.retiring ++ [k] ∧
        RaisesEvents c.desc.zones none s t ∧ OnlyChanges [.cues, .zones, .watches] s t) ∧
    (c.phase.isFadingOut = false → c.remaining = some 0 → c.desc.fadeOut = 0 →
      ∃ t, exec (.lifetimeExpiry k) s = .next t ∧ t.cues.slots[k].cue = none ∧ OnlySlot k s t ∧
        OnlyChanges [.cues, .zones, .watches, .seq] s t) ∧
    (∀ t0 exit start, c.phase = .fadingOut t0 exit start → exit ≤ t0 →
      ∃ t, exec (.fadeOutCompletion k) s = .next t ∧
        t.cues.slots[k] = { gen := s.cues.slots[k].gen, cue := none } ∧ OnlySlot k s t ∧
        t.cues.postOrder = (s.cues.postOrder.filter fun j => j != k) ∧
        t.cues.retiring = (s.cues.retiring.filter fun j => j != k) ∧ RaisesEvents c.desc.zones none s t ∧
        (∀ r l, c.tag = some { runner := r, label := l } →
          ∀ m : Fin 8, t.seq.runners[r].labels[m] ≠ some { slot := k, gen := s.cues.slots[k].gen }) ∧
        OnlyChanges [.cues, .zones, .watches, .seq] s t)

/-! ## Palette and signals (chapter 2) -/

/-- R34, R35, R37: SET_PALETTE defines an entry at once, or stages the colour while a runner is active under
AFTER_SEQUENCE, with components clamped to 4095; CLEAR_PALETTE makes the entry UNDEFINED. Every other entry stays. An
entry above 31 is BAD_VALUE for both, and a mode above 1 for SET_PALETTE. R42,
R45: SET_SIGNALS sets the masked signals and replies all sixteen. While no runner waits on a signal, its only other effect
is on the gate of every live cue whose signal has changed: it restarts from its present envelope toward the new target.
R41, R197: a SET_SIGNALS that is GUARDED or sets a reserved bit is BAD_VALUE, and its reply carries the sixteen values too
(DEDUCED, log 23). -/
def Obligations.PaletteAndSignalsAreWritten : Prop :=
  (∀ (h : Header) (entry : Byte) (e : Fin 32) (s : State), Reaches .open_ h s → h.plain = true → entry.toNat = e.val →
     (∀ (r g b : BitVec 16) (after : Bool),
       ∃ t, exec (.setPalette h entry r g b (if after then 1 else 0)) s = .next t ∧
         (let c : Rgb := { r := min 4095 r.toNat, g := min 4095 g.toNat, b := min 4095 b.toNat }
          let staged := after && (s.seq.runners[(0 : Fin 2)].state.active || s.seq.runners[(1 : Fin 2)].state.active)
          Answers s t h (doneStatus (decide (4095 < r.toNat ∨ 4095 < g.toNat ∨ 4095 < b.toNat))) (.palette staged) ∧
          t.palette[e] = if staged then { colour := s.palette[e].colour, staged := some c }
            else { colour := some c, staged := none }) ∧
         (∀ f : Fin 32, f ≠ e → t.palette[f] = s.palette[f]) ∧ OnlyChanges [.palette, .reply, .sdo] s t) ∧
     (∃ t, exec (.clearPalette h entry) s = .next t ∧ Answers s t h .ok .empty ∧
       t.palette[e] = { colour := none, staged := none } ∧ (∀ f : Fin 32, f ≠ e → t.palette[f] = s.palette[f]) ∧
       OnlyChanges [.palette, .reply, .sdo] s t)) ∧
  (∀ (h : Header) (mask values : BitVec 16) (s : State), Reaches .configuring h s → h.plain = true →
     ∃ t, exec (.setSignals h mask values) s = .next t ∧
       (∀ n : Fin 16, t.signals.getLsbD n = if mask.getLsbD n then values.getLsbD n else s.signals.getLsbD n) ∧
       Answers s t h .ok (.signals t.signals) ∧
       ((∀ r : Fin 2, s.seq.runners[r].state ≠ .signalWait) →
         (∀ k : Fin 48, t.cues.slots[k].gen = s.cues.slots[k].gen ∧
           t.cues.slots[k].cue = s.cues.slots[k].cue.map fun c =>
             match c.desc.gate with
             | none => c
             | some g =>
               if t.signals.getLsbD g.signal = s.signals.getLsbD g.signal then c
               else { c with gateRun := some { opened := t.signals.getLsbD g.signal == g.openWhen
                                               start := c.gateEnvelope, elapsed := 0 } }) ∧
         t.cues.postOrder = s.cues.postOrder ∧ t.cues.retiring = s.cues.retiring ∧
         OnlyChanges [.signals, .cues, .reply, .sdo] s t)) ∧
  (∀ (h : Header) (mask values : BitVec 16) (s : State), Reaches .configuring h s → h.plain = false →
     ∃ t, exec (.setSignals h mask values) s = .next t ∧ Answers s t h .badValue (.signals s.signals) ∧
       OnlyChanges [.reply, .sdo] s t) ∧
  (∀ (h : Header) (entry mode : Byte) (r g b : BitVec 16) (s : State), Reaches .open_ h s → h.plain = true →
     (31 < entry.toNat ∨ 1 < mode.toNat → Refuses h .badValue .empty (.setPalette h entry r g b mode) s) ∧
     (31 < entry.toNat → Refuses h .badValue .empty (.clearPalette h entry) s))

/-! ## Zones and watches (chapters 3 and 4) -/

/-- R56, R57: MAP_ZONE replaces the list of a zone that is not held, discards its latest composite and raises one event; a
list of which another zone lists a node is IN_USE, with the first such node in list order and that zone, and nothing
changes. Before that a zone above 15, a list of more than 64, an entry with a chain above 3 or a position of 0 or above 60,
and an entry named twice are BAD_VALUE, and then a zone that is held is WRONG_STATE. -/
def Obligations.MapZoneReplacesTheList : Prop :=
  (∀ (h : Header) (zone : Byte) (z : Fin 16) (nodes : List NodeRef) (s : State), Reaches .configuring h s →
     h.plain = true → zone.toNat = z.val → nodes.length ≤ 64 → nodes.Nodup →
     (∀ n ∈ nodes, 1 ≤ n.position ∧ n.position ≤ 60) → s.zones[z].hold = .clear →
     (let raw : List RawNodeRef := nodes.map fun n =>
        { chain := BitVec.ofNat 8 n.chain, position := BitVec.ofNat 8 n.position }
      ((∀ y : Fin 16, y ≠ z → ∀ n ∈ nodes, n ∉ s.zones[y].nodes) →
        ∃ t, exec (.mapZone h zone raw) s = .next t ∧ Answers s t h .ok .empty ∧
          t.zones[z] = { s.zones[z] with nodes := nodes, count := s.zones[z].count + 1 } ∧ OnlyZone z s t ∧
          t.composer.latest[z] = none ∧ (∀ y : Fin 16, y ≠ z → t.composer.latest[y] = s.composer.latest[y]) ∧
          (∀ f, s.composer.frame = some f → ∃ f', t.composer.frame = some f' ∧ f'.snap = f.snap ∧
            f'.discarded.getLsbD z = true) ∧
          t.composer.period = s.composer.period ∧ t.composer.timer = s.composer.timer ∧
          (∀ w : Fin 8, t.watches.slots[w].entry = s.watches.slots[w].entry.filter fun e => e.zone != z) ∧
          OnlyChanges [.zones, .watches, .composer, .reply, .sdo] s t) ∧
      (∀ (y : Fin 16) (n : NodeRef) (before rest : List NodeRef), nodes = before ++ n :: rest →
        (∀ m ∈ before, ∀ x : Fin 16, x ≠ z → m ∉ s.zones[x].nodes) → y ≠ z → n ∈ s.zones[y].nodes →
        (∀ x : Fin 16, x ≠ z → n ∈ s.zones[x].nodes → x = y) →
        ∃ t, exec (.mapZone h zone raw) s = .next t ∧ Answers s t h .inUse (.inUse n y) ∧
          OnlyChanges [.reply, .sdo] s t))) ∧
  ∀ (h : Header) (zone : Byte) (raw : List RawNodeRef) (s : State), Reaches .configuring h s → h.plain = true →
    raw.length ≤ 123 →
    (let bad : Prop := 64 < raw.length ∨ ¬ raw.Nodup ∨
       ∃ n ∈ raw, 3 < n.chain.toNat ∨ n.position.toNat = 0 ∨ 60 < n.position.toNat
     (15 < zone.toNat ∨ bad → Refuses h .badValue .empty (.mapZone h zone raw) s) ∧
     (∀ z : Fin 16, zone.toNat = z.val → ¬ bad → s.zones[z].hold ≠ .clear →
       Refuses h .wrongState .empty (.mapZone h zone raw) s))

/-- R58: SET_ZONE_TRIM is sent by client 0 (clients 1 to 6 are DENIED); a zone number above 15 is BAD_VALUE; a trim above
1000 is clamped to 1000 and the reply is then CLAMPED. The trim replaces the zone's trim in one step; no event is raised
and the change count stays; the frame in flight, which is in the Composer, stays too. The first frame whose snapshot
follows has the new trim, and its stage 5 applies it to each node's composite, for a held zone to its frozen composite. -/
def Obligations.ZoneTrimIsReplaced : Prop :=
  ∀ (h : Header) (zone : Byte) (trim : BitVec 16) (s : State),
    (Reaches .open_ h s → h.client ≠ 0 →
      ∃ t, exec (.setZoneTrim h zone trim) s = .next t ∧ Answers s t h .denied .empty ∧
        OnlyChanges [.reply, .sdo] s t) ∧
    (Reaches .configuring h s → h.plain = true →
      (15 < zone.toNat →
        ∃ t, exec (.setZoneTrim h zone trim) s = .next t ∧ Answers s t h .badValue .empty ∧
          OnlyChanges [.reply, .sdo] s t) ∧
      (∀ z : Fin 16, zone.toNat = z.val →
        ∃ t, exec (.setZoneTrim h zone trim) s = .next t ∧
          Answers s t h (doneStatus (decide (1000 < trim.toNat))) .empty ∧
          t.zones[z] = { s.zones[z] with trim := min 1000 trim.toNat } ∧ OnlyZone z s t ∧
          OnlyChanges [.zones, .reply, .sdo] s t ∧
          (∀ interval, s.composer.timer = some interval → s.composer.frame = none →
            ∃ u f, exec .frameTimerExpiry t = .next u ∧ u.composer.frame = some f ∧
              f.snap.zones[z].trim = min 1000 trim.toNat ∧
              (∀ l, s.zones[z].hold = .captured l → f.snap.composite z = l) ∧
              (∀ l, s.zones[z].hold = .pending → s.composer.latest[z] = some l → f.snap.composite z = l) ∧
              (f.snap.records z).length = min (s.zones[z].nodes.length) (f.snap.composite z).length ∧
              ∀ (n : Nat) (node : NodeRef) (c : Comp), s.zones[z].nodes[n]? = some node →
                (f.snap.composite z)[n]? = some c →
                (f.snap.records z)[n]? = some { node := node, colour :=
                  { r := c.colour.r * min 1000 trim.toNat / 1000, g := c.colour.g * min 1000 trim.toNat / 1000
                    b := c.colour.b * min 1000 trim.toNat / 1000 } })))

/-- R60, R62: HOLD_ZONE sets the hold of the zones of its set that are not held, RELEASE_ZONE clears those of its set that
are; one event is raised for each zone that changes, and the reply counts them. Every other zone stays. An empty set is
BAD_VALUE for both. -/
def Obligations.HoldAndReleaseZones : Prop :=
  (∀ (h : Header) (zones : BitVec 16) (s : State), Reaches .configuring h s → h.plain = true → zones ≠ 0 →
     (∃ t, exec (.holdZone h zones) s = .next t ∧
       Answers s t h .ok (.count ((List.finRange 16).countP fun z : Fin 16 =>
         zones.getLsbD z && s.zones[z].hold == .clear)) ∧
       (∀ z : Fin 16, t.zones[z] =
         if zones.getLsbD z = true ∧ s.zones[z].hold = .clear then
           { s.zones[z] with hold := .pending, count := s.zones[z].count + 1 }
         else s.zones[z]) ∧
       (∀ w : Fin 8, t.watches.slots[w].entry = s.watches.slots[w].entry.filter fun e =>
         !(zones.getLsbD e.zone && s.zones[e.zone].hold == .clear)) ∧
       OnlyChanges [.zones, .watches, .reply, .sdo] s t) ∧
     (∃ t, exec (.releaseZone h zones) s = .next t ∧
       Answers s t h .ok (.count ((List.finRange 16).countP fun z : Fin 16 =>
         zones.getLsbD z && s.zones[z].hold != .clear)) ∧
       (∀ z : Fin 16, t.zones[z] =
         if zones.getLsbD z = true ∧ s.zones[z].hold ≠ .clear then
           { s.zones[z] with hold := .clear, count := s.zones[z].count + 1 }
         else s.zones[z]) ∧
       (∀ w : Fin 8, t.watches.slots[w].entry = s.watches.slots[w].entry.filter fun e =>
         !(zones.getLsbD e.zone && s.zones[e.zone].hold != .clear)) ∧
       OnlyChanges [.zones, .watches, .reply, .sdo] s t)) ∧
  ∀ (h : Header) (s : State), Reaches .configuring h s → h.plain = true →
    Refuses h .badValue .empty (.holdZone h 0) s ∧ Refuses h .badValue .empty (.releaseZone h 0) s

/-- R66, R69, R70, R78: READ_ZONE reports the zone: node list, trim, hold flag and whether the frozen composite is
captured, change count, the winner and the outgoing cue of each layer with their VOID flags, and the coverage of each
node, of a captured frozen composite, else of the latest, else 0. It selects for a zone with an empty node list as for any
other (DESIGN CHOICE, log 45). It changes nothing without the watch flag; with it, it writes an entry of the client on the
zone, in its own slot where it has one, else in the lowest free slot, and else (R71) in the slot of the oldest entry, with
the next generation and newest in the order. A zone number above 15 and a watch flag that is no code are BAD_VALUE.
DROP_WATCH frees an entry of the client and no other; a watch id that names none of its entries is NOT_FOUND. That the
watch flag 0 is clear and 1 is set is presumed (PRESUMED, log 6): 11.6 does not number it. -/
def Obligations.ReadZoneAndWatches : Prop :=
  (∀ (h : Header) (zone : Byte) (z : Fin 16) (s : State), Reaches .open_ h s → h.plain = true → zone.toNat = z.val →
    (let lit : Option (Fin 48) → Option LayerCue := fun k => k.map fun k =>
       { handle := { slot := k, gen := s.cues.slots[k].gen }
         void := s.cues.slots[k].cue.any fun c => c.void s.palette }
     let report : Option WatchId → ZoneReport := fun watch =>
       { nodes := s.zones[z].nodes, trim := s.zones[z].trim, count := s.zones[z].count, watch := watch
         held := match s.zones[z].hold with
           | .clear => false
           | .pending => true
           | .captured _ => true
         captured := match s.zones[z].hold with
           | .captured _ => true
           | _ => false
         layers := [Layer.foundation, .theme, .accent, .alert].map fun l =>
           { winner := lit (s.cues.winner z l), outgoing := lit (s.cues.outgoing z l) }
         coverages := match s.zones[z].hold, s.composer.latest[z] with
           | .captured l, _ => l.map (·.coverage)
           | _, some l => l.map (·.coverage)
           | _, none => s.zones[z].nodes.map fun _ => 0 }
    (∃ t, exec (.readZone h zone 0) s = .next t ∧ OnlyChanges [.reply, .sdo] s t ∧
      Answers s t h .ok (.zone (report none))) ∧
    (∀ w : Fin 8,
      (s.watches.slots[w].entry = some { client := h.client, zone := z } ∧
        (∀ v : Fin 8, v < w → s.watches.slots[v].entry ≠ some { client := h.client, zone := z })) ∨
      (s.watches.slots[w].entry = none ∧ (∀ v : Fin 8, v < w → s.watches.slots[v].entry ≠ none) ∧
        ∀ v : Fin 8, s.watches.slots[v].entry ≠ some { client := h.client, zone := z }) ∨
      ((∀ v : Fin 8, s.watches.slots[v].entry ≠ none ∧
          s.watches.slots[v].entry ≠ some { client := h.client, zone := z }) ∧ s.watches.order.head? = some w) →
      ∃ t, exec (.readZone h zone 1) s = .next t ∧
        t.watches.slots[w] = { gen := s.watches.slots[w].gen + 1
                               entry := some { client := h.client, zone := z } } ∧
        (∀ v : Fin 8, v ≠ w → t.watches.slots[v] = s.watches.slots[v]) ∧
        t.watches.order = (s.watches.order.filter fun x => x != w) ++ [w] ∧
        OnlyChanges [.watches, .reply, .sdo] s t ∧
        Answers s t h .ok (.zone (report (some { slot := w, gen := s.watches.slots[w].gen + 1 }))))) ∧
    (∀ (w : Fin 8) (e : WatchEntry), s.watches.slots[w].entry = some e → e.client = h.client →
      ∃ t, exec (.dropWatch h (BitVec.ofNat 8 w) s.watches.slots[w].gen) s = .next t ∧ Answers s t h .ok .empty ∧
        t.watches.slots[w] = { gen := s.watches.slots[w].gen, entry := none } ∧
        (∀ v : Fin 8, v ≠ w → t.watches.slots[v] = s.watches.slots[v]) ∧
        t.watches.order = (s.watches.order.filter fun x => x != w) ∧ OnlyChanges [.watches, .reply, .sdo] s t)) ∧
  (∀ (h : Header) (x y : Byte) (s : State), Reaches .open_ h s → h.plain = true →
    (15 < x.toNat ∨ 1 < y.toNat →
      ∃ t, exec (.readZone h x y) s = .next t ∧ Answers s t h .badValue .empty ∧ OnlyChanges [.reply, .sdo] s t) ∧
    ((∀ (w : Fin 8) (e : WatchEntry), x.toNat = w.val → y = s.watches.slots[w].gen →
        s.watches.slots[w].entry = some e → e.client ≠ h.client) →
      ∃ t, exec (.dropWatch h x y) s = .next t ∧ Answers s t h .notFound .empty ∧ OnlyChanges [.reply, .sdo] s t))

/-! ## The Composer and the Output Conditioner (chapters 5 and 6) -/

/-- R81, R104, R106: SET_FRAME_PERIOD, SET_LUX, SET_MASTER and SET_SLEW each replace one value, brought into its range. A
period leaves the interval already scheduled; a lux value or a master level leaves the current level and replies the curve
level, the target and the current level. R105, R107, R112: SET_CURVE replaces the whole curve with levels clamped, and
refuses one that does not rise, a count outside 2 to 8 and a count that is not that of its points; SET_BIN replaces one
bin, clamped, and refuses a bin number above 15; SET_THERMAL replaces knee and limit together, and refuses a knee that is
not below the limit. R101: the curve level, at and beyond the ends of
a curve and within each of its segments, rounded in the direction in which the curve moves. That a refused
SET_FRAME_PERIOD, SET_LUX or SET_MASTER replies the values as an accepted one does is the model's reading (DEDUCED, log
23). -/
def Obligations.OutputSettingsAreReplaced : Prop :=
  (∀ (h : Header) (x : BitVec 16) (s : State), h.plain = true →
     (Reaches .configuring h s → ∀ p : Byte,
       ∃ t, exec (.setFramePeriod h p) s = .next t ∧
         Answers s t h (doneStatus (decide (p.toNat < 10 ∨ 40 < p.toNat))) (.period (max 10 (min 40 p.toNat))) ∧
         t.composer = { s.composer with period := max 10 (min 40 p.toNat) } ∧
         OnlyChanges [.composer, .reply, .sdo] s t) ∧
     (Reaches .open_ h s →
       ∃ t, exec (.setLux h x) s = .next t ∧ t.cond = { s.cond with lux := x.toNat } ∧
         Answers s t h .ok (.level (curveLevelOf s.cond.curve x.toNat)
           (curveLevelOf s.cond.curve x.toNat * s.cond.master / 1000) s.cond.level) ∧
         OnlyChanges [.cond, .reply, .sdo] s t) ∧
     (Reaches .open_ h s →
       ∃ t, exec (.setMaster h x) s = .next t ∧ t.cond = { s.cond with master := min 1000 x.toNat } ∧
         Answers s t h (doneStatus (decide (1000 < x.toNat))) (.level (curveLevelOf s.cond.curve s.cond.lux)
           (curveLevelOf s.cond.curve s.cond.lux * min 1000 x.toNat / 1000) s.cond.level) ∧
         OnlyChanges [.cond, .reply, .sdo] s t) ∧
     (Reaches .configuring h s →
       ∃ t, exec (.setSlew h x) s = .next t ∧ t.cond = { s.cond with slew := max 1 (min 1000 x.toNat) } ∧
         Answers s t h (doneStatus (decide (x.toNat = 0 ∨ 1000 < x.toNat))) .empty ∧
         OnlyChanges [.cond, .reply, .sdo] s t)) ∧
  (∀ (h : Header) (s : State), Reaches .configuring h s → h.plain = true →
     (∀ (count : Byte) (points : List RawPoint), count.toNat = points.length → 2 ≤ points.length →
       points.length ≤ 8 →
       ((points.map (·.lux.toNat)).IsChain (· < ·) →
         ∃ t, exec (.setCurve h count points) s = .next t ∧
           Answers s t h (doneStatus (points.any fun p => decide (1000 < p.level.toNat))) .empty ∧
           t.cond = { s.cond with
             curve := points.map fun p => { lux := p.lux.toNat, level := min 1000 p.level.toNat } } ∧
           OnlyChanges [.cond, .reply, .sdo] s t) ∧
       (¬ (points.map (·.lux.toNat)).IsChain (· < ·) →
         ∃ t, exec (.setCurve h count points) s = .next t ∧ Answers s t h .badValue .empty ∧
           OnlyChanges [.reply, .sdo] s t)) ∧
     (∀ (count : Byte) (points : List RawPoint), points.length ≤ 61 →
       count.toNat < 2 ∨ 8 < count.toNat ∨ count.toNat ≠ points.length →
       Refuses h .badValue .empty (.setCurve h count points) s) ∧
     (∀ (bin : Byte) (b : Fin 16) (r : RawBin), bin.toNat = b.val →
       ∃ t, exec (.setBin h bin r) s = .next t ∧
         (let c : BitVec 16 → Int := fun w => max (-2048) (min 2047 w.toInt)
          t.cond.bins[b] =
            { red := (c r.c00, c r.c01, c r.c02), green := (c r.c10, c r.c11, c r.c12)
              blue := (c r.c20, c r.c21, c r.c22)
              current := (min 1000 r.i0.toNat, min 1000 r.i1.toNat, min 1000 r.i2.toNat) }) ∧
         (let off : BitVec 16 → Prop := fun w => w.toInt < -2048 ∨ 2047 < w.toInt
          Answers s t h (doneStatus (decide (
            off r.c00 ∨ off r.c01 ∨ off r.c02 ∨ off r.c10 ∨ off r.c11 ∨ off r.c12 ∨ off r.c20 ∨ off r.c21 ∨
              off r.c22 ∨ 1000 < r.i0.toNat ∨ 1000 < r.i1.toNat ∨ 1000 < r.i2.toNat))) .empty) ∧
         (∀ a : Fin 16, a ≠ b → t.cond.bins[a] = s.cond.bins[a]) ∧
         t.cond = { s.cond with bins := t.cond.bins } ∧ OnlyChanges [.cond, .reply, .sdo] s t) ∧
     (∀ (bin : Byte) (r : RawBin), 15 < bin.toNat →
       ∃ t, exec (.setBin h bin r) s = .next t ∧ Answers s t h .badValue .empty ∧ OnlyChanges [.reply, .sdo] s t) ∧
     (∀ knee limit : BitVec 16,
       (let c : BitVec 16 → Int := fun w => max (-40) (min 150 w.toInt)
        (c knee < c limit →
          ∃ t, exec (.setThermal h knee limit) s = .next t ∧
            Answers s t h (doneStatus (decide (c knee ≠ knee.toInt ∨ c limit ≠ limit.toInt))) .empty ∧
            t.cond = { s.cond with knee := c knee, limit := c limit } ∧ OnlyChanges [.cond, .reply, .sdo] s t) ∧
        (c limit ≤ c knee →
          ∃ t, exec (.setThermal h knee limit) s = .next t ∧ Answers s t h .badValue .empty ∧
            OnlyChanges [.reply, .sdo] s t)))) ∧
  (∀ (h : Header) (x : BitVec 16) (p : Byte) (s : State), h.plain = false →
     (let level := curveLevelOf s.cond.curve s.cond.lux
      let refuses : Payload → Instr → Prop := fun payload i =>
        ∃ t, exec i s = .next t ∧ Answers s t h .badValue payload ∧ OnlyChanges [.reply, .sdo] s t
      (Reaches .configuring h s → refuses (.period s.composer.period) (.setFramePeriod h p)) ∧
      (Reaches .open_ h s →
        refuses (.level level (level * s.cond.master / 1000) s.cond.level) (.setLux h x) ∧
          refuses (.level level (level * s.cond.master / 1000) s.cond.level) (.setMaster h x)))) ∧
  (∀ (curve : List CurvePoint) (x : Nat), (curve.map (·.lux)).IsChain (· < ·) →
     (∀ a rest, curve = a :: rest → x ≤ a.lux → curveLevelOf curve x = a.level) ∧
     (∀ init b, curve = init ++ [b] → b.lux ≤ x → curveLevelOf curve x = b.level) ∧
     (∀ init a b rest, curve = init ++ a :: b :: rest → a.lux ≤ x → x < b.lux →
       (a.level ≤ b.level →
         curveLevelOf curve x = a.level + (b.level - a.level) * (x - a.lux) / (b.lux - a.lux) ∧
           curveLevelOf curve x ≤ b.level) ∧
       (b.level < a.level →
         curveLevelOf curve x = a.level - (a.level - b.level) * (x - a.lux) / (b.lux - a.lux) ∧
           b.level ≤ curveLevelOf curve x)))

/-- R113: stage 9 of a chain in RING or SPLIT. S is the exact sum, over the chain's deliverable records and their
channels, of the duty after stage 8 times the full-scale current; records that are not deliverable do not enter it. Above
40950 times the budget the factor k is 1000 times that over S, rounded down, and every duty is scaled by k; otherwise k is
1000 and the duties stay. The scaled sum is at most S times k over 1000, and at most 40950 times the budget, so is the sum
over the duty set. With no deliverable record S is 0 and k is 1000. This factor is at most 1000, and at least 2 within the
ranges of the budget and the full-scale currents. -/
def Obligations.DutySetStaysWithinBudget : Prop :=
  ∀ (f : Snapshot) (c : Fin 4),
    (let budget := f.chains[c].budget
     let records := f.allRecords.filter fun r => r.node.chain == c
     let sum := ((f.drives c).map (drawOf f)).sum
     let after := ((f.budgeted c).map (drawOf f)).sum
     let k := (f.output c).budget
     (f.chains[c].state = .ring ∨ f.chains[c].state = .split →
       f.drives c = records.filterMap f.drive ∧ (∀ r ∈ records, f.deliverable r = none → f.drive r = none) ∧
       (40950 * budget < sum → k = 1000 * (40950 * budget) / sum ∧
         f.budgeted c = (f.drives c).map fun d => { d with duty :=
           { r := d.duty.r * k / 1000, g := d.duty.g * k / 1000, b := d.duty.b * k / 1000 } }) ∧
       (sum ≤ 40950 * budget → k = 1000 ∧ f.budgeted c = f.drives c)) ∧
     1000 * after ≤ sum * k ∧ after ≤ 40950 * budget ∧ k ≤ 1000 ∧
     ((∀ r ∈ records, f.deliverable r = none) → sum = 0 ∧ k = 1000) ∧
     ((f.allRecords.map (·.node)).Nodup → 50 ≤ budget →
       (∀ b : Fin 16, f.bins[b].current.1 ≤ 1000 ∧ f.bins[b].current.2.1 ≤ 1000 ∧ f.bins[b].current.2.2 ≤ 1000) →
       2 ≤ k)) ∧
    ((f.dutySet c).map fun d =>
      match d.duty, placeOf d.position with
      | .live r g b, some k =>
        let i := f.bins[f.chains[c].nodes[k].bin].current
        r * i.1 + g * i.2.1 + b * i.2.2
      | _, _ => 0).sum ≤ 40950 * f.chains[c].budget

/-- What a frame computes, from the cues to the duties. R87, R88: the winner of a layer is the eligible cue of the highest
priority, of equals the one later in post order, and the outgoing cue is the fading cue latest on the retiring list. R44,
R53: the fade envelope in each state and the ramp of the gate envelope. R49 to R52: the effects, at their ends and
between. R38, R39: the colour of a source, and which cues are VOID. R54, R89, R90: the weight of a cue and its
contribution. R91 to R94: over, the layers, and the composite of a zone that is live and of one with a captured composite.
Coverages lie within 0 to 1000. A composite component lies within 0 to 4095 where no layer of the zone has an outgoing
cue; rounding lets it reach 4123 otherwise, which the model follows (DEDUCED, log 44). R95: the trim. R100, R103, R111: a
deliverable record's colour is scaled by the effective level, calibrated by its node's bin and derated by the thermal
factor; a record that is not deliverable has no drive. R108: the calibration, with the clamp of negative values before the
scaling that brings the largest to 4095, and the identity. R110: the thermal factor by the hottest node that is driven and
not overheated. R116: every duty handed to a chain lies within 0 to 4095, every entry is for a position that the chain
holds, in ascending order; the entry of a deliverable record is LIVE with its duties scaled by the budget factor, and an
OFFLINE or overheated node, or one that no zone lists, has a BLANK entry. R110, R114: a frame's results for a chain hold
its thermal factor, and as its current estimate the sum over the budgeted duties over 4095, rounded down. -/
def Obligations.DutySetIsInRange : Prop :=
  (∀ (f : Snapshot) (c : Fin 4),
    (∀ d ∈ f.dutySet c, ∀ r g b, d.duty = .live r g b → r ≤ 4095 ∧ g ≤ 4095 ∧ b ≤ 4095) ∧
      ((f.dutySet c).map (·.position)).IsChain (· < ·) ∧
      (∀ k : Fin 60, (k.val + 1 ∈ (f.dutySet c).map (·.position)) ↔
        f.chains[c].nodes[k].state ≠ .absent ∧ f.chains[c].nodes[k].state ≠ .unreachable) ∧
      300 ≤ f.thermal c ∧ f.thermal c ≤ 1000 ∧ (f.output c).thermal = f.thermal c ∧
      (f.output c).estimate = ((f.budgeted c).map (drawOf f)).sum / 4095 ∧
      (f.output c).estimate ≤ 10 * f.chains[c].budget) ∧
  (∀ (f : Snapshot) (r : Record),
    (let place := f.chains[r.node.chain]
     let level := f.level * f.envelope / 1000
     f.effective = level ∧
     (∀ k : Fin 60, r.node.position = k.val + 1 → place.state = .ring ∨ place.state = .split → place.nodes[k].burns →
       f.deliverable r = some place.nodes[k] ∧
       (let q := f.bins[place.nodes[k].bin].calibrate
          { r := r.colour.r * level / 1000, g := r.colour.g * level / 1000, b := r.colour.b * level / 1000 }
        f.drive r = some { position := k.val + 1, bin := place.nodes[k].bin, duty :=
          { r := q.r * f.thermal r.node.chain / 1000, g := q.g * f.thermal r.node.chain / 1000
            b := q.b * f.thermal r.node.chain / 1000 } })) ∧
     (place.state ≠ .ring ∧ place.state ≠ .split ∨
         (∀ k : Fin 60, r.node.position = k.val + 1 → ¬ place.nodes[k].burns) →
       f.deliverable r = none ∧ f.drive r = none))) ∧
  (∀ (b : Bin) (p : Rgb),
    (let q : Rgb := { r := rowValue b.red p, g := rowValue b.green p, b := rowValue b.blue p }
     let largest := max q.r (max q.g q.b)
     (largest ≤ 4095 → b.calibrate p = q) ∧
     (4095 < largest → b.calibrate p =
       { r := q.r * 4095 / largest, g := q.g * 4095 / largest, b := q.b * 4095 / largest }) ∧
     (b.calibrate p).le 4095 ∧
     (b.red = (1024, 0, 0) → b.green = (0, 1024, 0) → b.blue = (0, 0, 1024) → p.le 4095 → b.calibrate p = p))) ∧
  (∀ (f : Snapshot) (c : Fin 4), f.knee < f.limit →
    (let nodes := f.chains[c].nodes
     ((∀ k : Fin 60, ¬ nodes[k].burns) → f.thermal c = 1000) ∧
     (∀ k : Fin 60, nodes[k].burns → (∀ j : Fin 60, nodes[j].burns → nodes[j].temperature ≤ nodes[k].temperature) →
       (let t := nodes[k].temperature
        (t ≤ f.knee → f.thermal c = 1000) ∧
        (f.knee < t → t < f.limit → (f.thermal c : Int) = 1000 - 700 * (t - f.knee) / (f.limit - f.knee)) ∧
        (f.limit ≤ t → f.thermal c = 300))))) ∧
  (∀ (f : Snapshot) (c : Fin 4) (k : Fin 60),
    (let place := f.chains[c]
     let node : NodeRef := { chain := c, position := k.val + 1 }
     let blank : DutyEntry := { position := k.val + 1, duty := .blank }
     (place.nodes[k].state = .offline → blank ∈ f.dutySet c) ∧
     (place.nodes[k].state = .online ∨ place.nodes[k].state = .suspect →
       (place.nodes[k].flags.overheat = true ∨ (∀ r ∈ f.allRecords, r.node ≠ node) → blank ∈ f.dutySet c) ∧
       (∀ (r : Record) (d : Drive), (f.allRecords.map (·.node)).Nodup → r ∈ f.allRecords → r.node = node →
         f.drive r = some d →
         (let x := (f.output c).budget
          ({ position := k.val + 1
             duty := .live (d.duty.r * x / 1000) (d.duty.g * x / 1000) (d.duty.b * x / 1000) } : DutyEntry) ∈
            f.dutySet c))))) ∧
  (∀ (t : CueTable) (z : Fin 16) (l : Layer) (k : Fin 48),
    (t.postOrder.Nodup →
      (t.winner z l = some k ↔ k ∈ t.postOrder ∧ mayLight t z l k ∧ ∀ j ∈ t.postOrder, j ≠ k → mayLight t z l j →
        t.priority j < t.priority k ∨
          (t.priority j = t.priority k ∧ t.postOrder.idxOf j < t.postOrder.idxOf k))) ∧
    (t.retiring.Nodup →
      (t.outgoing z l = some k ↔ k ∈ t.retiring ∧ fadesFrom t z l k ∧ ∀ j ∈ t.retiring, j ≠ k → fadesFrom t z l j →
        t.retiring.idxOf j < t.retiring.idxOf k))) ∧
  (∀ (period floor offset clock k i : Nat), floor ≤ 1000 → 2 ≤ period → period % 2 = 0 →
    (let e := (Effect.pulse period floor offset).factor clock k i
     let phase := (clock + offset) % period
     let half := period / 2
     e = floor + (1000 - floor) * (if phase < half then phase else period - phase) / half ∧
     floor ≤ e ∧ e ≤ 1000 ∧ (Effect.pulse period floor offset).factor (clock + period) k i = e ∧
     ((clock + offset) % period = 0 → e = floor) ∧ ((clock + offset) % period = period / 2 → e = 1000))) ∧
  (∀ (duration edge clock k i : Nat) (dir : Direction), i < k → 0 < duration →
    (let e := (Effect.sweep duration edge dir).factor clock k i
     let centre := 16 * (match dir with
       | .forward => i
       | .reverse => k - 1 - i) + 8
     let front := 16 * k * min clock duration / duration
     e ≤ 1000 ∧ (duration ≤ clock → e = 1000) ∧ (centre ≤ front → e = 1000) ∧
     (front < centre → front + 16 * edge ≤ centre → e = 0) ∧
     (front < centre → centre < front + 16 * edge → e = 1000 * (16 * edge - (centre - front)) / (16 * edge)))) ∧
  (∀ (a b : Rgb) (clock k i : Nat) (dir : Direction), i < k →
    (Effect.gradient dir).factor clock k i = 1000 ∧ Effect.solid.factor clock k i = 1000 ∧
    (i = 0 → 2 ≤ k → (Effect.gradient dir).colour a b k i = if dir = .forward then a else b) ∧
    (i + 1 = k → 2 ≤ k → (Effect.gradient dir).colour a b k i = if dir = .forward then b else a) ∧
    (k = 1 → (Effect.gradient dir).colour a b k i = if dir = .forward then a else b) ∧
    (2 ≤ k → (Effect.gradient dir).colour a b k i =
      (let x := if dir = .forward then a else b
       let y := if dir = .forward then b else a
       { r := (x.r * (k - 1 - i) + y.r * i) / (k - 1), g := (x.g * (k - 1 - i) + y.g * i) / (k - 1)
         b := (x.b * (k - 1 - i) + y.b * i) / (k - 1) })) ∧
    (∀ e : Effect, e.isGradient = false → e.colour a b k i = a) ∧
    (a.le 4095 → b.le 4095 → ((Effect.gradient dir).colour a b k i).le 4095)) ∧
  (∀ c : Cue,
    (∀ x, c.phase = .fadingIn x → c.fadeEnvelope = 1000 * x / c.desc.fadeIn) ∧
    (c.phase = .steady → c.fadeEnvelope = 1000) ∧
    (∀ x exit start, c.phase = .fadingOut x exit start → c.fadeEnvelope = start * (exit - x) / exit) ∧
    (c.gateRun = none → c.gateEnvelope = 1000) ∧
    (∀ g, c.gateRun = some g →
      (g.opened = true → c.gateEnvelope =
        if c.desc.fadeIn = 0 then 1000 else min 1000 (g.start + 1000 * g.elapsed / c.desc.fadeIn)) ∧
      (g.opened = false → c.gateEnvelope =
        if c.desc.fadeOut = 0 then 0 else g.start - 1000 * g.elapsed / c.desc.fadeOut))) ∧
  (∀ (c : Cue) (pal : Vector PaletteEntry 32) (k i : Nat),
    (c.void pal = true ↔ NamesUndefined c.desc.a pal ∨
      c.desc.effect.isGradient = true ∧ ∃ b, c.desc.b = some b ∧ NamesUndefined b pal) ∧
    (∀ a, SourceGives c.desc.a pal a →
      (c.desc.effect.isGradient = false → c.colourAt pal k i = a) ∧
      (∀ x b, c.desc.b = some x → SourceGives x pal b → c.colourAt pal k i = c.desc.effect.colour a b k i))) ∧
  (∀ (c : Cue) (pal : Vector PaletteEntry 32) (k i : Nat),
    (let w := c.desc.intensity * c.desc.effect.factor c.clock k i / 1000 * c.fadeEnvelope / 1000 * c.gateEnvelope / 1000
     (c.levelsOk = true → w ≤ 1000) ∧
     (c.void pal = true → c.contribution pal k i = { colour := { r := 0, g := 0, b := 0 }, coverage := 0 }) ∧
     (c.void pal = false → (c.contribution pal k i).coverage = w ∧
       (c.contribution pal k i).colour.r = (c.colourAt pal k i).r * w / 1000 ∧
       (c.contribution pal k i).colour.g = (c.colourAt pal k i).g * w / 1000 ∧
       (c.contribution pal k i).colour.b = (c.colourAt pal k i).b * w / 1000))) ∧
  (∀ top bottom : Comp, top.coverage ≤ 1000 → top.over bottom =
    { colour :=
        { r := top.colour.r + bottom.colour.r * (1000 - top.coverage) / 1000
          g := top.colour.g + bottom.colour.g * (1000 - top.coverage) / 1000
          b := top.colour.b + bottom.colour.b * (1000 - top.coverage) / 1000 }
      coverage := top.coverage + bottom.coverage * (1000 - top.coverage) / 1000 }) ∧
  (∀ top bottom : Comp, 1000 * top.colour.r ≤ 4095 * top.coverage → 1000 * top.colour.g ≤ 4095 * top.coverage →
    1000 * top.colour.b ≤ 4095 * top.coverage → top.coverage ≤ 1000 → bottom.colour.le 4095 →
    bottom.coverage ≤ 1000 →
    (top.over bottom).colour.le 4095 ∧ (top.over bottom).coverage ≤ 1000 ∧ top.coverage ≤ (top.over bottom).coverage ∧
      (top.coverage = 1000 → top.over bottom = top)) ∧
  (∀ (t : CueTable) (pal : Vector PaletteEntry 32) (z : Fin 16) (k i : Nat), i < k → ReadsInRange t pal →
    (let layer : Layer → Comp := fun l => (contributionOf (t.chosen (t.winner z l)) pal k i).over
       (contributionOf (t.chosen (t.outgoing z l)) pal k i)
     compositeAt t pal z k i = (layer .alert).over ((layer .accent).over ((layer .theme).over ((layer .foundation).over
       { colour := { r := 0, g := 0, b := 0 }, coverage := 0 })))) ∧
    (compositeAt t pal z k i).coverage ≤ 1000 ∧ (compositeAt t pal z k i).colour.le 4123 ∧
    ((∀ l, t.outgoing z l = none) → (compositeAt t pal z k i).colour.le 4095)) ∧
  (∀ (t : CueTable) (pal : Vector PaletteEntry 32) (k i : Nat),
    contributionOf (t.chosen none) pal k i = { colour := { r := 0, g := 0, b := 0 }, coverage := 0 } ∧
    ∀ (j : Fin 48) (c : Cue), t.slots[j].cue = some c →
      contributionOf (t.chosen (some j)) pal k i = c.contribution pal k i) ∧
  (∀ (f : Snapshot) (z : Fin 16),
    (∀ l, f.zones[z].hold = .captured l → f.composite z = l) ∧
    ((∀ l, f.zones[z].hold ≠ .captured l) → f.composite z =
      (List.range f.zones[z].nodes.length).map fun i =>
        compositeAt f.cues f.palette z f.zones[z].nodes.length i) ∧
    (f.records z).length = min (f.zones[z].nodes.length) (f.composite z).length ∧
    ∀ r, r ∈ f.allRecords ↔ ∃ y : Fin 16, r ∈ f.records y) ∧
  (∀ (f : Snapshot) (z : Fin 16) (n : Nat) (node : NodeRef) (c : Comp), f.zones[z].nodes[n]? = some node →
    (f.composite z)[n]? = some c →
    (f.records z)[n]? = some { node := node, colour :=
      { r := c.colour.r * f.zones[z].trim / 1000, g := c.colour.g * f.zones[z].trim / 1000
        b := c.colour.b * f.zones[z].trim / 1000 } })

/-- R80, R82, R102, R118: a running frame timer expires with no frame in flight. The next interval is scheduled at the
period in force, the level moves toward its target by at most the slew, and the frame's snapshot is of this moment.
R176: where step 6 of the entry to LIT still waits for the snapshot, whether a frame is in flight or not, the wake start is
made after it, with the effect that R177 gives a WAKE edge in LIT, and the frame is without it (that a wake start may wait so
is DEDUCED, log 10). -/
def Obligations.FrameTimerBeginsAFrame : Prop :=
  (∀ (s : State) (interval : Nat), s.resetLow = false → s.composer.timer = some interval → s.composer.frame = none →
     (s.power.state = .lit → s.power.pendingWake = false) →
     ∃ t f, exec .frameTimerExpiry s = .next t ∧ t.composer.timer = some s.composer.period ∧
       t.composer.frame = some f ∧ t.composer.latest = s.composer.latest ∧ t.composer.period = s.composer.period ∧
       (let target := curveLevelOf s.cond.curve s.cond.lux * s.cond.master / 1000
        t.cond.level =
          if s.cond.level < target then min target (s.cond.level + s.cond.slew)
          else max target (s.cond.level - s.cond.slew)) ∧
       t.cond = { s.cond with level := t.cond.level, perChain := t.cond.perChain } ∧
       (∀ i : Fin 4, t.cond.perChain[i] =
         if s.chains[i].mode.state = .ring ∨ s.chains[i].mode.state = .split then s.cond.perChain[i]
         else { thermal := 1000, budget := 1000, estimate := 0 }) ∧
       (∀ z : Fin 16, t.zones[z] = { s.zones[z] with hold := match s.zones[z].hold with
         | .pending => .captured ((s.composer.latest[z]).getD
             (s.zones[z].nodes.map fun _ => { colour := { r := 0, g := 0, b := 0 }, coverage := 0 }))
         | hold => hold }) ∧
       f.discarded = 0 ∧ f.left = 0 ∧ f.snap.cues = s.cues ∧ f.snap.palette = s.palette ∧ f.snap.zones = t.zones ∧
       f.snap.level = t.cond.level ∧ f.snap.envelope = s.power.envelope ∧ f.snap.bins = s.cond.bins ∧
       f.snap.knee = s.cond.knee ∧ f.snap.limit = s.cond.limit ∧
       (∀ i : Fin 4, f.snap.chains[i] =
         { state := s.chains[i].mode.state, budget := s.chains[i].budget, nodes := s.chains[i].nodes }) ∧
       OnlyChanges [.zones, .composer, .cond] s t) ∧
  ∀ (s : State) (interval : Nat), s.resetLow = false → s.composer.timer = some interval → s.power.state = .lit →
    s.power.pendingWake = true →
    ∃ u t, exec .frameTimerExpiry (withoutWake s) = .next u ∧ exec .wakeRisingEdge u = .next t ∧
      exec .frameTimerExpiry s = .next t ∧ t.composer = u.composer

/-- R85, R115, R117: a frame completes. The composite of each zone whose record was not discarded since becomes its
latest; each chain that was driven at the snapshot and has not left its state since has its set in the mailbox and the
frame's results in its fields: the thermal factor, the budget factor and the current estimate (R110, R113, R114); every
other chain is as it was. A factor that was 1000 and is less now raises THERMAL_LIMIT or BUDGET_LIMIT with a tenth of it,
in the order of the chains. -/
def Obligations.FrameCompletionRecordsAndDelivers : Prop :=
  ∀ (s : State) (f : Frame), s.resetLow = false → s.composer.frame = some f →
    ∃ t, exec .frameCompletion s = .next t ∧ t.composer.frame = none ∧ t.composer.timer = s.composer.timer ∧
      t.composer.period = s.composer.period ∧
      (∀ z : Fin 16, t.composer.latest[z] =
        if f.discarded.getLsbD z then s.composer.latest[z] else some (f.snap.composite z)) ∧
      (∀ i : Fin 4, ((f.snap.chains[i].state = .ring ∨ f.snap.chains[i].state = .split) ∧ f.left.getLsbD i = false →
          t.chains[i] = { s.chains[i] with mailbox := some (f.snap.dutySet i) } ∧
            t.cond.perChain[i] =
              { thermal := f.snap.thermal i, budget := (f.snap.output i).budget
                estimate := ((f.snap.budgeted i).map (drawOf f.snap)).sum / 4095 }) ∧
        (¬ ((f.snap.chains[i].state = .ring ∨ f.snap.chains[i].state = .split) ∧ f.left.getLsbD i = false) →
          t.chains[i] = s.chains[i] ∧ t.cond.perChain[i] = s.cond.perChain[i])) ∧
      ((∀ i : Fin 4, s.cond.perChain[i].thermal ≠ 1000 ∧ s.cond.perChain[i].budget ≠ 1000) →
        t.notices = s.notices ∧ t.noticeLow = s.noticeLow) ∧
      (s.notices.list.length ≤ 8 →
        t.notices = (List.finRange 4).foldl (limitNotices f s.cond.perChain) s.notices) ∧
      (t.notices = s.notices ∨ (t.noticeLow = true ↔ lineLow t.notices)) ∧
      t.cond = { s.cond with perChain := t.cond.perChain } ∧
      OnlyChanges [.composer, .cond, .chains, .notices, .noticeLow] s t

/-! ## LampRing chains (chapter 7) -/

/-- R123: CONFIGURE_CHAIN replaces the fields that its mask names, brought into range, and no other; the reply carries the
record, and its status is CLAMPED where a named value was altered. The expected count, the rate policy or the enabled
field of a chain that is not OFF is BUSY. That fields the mask does not name are not tested is the model's reading
(DEDUCED, log 36). Section 7.6, R141: in SPLIT a change of the rejoin mode to AUTO starts the restore timer, in any phase
of SPLIT, and one away from AUTO stops it, an expired one too (DEDUCED, log 16). The codes of the enabled field, the rate
policy and the rejoin mode are read as log 6 numbers them (PRESUMED). That bit 0 of the mask is the first field, the
enabled field, and bit 6 the last is the model's reading of 11.6 (DEDUCED, log 49). A chain code above 3 and a named code
that names no value are BAD_VALUE, and so are a mask bit that names no field (R197) and a result that leaves the chain
enabled with an expected count of 0. That the enabled code and the mask bit are tested before BUSY is the model's choice
(DESIGN CHOICE, log 42). -/
def Obligations.ConfigureChainReplacesNamedFields : Prop :=
  (∀ (h : Header) (chain : Byte) (r : RawChainConfig) (s : State), Reaches .configuring h s → h.plain = true →
    3 < chain.toNat ∨ r.mask.getLsbD 7 = true ∨ r.mask.getLsbD 0 = true ∧ 1 < r.enabled.toNat ∨
      r.mask.getLsbD 2 = true ∧ 1 < r.ratePolicy.toNat ∨ r.mask.getLsbD 3 = true ∧ 2 < r.rejoin.toNat →
    ∃ t, exec (.configureChain h chain r) s = .next t ∧ Answers s t h .badValue .empty ∧
      OnlyChanges [.reply, .sdo] s t) ∧
  ∀ (h : Header) (chain : Byte) (i : Fin 4) (r : RawChainConfig) (enabled : Bool) (policy : RatePolicy)
    (rejoin : Rejoin) (s : State), Reaches .configuring h s → h.plain = true → chain.toNat = i.val →
    r.mask.getLsbD 7 = false →
    (if r.mask.getLsbD 0 then r.enabled.toNat = (if enabled then 1 else 0) else enabled = s.chains[i].enabled) →
    (if r.mask.getLsbD 2 then r.ratePolicy.toNat = (match policy with
       | .auto => 0
       | .slowOnly => 1) else policy = s.chains[i].ratePolicy) →
    (if r.mask.getLsbD 3 then r.rejoin.toNat = (match rejoin with
       | .auto => 0
       | .manual => 1
       | .halt => 2) else rejoin = s.chains[i].rejoin) →
    ((r.mask.getLsbD 0 || r.mask.getLsbD 1 || r.mask.getLsbD 2) = true → s.chains[i].mode ≠ .off →
      ∃ t, exec (.configureChain h chain r) s = .next t ∧ Answers s t h .busy .empty ∧
        OnlyChanges [.reply, .sdo] s t) ∧
    (((r.mask.getLsbD 0 || r.mask.getLsbD 1 || r.mask.getLsbD 2) = true → s.chains[i].mode = .off) →
      enabled = true ∧ (if r.mask.getLsbD 1 then r.expected.toNat else s.chains[i].expected) = 0 →
      ∃ t, exec (.configureChain h chain r) s = .next t ∧ Answers s t h .badValue .empty ∧
        OnlyChanges [.reply, .sdo] s t) ∧
    (((r.mask.getLsbD 0 || r.mask.getLsbD 1 || r.mask.getLsbD 2) = true → s.chains[i].mode = .off) →
      (enabled = true →
        (if r.mask.getLsbD 1 then min 60 r.expected.toNat else s.chains[i].expected) ≠ 0) →
      ∃ t, exec (.configureChain h chain r) s = .next t ∧
        Answers s t h (doneStatus (decide (
          (r.mask.getLsbD 1 = true ∧ 60 < r.expected.toNat) ∨ (r.mask.getLsbD 4 = true ∧ 12 < r.retryLimit.toNat) ∨
          (r.mask.getLsbD 5 = true ∧ (r.budget.toNat < 50 ∨ 3000 < r.budget.toNat)) ∨
          (r.mask.getLsbD 6 = true ∧ (r.restoreInterval.toNat < 250 ∨ 5000 < r.restoreInterval.toNat)))))
          (.chainRecord t.chains[i].record) ∧
        (let c := s.chains[i]
         t.chains[i] = { c with
           enabled := enabled
           expected := if r.mask.getLsbD 1 then min 60 r.expected.toNat else c.expected
           ratePolicy := policy
           rejoin := rejoin
           retryLimit := if r.mask.getLsbD 4 then min 12 r.retryLimit.toNat else c.retryLimit
           budget := if r.mask.getLsbD 5 then max 50 (min 3000 r.budget.toNat) else c.budget
           restoreInterval :=
             if r.mask.getLsbD 6 then max 250 (min 5000 r.restoreInterval.toNat) else c.restoreInterval
           mode := t.chains[i].mode } ∧
         ((∀ x, c.mode ≠ .split x) ∨ rejoin = c.rejoin → t.chains[i].mode = c.mode) ∧
         (∀ x, c.mode = .split x → rejoin ≠ c.rejoin → rejoin = .auto →
           t.chains[i].mode = .split { x with restore := .running t.chains[i].restoreInterval }) ∧
         (∀ x, c.mode = .split x → c.rejoin = .auto → rejoin ≠ .auto →
           t.chains[i].mode = .split { x with restore := .stopped })) ∧
        OnlyChain i s t ∧ OnlyChanges [.chains, .reply, .sdo] s t)

/-- R124, R126: START_CHAIN of an OFF chain and RESTART_CHAIN of any chain, in LIT with an expected count. A restart of a
chain that is not OFF sends its SLEEP frames first. R125: STOP_CHAIN in LIT clears the enabled field; a chain that is not
OFF enters OFF with its mailbox empty and its two SLEEP frames sent, and keeps its node table, found count and break.
Outside LIT all three are WRONG_STATE. An expected count of 0 is BAD_VALUE, and so is a chain code above 3; that STOP and
RESTART test the code before the power state is the model's reading (DEDUCED, log 32). That a stop of a chain in RING
keeps its OUT run is the model's choice (DESIGN CHOICE, log 46). -/
def Obligations.StartStopAndRestartChain : Prop :=
  (∀ (h : Header) (chain : Byte) (i : Fin 4) (s : State), Reaches .configuring h s → h.plain = true →
     chain.toNat = i.val → s.power.state = .lit → s.chains[i].expected ≠ 0 →
     (s.chains[i].mode = .off →
       (∃ t, exec (.startChain h chain) s = .next t ∧ Answers s t h .ok .empty ∧
         t.chains[i] = startedChain s.chains[i] ∧ OnlyChain i s t ∧ outputInitial i s t ∧ onlyMarks i s t ∧
         OnlyChanges [.chains, .cond, .composer, .reply, .sdo] s t) ∧
       (∃ t, exec (.restartChain h chain) s = .next t ∧ Answers s t h .ok .empty ∧
         t.chains[i] = startedChain s.chains[i] ∧ OnlyChain i s t ∧ outputInitial i s t ∧ onlyMarks i s t ∧
         OnlyChanges [.chains, .cond, .composer, .reply, .sdo] s t)) ∧
     (s.chains[i].mode ≠ .off →
       (∃ t, exec (.startChain h chain) s = .next t ∧ Answers s t h .busy .empty ∧ OnlyChanges [.reply, .sdo] s t) ∧
       (∃ t, exec (.restartChain h chain) s = .next t ∧ Answers s t h .ok .empty ∧
         t.chains[i] = startedChain { s.chains[i] with sent := sleepSent s.chains[i] } ∧ OnlyChain i s t ∧
         outputInitial i s t ∧ onlyMarks i s t ∧ OnlyChanges [.chains, .cond, .composer, .reply, .sdo] s t))) ∧
  (∀ (h : Header) (chain : Byte) (i : Fin 4) (s : State), Reaches .configuring h s → h.plain = true →
     chain.toNat = i.val →
     (s.power.state = .lit → s.chains[i].mode ≠ .off →
       ∃ t, exec (.stopChain h chain) s = .next t ∧ Answers s t h .ok .empty ∧
         t.chains[i] = { s.chains[i] with enabled := false, mailbox := none, mode := .off,
                                          sent := sleepSent s.chains[i] } ∧
         OnlyChain i s t ∧ onlyMarks i s t ∧ OnlyChanges [.chains, .composer, .reply, .sdo] s t) ∧
     (s.power.state = .lit → s.chains[i].mode = .off →
       ∃ t, exec (.stopChain h chain) s = .next t ∧ Answers s t h .ok .empty ∧
         t.chains[i] = { s.chains[i] with enabled := false } ∧ OnlyChain i s t ∧
         OnlyChanges [.chains, .reply, .sdo] s t) ∧
     (s.power.state ≠ .lit →
       ∃ t, exec (.stopChain h chain) s = .next t ∧ Answers s t h .wrongState .empty ∧ OnlyChanges [.reply, .sdo] s t)) ∧
  (∀ (h : Header) (chain : Byte) (s : State), Reaches .configuring h s → h.plain = true →
     (let refuses : Status → Instr → Prop := fun status c =>
        ∃ t, exec c s = .next t ∧ Answers s t h status .empty ∧ OnlyChanges [.reply, .sdo] s t
      (3 < chain.toNat → refuses .badValue (.startChain h chain) ∧ refuses .badValue (.stopChain h chain) ∧
        refuses .badValue (.restartChain h chain)) ∧
      (∀ i : Fin 4, chain.toNat = i.val →
        (s.power.state ≠ .lit → refuses .wrongState (.startChain h chain) ∧
          refuses .wrongState (.restartChain h chain)) ∧
        (s.power.state = .lit → s.chains[i].expected = 0 → refuses .badValue (.restartChain h chain) ∧
          (s.chains[i].mode = .off → refuses .badValue (.startChain h chain)))))) ∧
  (∀ e : End, sleepFrame e = { header := headerOf .sleep e 0 0, slots := [] })

/-- R127, R128: REJOIN_NODE puts an OFFLINE record of a driven chain under MANUAL into SUSPECT with its counts at 0, and
is WRONG_STATE otherwise; READ_CHAIN reports the record, the factors, the mailbox and up to 16 node records, and changes
nothing. A chain code above 3, and a position of 0 or above 60, is BAD_VALUE for both. -/
def Obligations.RejoinNodeAndReadChain : Prop :=
  (∀ (h : Header) (chain position : Byte) (s : State), h.plain = true →
    3 < chain.toNat ∨ position.toNat = 0 ∨ 60 < position.toNat →
    (Reaches .configuring h s → ∃ t, exec (.rejoinNode h chain position) s = .next t ∧
      Answers s t h .badValue .empty ∧ OnlyChanges [.reply, .sdo] s t) ∧
    (Reaches .open_ h s → ∃ t, exec (.readChain h chain position) s = .next t ∧
      Answers s t h .badValue .empty ∧ OnlyChanges [.reply, .sdo] s t)) ∧
  ∀ (h : Header) (chain position : Byte) (i : Fin 4) (k : Fin 60) (s : State), h.plain = true →
    chain.toNat = i.val → position.toNat = k.val + 1 →
    (Reaches .configuring h s →
      (((s.chains[i].mode.state = .ring ∨ s.chains[i].mode.state = .split) ∧ s.chains[i].rejoin = .manual ∧
          s.chains[i].nodes[k].state = .offline →
        ∃ t, exec (.rejoinNode h chain position) s = .next t ∧ Answers s t h .ok .empty ∧
          t.chains[i].nodes[k] = { s.chains[i].nodes[k] with state := .suspect, badReplies := 0, goodRun := 0 } ∧
          (∀ j : Fin 60, j ≠ k → t.chains[i].nodes[j] = s.chains[i].nodes[j]) ∧
          t.chains[i] = { s.chains[i] with nodes := t.chains[i].nodes } ∧ OnlyChain i s t ∧
          OnlyChanges [.chains, .reply, .sdo] s t) ∧
       (¬ ((s.chains[i].mode.state = .ring ∨ s.chains[i].mode.state = .split) ∧ s.chains[i].rejoin = .manual ∧
          s.chains[i].nodes[k].state = .offline) →
        ∃ t, exec (.rejoinNode h chain position) s = .next t ∧ Answers s t h .wrongState .empty ∧
          OnlyChanges [.reply, .sdo] s t))) ∧
    (Reaches .open_ h s →
      ∃ t r, exec (.readChain h chain position) s = .next t ∧ Answers s t h .ok (.chain r) ∧
        (let c := s.chains[i]
         r.record =
           { enabled := c.enabled, expected := c.expected, ratePolicy := c.ratePolicy, rejoin := c.rejoin
             retryLimit := c.retryLimit, budget := c.budget, restoreInterval := c.restoreInterval
             state := c.mode.state, rate := c.rate, found := c.found, brk := c.brk, runOut := c.runOut
             runIn := c.runIn, retries := c.retries, switches := c.switches }) ∧
        r.output = s.cond.perChain[i] ∧ r.waiting = s.chains[i].mailbox.isSome ∧
        r.nodes.length = min 16 (60 - k.val) ∧ (r.nodes.map (·.position)).IsChain (· < ·) ∧
        (∀ n : NodeReport, n ∈ r.nodes ↔
          ∃ j : Fin 60, k ≤ j ∧ j.val < k.val + 16 ∧ n = { position := j.val + 1, node := s.chains[i].nodes[j] }) ∧
        OnlyChanges [.reply, .sdo] s t)

/-- R129: COUNT in STARTING. A good COUNT whose number lies in 1 to 60 sets the found count, puts those records in SUSPECT
and is followed by IDENT, with COUNT_MISMATCH where the number differs from the expected count. A lost COUNT that is not
the third in a row is sent again; the third at FAST falls to SLOW and raises RATE_SLOW; the third at SLOW enters LOCATING
under AUTO and MANUAL (R135), and FAILED under HALT. A frame that is not clean, or whose slot check fails, is as a lost
one. A count of 0 goes straight to RING; one above 60 fails the chain with COUNT_MISMATCH (61). The last three are stated
outside POWERING, where nobody awaits the arrival. R121, R198, 11.5: the header of a frame and its check, when a returned
frame is clean (that one with another number of slots is not is DEDUCED, log 29), the slot of a COUNT, and when a slot
check holds. The mark ringDone that the arrival in RING sets is the model's own (DESIGN CHOICE, log 15). -/
def Obligations.CountAtAStart : Prop :=
  (∀ (kind : RingKind) (e : End) (hop slots : Nat), hop ≤ 60 → slots ≤ 60 →
    HeaderReads (headerOf kind e hop slots) kind e slots ∧
      ((headerOf kind e hop slots).extractLsb' 14 6).toNat = hop) ∧
  (∀ (f : RingFrame) (kind : RingKind) (e : End) (slots : Nat), slots ≤ 60 →
    (frameClean f kind e slots = true ↔ HeaderReads f.header kind e slots ∧ f.slots.length = slots)) ∧
  (∀ (e : End) (hop position : Nat), position ≤ 255 → ∃ x : BitVec 48,
    countFrame e hop position = { header := headerOf .count e hop 1, slots := [x] } ∧ Checked x ∧
      (x.extractLsb' 40 8).toNat = position ∧ (x.getLsbD 39 = true ↔ e = .inn) ∧ x.extractLsb' 8 31 = 0) ∧
  (∀ x : BitVec 48, slotHolds x = true ↔ Checked x) ∧
  ∀ (i : Fin 4) (failures : Nat) (s : State), s.resetLow = false → s.chains[i].mode = .counting failures →
    s.notices.list.length ≤ 8 →
    (∀ n : Nat, 1 ≤ n → n ≤ 60 →
      ∃ t, exec (.countReturned i (countFrame .out 0 (n + 1))) s = .next t ∧
        t.chains[i].found = n ∧ t.chains[i].mode = .identifying 1 0 (List.range' 1 n) ∧
        (∀ k : Fin 60, t.chains[i].nodes[k] =
          if k.val < n then { s.chains[i].nodes[k] with state := .suspect } else s.chains[i].nodes[k]) ∧
        t.chains[i].sent = { sender := .out, frame := identFrame .out 0 n } :: s.chains[i].sent ∧
        t.chains[i] = { s.chains[i] with found := n, mode := t.chains[i].mode, nodes := t.chains[i].nodes,
                                         sent := t.chains[i].sent } ∧
        OnlyChain i s t ∧
        (n = s.chains[i].expected → t.notices = s.notices ∧ t.noticeLow = s.noticeLow) ∧
        (n ≠ s.chains[i].expected → t.notices = s.notices.after .countMismatch (.chain i) (.number n)) ∧
        OnlyChanges [.chains, .notices, .noticeLow] s t) ∧
    (failures < 2 →
      ∃ t, exec (.countLost i) s = .next t ∧
        t.chains[i] = { s.chains[i] with
          retries := min 65535 (s.chains[i].retries + 1), mode := .counting (failures + 1)
          sent := { sender := .out, frame := countFrame .out 0 1 } :: s.chains[i].sent } ∧
        OnlyChain i s t ∧ OnlyChanges [.chains] s t) ∧
    (2 ≤ failures → s.chains[i].rate = .fast →
      ∃ t, exec (.countLost i) s = .next t ∧
        t.chains[i] = { s.chains[i] with
          retries := min 65535 (s.chains[i].retries + 1), rate := .slow, mode := .counting 0
          sent := { sender := .out, frame := countFrame .out 0 1 } :: s.chains[i].sent } ∧
        OnlyChain i s t ∧ t.notices = s.notices.after .chainState (.chain i) (.chain .rateSlow) ∧
        OnlyChanges [.chains, .notices, .noticeLow] s t) ∧
    (2 ≤ failures → s.chains[i].rate = .slow →
      (let c := { s.chains[i] with retries := min 65535 (s.chains[i].retries + 1) }
       (c.rejoin ≠ .halt → ∃ t, exec (.countLost i) s = .next t ∧ LocatesFromStart i c s t) ∧
       (c.rejoin = .halt → s.power.state ≠ .powering →
         ∃ t, exec (.countLost i) s = .next t ∧ FailsFromStart i c s.notices s t))) ∧
    (∀ f : RingFrame, (frameClean f .count .out 1 = true → ∀ x ∈ f.slots, slotHolds x = false) →
      exec (.countReturned i f) s = exec (.countLost i) s) ∧
    (s.power.state ≠ .powering →
      (∃ t, exec (.countReturned i (countFrame .out 0 1)) s = .next t ∧
        t.chains[i] = { s.chains[i] with found := 0, mode := .ring none, ringDone := true } ∧
        t.notices = (if s.chains[i].expected = 0 then s.notices
          else s.notices.after .countMismatch (.chain i) (.number 0)) ∧
        OnlyChain i s t ∧ onlyMarks i s t ∧ OnlyChanges [.chains, .composer, .notices, .noticeLow] s t) ∧
      (∀ n, 61 ≤ n → n ≤ 254 →
        ∃ t, exec (.countReturned i (countFrame .out 0 (n + 1))) s = .next t ∧
          FailsFromStart i s.chains[i] (s.notices.after .countMismatch (.chain i) (.number 61)) s t))

/-- R130: IDENT in STARTING outside POWERING. A clean frame whose every slot is good reads every bin, brings every counted
record ONLINE and the chain into RING. A lost frame that is not the third is sent again, and so is one that leaves a node
unread: its good slots give their nodes' bins, each other adds 1 to the retries total. That a frame sent again asks every
node, so that its bad slot of a node read before adds 1 too, its good one reads that bin again, and a node once read stays
read, is the model's reading (DEDUCED, log 30). A frame that is not clean is as a lost one (R121; one with another number
of slots: DEDUCED, log 29). Three lost frames enter LOCATING under AUTO and MANUAL (R135), and FAILED under HALT. Of three
frames of which some was clean, the nodes never read are OFFLINE with bin 0 (their good-reply run at 0, R133) and raise
NODE_FAULT; that the notices come in ascending order of position, which R130 leaves open, is the model's reading (DEDUCED,
log 14). The others are then ONLINE and the chain is in RING, or has FAILED under HALT. The mark ringDone that the arrival
in RING sets is the model's own (DESIGN CHOICE, log 15). 11.5: an IDENT goes out with zero slots; a reply slot is good when
its check holds and it was overwritten, and gives the bin. -/
def Obligations.IdentAtAStart : Prop :=
  (∃ blank : BitVec 48, Checked blank ∧ blank.extractLsb' 8 40 = 0 ∧
    (∀ (e : End) (hop slots : Nat), identFrame e hop slots =
      { header := headerOf .ident e hop slots, slots := List.replicate slots blank }) ∧
    (∀ x : BitVec 48, goodIdentReply x = true ↔ Checked x ∧ x ≠ blank) ∧
    ∀ x : BitVec 48, (slotBin x).val = (x.extractLsb' 27 4).toNat) ∧
  ∀ (i : Fin 4) (sent lost : Nat) (unread : List Nat) (s : State), s.resetLow = false →
    s.chains[i].mode = .identifying sent lost unread → lost < sent → sent ≤ 3 → s.chains[i].found ≤ 60 →
    (∀ p ∈ unread, 1 ≤ p ∧ p ≤ s.chains[i].found) →
    (∀ f : RingFrame, frameClean f .ident .out s.chains[i].found = true → (∀ x ∈ f.slots, goodIdentReply x = true) →
      s.power.state ≠ .powering →
      ∃ t, exec (.identReturned i f) s = .next t ∧ t.chains[i].mode = .ring none ∧ t.chains[i].ringDone = true ∧
        (∀ (k : Fin 60) (x : BitVec 48), k.val < s.chains[i].found → f.slots[k.val]? = some x →
          t.chains[i].nodes[k] = { s.chains[i].nodes[k] with bin := slotBin x, state := .online }) ∧
        (∀ k : Fin 60, s.chains[i].found ≤ k.val → t.chains[i].nodes[k] = s.chains[i].nodes[k]) ∧
        t.chains[i] = { s.chains[i] with mode := .ring none, ringDone := true, nodes := t.chains[i].nodes } ∧
        OnlyChain i s t ∧ onlyMarks i s t ∧ OnlyChanges [.chains, .composer] s t) ∧
    (unread ≠ [] → sent < 3 →
      ∃ t, exec (.identLost i) s = .next t ∧
        t.chains[i] = { s.chains[i] with
          retries := min 65535 (s.chains[i].retries + 1), mode := .identifying (sent + 1) (lost + 1) unread
          sent := { sender := .out, frame := identFrame .out 0 s.chains[i].found } :: s.chains[i].sent } ∧
        OnlyChain i s t ∧ OnlyChanges [.chains] s t) ∧
    (∀ f : RingFrame, frameClean f .ident .out s.chains[i].found = false →
      exec (.identReturned i f) s = exec (.identLost i) s) ∧
    (∀ f : RingFrame, frameClean f .ident .out s.chains[i].found = true → sent < 3 → unreadAfter unread f ≠ [] →
      ∃ t, exec (.identReturned i f) s = .next t ∧
        t.chains[i] = { binsRead s.chains[i] f with
          mode := .identifying (sent + 1) lost (unreadAfter unread f)
          sent := { sender := .out, frame := identFrame .out 0 s.chains[i].found } :: s.chains[i].sent } ∧
        OnlyChain i s t ∧ OnlyChanges [.chains] s t) ∧
    (sent = 3 → s.notices.list.length ≤ 8 →
      (let c := { s.chains[i] with retries := min 65535 (s.chains[i].retries + 1) }
       (lost = 2 → c.rejoin ≠ .halt → ∃ t, exec (.identLost i) s = .next t ∧ LocatesFromStart i c s t) ∧
       (s.power.state ≠ .powering →
         (lost = 2 → c.rejoin = .halt → ∃ t, exec (.identLost i) s = .next t ∧ FailsFromStart i c s.notices s t) ∧
         (lost < 2 → unread ≠ [] → ∃ t, exec (.identLost i) s = .next t ∧ EndsUnread i c unread s t) ∧
         (∀ f : RingFrame, frameClean f .ident .out s.chains[i].found = true → unreadAfter unread f ≠ [] →
           ∃ t, exec (.identReturned i f) s = .next t ∧
             EndsUnread i (binsRead s.chains[i] f) (unreadAfter unread f) s t))))

/-- R175, R176: an awaited chain arrives in POWERING. It leaves the awaited set, and the last one to leave it lights the
part: the ramp starts from 0, the level is at its target, every latest composite is discarded, the frame timer is due, and
POWER_STATE (LIT) is raised with the path's cause. R96: no frame is then in flight; one left from before has completed
(DEDUCED, log 41). Step 6 of the entry (R176): where no welcome is armed, a pending wake start is cleared; that this is in
the same taking is the model's reading (DEDUCED, log 10). Where one is armed, the wake start is made at once or waits for the
first snapshot, as the order of the two falls (a free value, UNVERIFIED, log 10). The arrivals: a chain whose
loop holds no node goes straight to RING, with COUNT_MISMATCH (0) first, since an awaited chain expects a node (R119); a
clean IDENT with every slot good brings a chain to RING; the clean IDENT of its last side brings one to SPLIT; the third
COUNT lost at SLOW under HALT, and a COUNT of more than 60 nodes, bring one to FAILED. The mark ringDone that the arrival
in RING sets is the model's own (DESIGN CHOICE, log 15). -/
def Obligations.LastArrivalEntersLit : Prop :=
  ∀ (i : Fin 4) (cause : PathCause) (s : State), s.resetLow = false → s.power.state = .powering →
    s.power.awaited.getLsbD i = true → s.power.cause = some cause →
    s.notices.list.length ≤ 8 →
    (let c := s.chains[i]
     let failed (n : Notices) : Notices := n.after .chainState (.chain i) (.chain .failed)
     (∀ failures, c.mode = .counting failures →
       (c.expected ≠ 0 →
         ∃ t, exec (.countReturned i (countFrame .out 0 1)) s = .next t ∧ t.chains[i].mode = .ring none ∧
           ArrivesInPowering i cause (s.notices.after .countMismatch (.chain i) (.number 0)) s t) ∧
       (2 ≤ failures → c.rate = .slow → c.rejoin = .halt →
         ∃ t, exec (.countLost i) s = .next t ∧
           t.chains[i] = failedChain { c with retries := min 65535 (c.retries + 1) } ∧
           ArrivesInPowering i cause (failed s.notices) s t) ∧
       (∀ n, 61 ≤ n → n ≤ 254 →
         ∃ t, exec (.countReturned i (countFrame .out 0 (n + 1))) s = .next t ∧ t.chains[i] = failedChain c ∧
           ArrivesInPowering i cause (failed (s.notices.after .countMismatch (.chain i) (.number 61))) s t)) ∧
     (∀ (sent lost : Nat) (unread : List Nat) (f : RingFrame), c.mode = .identifying sent lost unread → lost < sent →
       sent ≤ 3 → c.found ≤ 60 → (∀ p ∈ unread, 1 ≤ p ∧ p ≤ c.found) →
       frameClean f .ident .out c.found = true → (∀ x ∈ f.slots, goodIdentReply x = true) →
       ∃ t, exec (.identReturned i f) s = .next t ∧
         t.chains[i] = { c with mode := .ring none, ringDone := true, nodes := t.chains[i].nodes } ∧
         ArrivesInPowering i cause s.notices s t) ∧
     (∀ (x : Split) (e : End) (sent lost : Nat) (unread : List Nat) (f : RingFrame), c.mode = .split x →
       x.phase = .identifying e sent lost unread → e = .inn ∨ x.inReach = 0 → lost < sent → sent ≤ 3 → c.found ≤ 60 →
       x.outReach + x.inReach ≤ c.found →
       (let reach := match e with
          | .out => x.outReach
          | .inn => x.inReach
        let first := match e with
          | .out => 1
          | .inn => c.found - x.inReach + 1
        let b : Break := { lastOut := x.outReach, firstIn := c.found - x.inReach + 1 }
        (∀ p ∈ unread, first ≤ p ∧ p < first + reach) → f.slots.length = reach → frameClean f .ident e reach = true →
        (∀ b ∈ f.slots, goodIdentReply b = true) →
        ∃ t, exec (.identReturned i f) s = .next t ∧
          t.chains[i] = { c with
            nodes := t.chains[i].nodes, brk := some b, runOut := 0, runIn := 0, switches := min 255 (c.switches + 1)
            mode := .split { x with
              phase := .driving .idle .idle []
              restore := if c.rejoin = .auto then .running c.restoreInterval else .stopped } } ∧
          ArrivesInPowering i cause (s.notices.after .chainState (.chain i) (.chain (.split b))) s t)))

/-- R131, R132, R133: a duty set in RING. A waiting set is taken and sent as one DUTY frame with one slot per entry, blank
for a node that is OFFLINE. A clean frame ends the run of losses; where its one slot is answered well by a driven node,
the record takes the temperature and flags and is ONLINE; an OFFLINE node's good run rises, and under AUTO the third
brings it ONLINE; where the slot is answered badly, a driven node's bad replies rise: within the retry limit it is
SUSPECT, beyond it OFFLINE, with NODE_FAULT, and under HALT the chain fails. Of a clean frame of several good slots every
driven node is ONLINE. A lost frame within the retry limit is sent again with the set in the mailbox where one waits; that
the mailbox is empty after it is the model's reading (DEDUCED, log 18). One beyond the limit leaves RING for LOCATING, or
for FAILED under HALT. R109, R134: a good reply sets the open, short and OVERHEAT flags, and raises NODE_FAULT for each
that was clear, OVERHEAT last (DEDUCED, log 38). A frame that is not clean is as a lost one (R121; one with another
number of slots: DEDUCED, log 29). R133, R198, 11.5: the slot of a LIVE and of a BLANK entry; a reply slot is good when its
check and its duty check hold and it was overwritten, and gives the temperature, at most 150. -/
def Obligations.DutyFramesInRing : Prop :=
  (∀ r g b : Nat, r ≤ 4095 → g ≤ 4095 → b ≤ 4095 →
    (let x := dutySlot (.live r g b)
     Checked x ∧ (x.extractLsb' 36 12).toNat = r ∧ (x.extractLsb' 24 12).toNat = g ∧
       (x.extractLsb' 12 12).toNat = b ∧ (x.extractLsb' 8 4).toNat = 8)) ∧
  (Checked (dutySlot .blank) ∧ (dutySlot .blank).extractLsb' 8 40 = 0) ∧
  (∀ (e : End) (hop : Nat) (slots : List SentSlot), dutyFrame e hop slots =
    { header := headerOf .duty e hop slots.length, slots := slots.map (·.bits) }) ∧
  (∀ sent reply : BitVec 48,
    (goodDutyReply sent reply = true ↔
      Checked reply ∧ reply.extractLsb' 27 8 = sent.extractLsb' 0 8 ∧ reply ≠ sent) ∧
    slotTemperature reply = min 150 ((reply.extractLsb' 40 8).toNat - 40 : Int)) ∧
  ∀ (i : Fin 4) (s : State), s.resetLow = false →
    (∀ (d : DutyFlight) (f : RingFrame), s.chains[i].mode = .ring (some d) →
      frameClean f .duty .out d.slots.length = false →
      exec (.dutyReturned i .out f) s = exec (.dutyLost i .out) s) ∧
    (∀ set : List DutyEntry, s.chains[i].mode = .ring none → s.chains[i].mailbox = some set →
      ∃ t, exec (.dutyFrameSend i) s = .next t ∧
        (let slots := set.map fun d =>
           ({ position := d.position
              bits := dutySlot (if (s.chains[i].nodeAt d.position).any (·.state == .offline) then .blank
                else d.duty) } : SentSlot)
         t.chains[i] = { s.chains[i] with
           mailbox := none, mode := .ring (some { set := set, slots := slots })
           sent := { sender := .out, frame := dutyFrame .out 0 slots } :: s.chains[i].sent }) ∧
        OnlyChain i s t ∧ OnlyChanges [.chains] s t) ∧
    (∀ (d : DutyFlight) (x : SentSlot) (reply : BitVec 48) (f : RingFrame) (k : Fin 60),
      s.chains[i].mode = .ring (some d) → d.slots = [x] → f.slots = [reply] →
      frameClean f .duty .out 1 = true → goodDutyReply x.bits reply = true → x.position = k.val + 1 →
      (s.chains[i].nodes[k].state = .online ∨ s.chains[i].nodes[k].state = .suspect) →
      (reply.extractLsb' 36 4 = 0) → slotTemperature reply < 125 →
      ∃ t, exec (.dutyReturned i .out f) s = .next t ∧
        t.chains[i].nodes[k] =
          { s.chains[i].nodes[k] with
            state := .online, badReplies := 0, temperature := slotTemperature reply
            flags := { openRed := false, openGreen := false, openBlue := false, short := false
                       overheat := s.chains[i].nodes[k].flags.overheat && decide (110 < slotTemperature reply) } } ∧
        (∀ j : Fin 60, j ≠ k → t.chains[i].nodes[j] = s.chains[i].nodes[j]) ∧
        t.chains[i] = { s.chains[i] with runOut := 0, mode := .ring none, nodes := t.chains[i].nodes } ∧
        OnlyChain i s t ∧ OnlyChanges [.chains] s t) ∧
    (∀ (d : DutyFlight) (f : RingFrame), s.chains[i].mode = .ring (some d) → (d.slots.map (·.position)).Nodup →
      f.slots.length = d.slots.length → frameClean f .duty .out d.slots.length = true →
      (∀ p ∈ d.slots.zip f.slots, goodDutyReply p.1.bits p.2 = true ∧ p.2.extractLsb' 36 4 = 0 ∧
        slotTemperature p.2 < 125) →
      (∀ (k : Fin 60), k.val + 1 ∈ d.slots.map (·.position) →
        s.chains[i].nodes[k].state = .online ∨ s.chains[i].nodes[k].state = .suspect) →
      ∃ t, exec (.dutyReturned i .out f) s = .next t ∧
        (∀ (k : Fin 60) (p : SentSlot × BitVec 48), p ∈ d.slots.zip f.slots → p.1.position = k.val + 1 →
          t.chains[i].nodes[k] =
            { s.chains[i].nodes[k] with
              state := .online, badReplies := 0, temperature := slotTemperature p.2
              flags := { openRed := false, openGreen := false, openBlue := false, short := false
                         overheat := s.chains[i].nodes[k].flags.overheat && decide (110 < slotTemperature p.2) } }) ∧
        (∀ k : Fin 60, k.val + 1 ∉ d.slots.map (·.position) → t.chains[i].nodes[k] = s.chains[i].nodes[k]) ∧
        t.chains[i] = { s.chains[i] with runOut := 0, mode := .ring none, nodes := t.chains[i].nodes } ∧
        OnlyChain i s t ∧ OnlyChanges [.chains] s t) ∧
    (∀ (d : DutyFlight) (x : SentSlot) (reply : BitVec 48) (f : RingFrame) (k : Fin 60),
      s.chains[i].mode = .ring (some d) → d.slots = [x] → f.slots = [reply] →
      frameClean f .duty .out 1 = true → x.position = k.val + 1 →
      (let n := s.chains[i].nodes[k]
       (goodDutyReply x.bits reply = true → n.state = .offline → reply.extractLsb' 36 4 = 0 →
         slotTemperature reply < 125 →
         ∃ t, exec (.dutyReturned i .out f) s = .next t ∧
           (let back := s.chains[i].rejoin = .auto ∧ 2 ≤ n.goodRun
            t.chains[i].nodes[k].state = (if back then .online else .offline) ∧
            t.chains[i].nodes[k].goodRun = (if back then 0 else min 255 (n.goodRun + 1)) ∧
            t.chains[i].nodes[k].badReplies = 0 ∧ t.chains[i].nodes[k].temperature = slotTemperature reply) ∧
           OnlyChain i s t ∧ OnlyChanges [.chains] s t) ∧
       (goodDutyReply x.bits reply = false → n.state = .online ∨ n.state = .suspect →
         (n.badReplies + 1 ≤ s.chains[i].retryLimit →
           ∃ t, exec (.dutyReturned i .out f) s = .next t ∧
             t.chains[i].nodes[k] = { n with state := .suspect, badReplies := n.badReplies + 1 } ∧
             (∀ j : Fin 60, j ≠ k → t.chains[i].nodes[j] = s.chains[i].nodes[j]) ∧
             t.chains[i] = { s.chains[i] with
               runOut := 0, retries := min 65535 (s.chains[i].retries + 1), mode := .ring none
               nodes := t.chains[i].nodes } ∧
             OnlyChain i s t ∧ OnlyChanges [.chains] s t) ∧
         (s.chains[i].retryLimit < n.badReplies + 1 → s.notices.list.length ≤ 8 → s.power.state ≠ .powering →
           ∃ t, exec (.dutyReturned i .out f) s = .next t ∧
             t.chains[i].nodes[k] =
               { n with state := .offline, badReplies := n.badReplies + 1, goodRun := 0 } ∧
             (∀ j : Fin 60, j ≠ k → t.chains[i].nodes[j] = s.chains[i].nodes[j]) ∧
             (let fault := s.notices.after .nodeFault (.node { chain := i, position := k.val + 1 }) (.node .offline)
              let c : Chain := { s.chains[i] with
                runOut := 0, retries := min 65535 (s.chains[i].retries + 1), mode := .ring none
                nodes := t.chains[i].nodes }
              (s.chains[i].rejoin ≠ .halt → t.chains[i] = c ∧ t.notices = fault ∧ t.composer = s.composer) ∧
              (s.chains[i].rejoin = .halt → t.chains[i] = failedChain c ∧ onlyMarks i s t ∧
                t.notices = fault.after .chainState (.chain i) (.chain .failed))) ∧
             OnlyChain i s t ∧ OnlyChanges [.chains, .composer, .notices, .noticeLow] s t)))) ∧
    (∀ (d : DutyFlight) (x : SentSlot) (reply : BitVec 48) (f : RingFrame) (k : Fin 60),
      s.chains[i].mode = .ring (some d) → d.slots = [x] → f.slots = [reply] →
      frameClean f .duty .out 1 = true → goodDutyReply x.bits reply = true → x.position = k.val + 1 →
      s.notices.list.length ≤ 8 →
      (let n := s.chains[i].nodes[k]
       n.state = .online ∨ n.state = .suspect ∨ n.state = .offline →
       ∃ t, exec (.dutyReturned i .out f) s = .next t ∧
         n.repliesWell t.chains[i].nodes[k] s.chains[i].rejoin reply ∧
         (∀ j : Fin 60, j ≠ k → t.chains[i].nodes[j] = s.chains[i].nodes[j]) ∧
         t.chains[i] = { s.chains[i] with runOut := 0, mode := .ring none, nodes := t.chains[i].nodes } ∧
         t.notices = faultNotices s.notices { chain := i, position := k.val + 1 } n.flags (flagsAfter n.flags reply) ∧
         OnlyChain i s t ∧ OnlyChanges [.chains, .notices, .noticeLow] s t)) ∧
    (∀ d : DutyFlight, s.chains[i].mode = .ring (some d) →
      (s.chains[i].runOut + 1 ≤ s.chains[i].retryLimit →
        ∃ t, exec (.dutyLost i .out) s = .next t ∧
          (let set := s.chains[i].mailbox.getD d.set
           let slots := set.map (slotSent s.chains[i])
           t.chains[i] = { s.chains[i] with
             runOut := s.chains[i].runOut + 1, retries := min 65535 (s.chains[i].retries + 1), mailbox := none
             mode := .ring (some { set := set, slots := slots })
             sent := { sender := .out, frame := dutyFrame .out 0 slots } :: s.chains[i].sent }) ∧
          OnlyChain i s t ∧ OnlyChanges [.chains] s t) ∧
      (s.chains[i].retryLimit < s.chains[i].runOut + 1 → s.chains[i].rejoin ≠ .halt →
        s.notices.list.length ≤ 8 →
        ∃ t, exec (.dutyLost i .out) s = .next t ∧
          t.chains[i] = { s.chains[i] with
            runOut := 0, retries := min 65535 (s.chains[i].retries + 1), mailbox := none
            mode := .locating .whole false true
            sent := { sender := .out, frame := probeFrame .out 0 } :: s.chains[i].sent } ∧
          t.notices = s.notices.after .chainState (.chain i) (.chain .locating) ∧ OnlyChain i s t ∧
          onlyMarks i s t ∧ OnlyChanges [.chains, .composer, .notices, .noticeLow] s t) ∧
      (s.chains[i].retryLimit < s.chains[i].runOut + 1 → s.chains[i].rejoin = .halt →
        s.power.state ≠ .powering → s.notices.list.length ≤ 8 →
        ∃ t, exec (.dutyLost i .out) s = .next t ∧
          t.chains[i] = { s.chains[i] with
            runOut := 0, retries := min 65535 (s.chains[i].retries + 1), mailbox := none, mode := .failed
            sent := { sender := .inn, frame := sleepFrame .inn } ::
              { sender := .out, frame := sleepFrame .out } :: s.chains[i].sent } ∧
          t.notices = s.notices.after .chainState (.chain i) (.chain .failed) ∧ OnlyChain i s t ∧
          onlyMarks i s t ∧ OnlyChanges [.chains, .composer, .notices, .noticeLow] s t))

/-- R135, R136: the probes of a LOCATE. The whole-loop probe returned puts a chain that came from RING back in RING, and
fails one that came from STARTING. Each probe lost for the first time is sent again as it was. The whole-loop probe lost
twice is followed by hop count 1 from OUT; a hop count returned from OUT by the next, and the last, 60, by hop count 1
from IN; one lost twice from OUT by hop count 1 from IN, with the hop count before it as the OUT reach; a hop count
returned from IN by the next, up to 60. At the end the chain fails where no node was reached, and where more than 60 were,
with COUNT_MISMATCH. A probe that is returned but not clean is as a lost one (R121; one that
holds slots: DEDUCED, log 29). -/
def Obligations.ProbesOfALocate : Prop :=
  ∀ (i : Fin 4) (s : State), s.resetLow = false →
    (let probes : State → LocateProbe → Bool → Bool → End → RingFrame → Prop := fun t probe second fromRing e f =>
       t.chains[i] = { s.chains[i] with
         mode := .locating probe second fromRing, sent := { sender := e, frame := f } :: s.chains[i].sent } ∧
       OnlyChain i s t ∧ OnlyChanges [.chains] s t
     (∀ second, s.chains[i].mode = .locating .whole second true →
      ∃ t, exec (.probeReturned i .out (probeFrame .out 0)) s = .next t ∧
        t.chains[i] = { s.chains[i] with mode := .ring none } ∧ OnlyChain i s t ∧ onlyMarks i s t ∧
        OnlyChanges [.chains, .composer] s t) ∧
     (∀ second, s.chains[i].mode = .locating .whole second false → s.power.state ≠ .powering →
      s.notices.list.length ≤ 8 →
      ∃ t, exec (.probeReturned i .out (probeFrame .out 0)) s = .next t ∧ t.chains[i] = failedChain s.chains[i] ∧
        t.notices = s.notices.after .chainState (.chain i) (.chain .failed) ∧ OnlyChain i s t ∧ onlyMarks i s t ∧
        OnlyChanges [.chains, .composer, .notices, .noticeLow] s t) ∧
     (∀ fromRing,
       (s.chains[i].mode = .locating .whole false fromRing →
         ∃ t, exec (.probeLost i .out) s = .next t ∧ probes t .whole true fromRing .out (probeFrame .out 0)) ∧
       (s.chains[i].mode = .locating .whole true fromRing →
         ∃ t, exec (.probeLost i .out) s = .next t ∧ probes t (.fromOut 1) false fromRing .out (probeFrame .out 1))) ∧
     (∀ hop second fromRing, 1 ≤ hop → hop ≤ 60 → s.chains[i].mode = .locating (.fromOut hop) second fromRing →
       (hop < 60 → ∃ t, exec (.probeReturned i .out (probeFrame .out 0)) s = .next t ∧
         probes t (.fromOut (hop + 1)) false fromRing .out (probeFrame .out (hop + 1))) ∧
       (hop = 60 → ∃ t, exec (.probeReturned i .out (probeFrame .out 0)) s = .next t ∧
         probes t (.fromIn 60 1) false fromRing .inn (probeFrame .inn 1)) ∧
       (second = false → ∃ t, exec (.probeLost i .out) s = .next t ∧
         probes t (.fromOut hop) true fromRing .out (probeFrame .out hop)) ∧
       (second = true → ∃ t, exec (.probeLost i .out) s = .next t ∧
         probes t (.fromIn (hop - 1) 1) false fromRing .inn (probeFrame .inn 1))) ∧
     (∀ j hop second fromRing, 1 ≤ hop → hop ≤ 60 → s.chains[i].mode = .locating (.fromIn j hop) second fromRing →
       (hop < 60 → ∃ t, exec (.probeReturned i .inn (probeFrame .inn 0)) s = .next t ∧
         probes t (.fromIn j (hop + 1)) false fromRing .inn (probeFrame .inn (hop + 1))) ∧
       (second = false → ∃ t, exec (.probeLost i .inn) s = .next t ∧
         probes t (.fromIn j hop) true fromRing .inn (probeFrame .inn hop)) ∧
       (hop = 60 → 0 < j → s.power.state ≠ .powering → s.notices.list.length ≤ 8 →
         ∃ t, exec (.probeReturned i .inn (probeFrame .inn 0)) s = .next t ∧ t.chains[i] = failedChain s.chains[i] ∧
           t.notices = (s.notices.after .countMismatch (.chain i) (.number 61)).after .chainState (.chain i)
             (.chain .failed) ∧
           OnlyChain i s t ∧ onlyMarks i s t ∧ OnlyChanges [.chains, .composer, .notices, .noticeLow] s t) ∧
       (second = true → s.power.state ≠ .powering → s.notices.list.length ≤ 8 →
         (j + (hop - 1) = 0 → ∃ t, exec (.probeLost i .inn) s = .next t ∧ t.chains[i] = failedChain s.chains[i] ∧
           t.notices = s.notices.after .chainState (.chain i) (.chain .failed) ∧ OnlyChain i s t ∧ onlyMarks i s t ∧
           OnlyChanges [.chains, .composer, .notices, .noticeLow] s t) ∧
         (60 < j + (hop - 1) → ∃ t, exec (.probeLost i .inn) s = .next t ∧ t.chains[i] = failedChain s.chains[i] ∧
           t.notices = (s.notices.after .countMismatch (.chain i) (.number 61)).after .chainState (.chain i)
             (.chain .failed) ∧
           OnlyChain i s t ∧ onlyMarks i s t ∧ OnlyChanges [.chains, .composer, .notices, .noticeLow] s t))) ∧
     (∀ (e : End) (f : RingFrame), frameClean f .probe e 0 = false →
       exec (.probeReturned i e f) s = exec (.probeLost i e) s) ∧
     (∀ (e : End) (hop : Nat), probeFrame e hop = { header := headerOf .probe e hop 0, slots := [] }))

/-- R135 to R137: the end of a LOCATE, at the hop count from IN that is lost twice or at hop count 60 returned, whose
reaches fit the found count of a chain that has been enumerated. The chain enters SPLIT with the break between the
reaches, the gap UNREACHABLE and the reached records as they were, both runs at 0, and the restore timer running under
AUTO. R137, R138: a chain that has not been enumerated takes its expected count as the reference; where the reaches exceed
the reference count, enumerated or not, their sum becomes the found count and COUNT_MISMATCH is raised with it. In both
cases both sides are enumerated: the reached records are SUSPECT with their bad-reply count and good-reply run at 0 until
they are read, as the model reads the rules (DEDUCED, log 14), and the first side is counted; a side's good COUNT is
followed by its IDENT, its lost COUNT, or one that returns another value, is sent again but for the third in a row, which
fails the chain; a side's clean IDENT with every slot good brings its records ONLINE, and the other side follows, or the
entry to SPLIT is finished. An IDENT that is lost, or not clean, or that leaves a node unread, is sent again but for the
third; three lost ones fail the chain, and nodes that none has read are OFFLINE with bin 0 (their good-reply run at 0,
R133), with NODE_FAULT, which fails the chain under HALT. That these notices come in ascending order of position, which R130
leaves open, is the model's reading (DEDUCED, log 14), and so is what the bad slots and the nodes already read of an IDENT
sent again do (DEDUCED, log 30), and that a frame with another number of slots is not clean (DEDUCED, log 29). The mark
ringDone, by which the chain has been enumerated, is the model's own (DESIGN CHOICE, log 15). -/
def Obligations.LocateEntersSplit : Prop :=
  (∀ (i : Fin 4) (j m : Nat) (fromRing : Bool) (event : Instr) (s : State), s.resetLow = false →
    LastProbe i j m fromRing event s → 0 < j + m → j + m ≤ s.chains[i].found → s.chains[i].found ≤ 60 →
    s.chains[i].ringDone = true → s.power.state ≠ .powering → s.notices.list.length ≤ 8 →
    ∃ t, exec event s = .next t ∧
      (let c := s.chains[i]
       let b : Break := { lastOut := j, firstIn := c.found - m + 1 }
       t.chains[i] = { c with
         brk := some b, runOut := 0, runIn := 0, switches := min 255 (c.switches + 1), nodes := t.chains[i].nodes
         mode := .split
           { outReach := j, inReach := m, phase := .driving .idle .idle []
             restore := if c.rejoin = .auto then .running c.restoreInterval else .stopped } } ∧
       (∀ k : Fin 60, t.chains[i].nodes[k] =
         if c.found ≤ k.val then { c.nodes[k] with state := .absent }
         else if j ≤ k.val ∧ k.val + 1 ≤ c.found - m then { c.nodes[k] with state := .unreachable }
         else c.nodes[k]) ∧
       t.notices = s.notices.after .chainState (.chain i) (.chain (.split b))) ∧
      OnlyChain i s t ∧ onlyMarks i s t ∧ OnlyChanges [.chains, .composer, .notices, .noticeLow] s t) ∧
  (∀ (i : Fin 4) (j m : Nat) (fromRing : Bool) (event : Instr) (s : State), s.resetLow = false →
    LastProbe i j m fromRing event s → 0 < j + m → j + m ≤ 60 → s.chains[i].found ≤ 60 →
    s.chains[i].expected ≤ 60 → s.notices.list.length ≤ 8 →
    (let c := s.chains[i]
     let reference := if c.ringDone then c.found else c.expected
     let n := max reference (j + m)
     c.ringDone = false ∨ reference < j + m →
     ∃ t, exec event s = .next t ∧
       t.chains[i] = { c with
         found := n, nodes := t.chains[i].nodes
         mode := .split { outReach := j, inReach := m, phase := .counting (if 0 < j then .out else .inn) 0
                          restore := .stopped }
         sent := { sender := if 0 < j then .out else .inn, frame :=
           if 0 < j then countFrame .out j 1 else countFrame .inn m n } :: c.sent } ∧
       (∀ k : Fin 60, t.chains[i].nodes[k] =
         if n ≤ k.val then { c.nodes[k] with state := .absent }
         else if j ≤ k.val ∧ k.val + 1 ≤ n - m then { c.nodes[k] with state := .unreachable }
         else { c.nodes[k] with state := .suspect, badReplies := 0, goodRun := 0 }) ∧
       (reference < j + m → t.notices = s.notices.after .countMismatch (.chain i) (.number (j + m))) ∧
       (j + m ≤ reference → t.notices = s.notices ∧ t.noticeLow = s.noticeLow) ∧
       OnlyChain i s t ∧ onlyMarks i s t ∧ OnlyChanges [.chains, .composer, .notices, .noticeLow] s t)) ∧
  (∀ (i : Fin 4) (x : Split) (e : End) (s : State), s.resetLow = false → s.chains[i].mode = .split x →
    s.chains[i].found ≤ 60 → x.outReach + x.inReach ≤ s.chains[i].found → s.power.state ≠ .powering →
    s.notices.list.length ≤ 8 →
    (let c := s.chains[i]
     let reach := match e with
       | .out => x.outReach
       | .inn => x.inReach
     let start := match e with
       | .out => 1
       | .inn => c.found
     let positions := sidePositions c x e
     (∀ failures, x.phase = .counting e failures →
       (∃ t, exec (.countReturned i (countFrame e 0 (match e with
           | .out => x.outReach + 1
           | .inn => c.found - x.inReach))) s = .next t ∧
         t.chains[i] = { c with
           mode := .split { x with phase := .identifying e 1 0 positions }
           sent := { sender := e, frame := identFrame e reach reach } :: c.sent } ∧
         OnlyChain i s t ∧ OnlyChanges [.chains] s t) ∧
       (failures < 2 → ∃ t, exec (.countLost i) s = .next t ∧
         t.chains[i] = { c with
           retries := min 65535 (c.retries + 1), mode := .split { x with phase := .counting e (failures + 1) }
           sent := { sender := e, frame := countFrame e reach start } :: c.sent } ∧
         OnlyChain i s t ∧ OnlyChanges [.chains] s t) ∧
       (2 ≤ failures → ∃ t, exec (.countLost i) s = .next t ∧
         t.chains[i] = failedChain { c with retries := min 65535 (c.retries + 1) } ∧
         t.notices = s.notices.after .chainState (.chain i) (.chain .failed) ∧ OnlyChain i s t ∧ onlyMarks i s t ∧
         OnlyChanges [.chains, .composer, .notices, .noticeLow] s t) ∧
       (∀ f : RingFrame, (frameClean f .count e 1 = true → ∀ y ∈ f.slots, slotHolds y = true →
           (y.extractLsb' 40 8).toNat ≠ (match e with
             | .out => x.outReach + 1
             | .inn => c.found - x.inReach)) →
         exec (.countReturned i f) s = exec (.countLost i) s)) ∧
     (∀ (sent lost : Nat) (unread : List Nat), x.phase = .identifying e sent lost unread → lost < sent → sent ≤ 3 →
       (∀ p ∈ unread, p ∈ positions) →
       (let again : Chain → Nat → List Nat → State → Prop := fun c' lost' unread' t =>
          t.chains[i] = { c' with
            mode := .split { x with phase := .identifying e (sent + 1) lost' unread' }
            sent := { sender := e, frame := identFrame e reach reach } :: c.sent } ∧
          OnlyChain i s t ∧ OnlyChanges [.chains] s t
        let lostOne := { c with retries := min 65535 (c.retries + 1) }
        (unread ≠ [] → sent < 3 → ∃ t, exec (.identLost i) s = .next t ∧ again lostOne (lost + 1) unread t) ∧
        (sent = 3 → lost = 2 → ∃ t, exec (.identLost i) s = .next t ∧ t.chains[i] = failedChain lostOne ∧
          t.notices = s.notices.after .chainState (.chain i) (.chain .failed) ∧ OnlyChain i s t ∧ onlyMarks i s t ∧
          OnlyChanges [.chains, .composer, .notices, .noticeLow] s t) ∧
        (sent = 3 → lost < 2 → unread ≠ [] →
          ∃ t, exec (.identLost i) s = .next t ∧ SideEndsUnread i x e lostOne unread s t) ∧
        (∀ f : RingFrame, frameClean f .ident e reach = false →
          exec (.identReturned i f) s = exec (.identLost i) s) ∧
        (∀ f : RingFrame, frameClean f .ident e reach = true → unreadOfSide positions unread f ≠ [] →
          (sent < 3 → ∃ t, exec (.identReturned i f) s = .next t ∧
            again (sideRead c positions f) lost (unreadOfSide positions unread f) t) ∧
          (sent = 3 → ∃ t, exec (.identReturned i f) s = .next t ∧
            SideEndsUnread i x e (sideRead c positions f) (unreadOfSide positions unread f) s t)))) ∧
     (∀ (sent lost : Nat) (unread : List Nat) (f : RingFrame), x.phase = .identifying e sent lost unread → lost < sent →
       sent ≤ 3 → (∀ p ∈ unread, p ∈ positions) → f.slots.length = reach → frameClean f .ident e reach = true →
       (∀ b ∈ f.slots, goodIdentReply b = true) →
       ∃ t, exec (.identReturned i f) s = .next t ∧
         (∀ (k : Fin 60) (p : Nat × BitVec 48), p ∈ positions.zip f.slots → p.1 = k.val + 1 →
           t.chains[i].nodes[k] = { c.nodes[k] with bin := slotBin p.2, state := .online }) ∧
         (∀ k : Fin 60, k.val + 1 ∉ positions → t.chains[i].nodes[k] = c.nodes[k]) ∧
         (e = .out → 0 < x.inReach →
           t.chains[i] = { c with
             nodes := t.chains[i].nodes, mode := .split { x with phase := .counting .inn 0 }
             sent := { sender := .inn, frame := countFrame .inn x.inReach c.found } :: c.sent } ∧
           OnlyChanges [.chains] s t) ∧
         (e = .inn ∨ x.inReach = 0 →
           (let b : Break := { lastOut := x.outReach, firstIn := c.found - x.inReach + 1 }
            t.chains[i] = { c with
              nodes := t.chains[i].nodes, brk := some b, runOut := 0, runIn := 0
              switches := min 255 (c.switches + 1)
              mode := .split { x with
                phase := .driving .idle .idle []
                restore := if c.rejoin = .auto then .running c.restoreInterval else .stopped } } ∧
            t.notices = s.notices.after .chainState (.chain i) (.chain (.split b))) ∧
           OnlyChanges [.chains, .notices, .noticeLow] s t) ∧
         OnlyChain i s t)))

/-- R139: a set in SPLIT is taken once no half is on the loop, and is sent as two halves, ascending from OUT and
descending from IN, each to the reach of its side, with a slot for each entry, blank for a node that is OFFLINE. A side
whose reach is 0 sends no half; one that is re-located misses the half of the set, and where no side can send the set
waits in the mailbox (DEDUCED, log 17). R141: from the expiry of the restore timer no set is taken. A lost half within the
retry limit is sent again, with the set in the mailbox where one waits; beyond it the side is re-located, or the chain
fails under HALT. R140: a re-location sends hop counts 1, 2 and so on up to the side's reach. One returned at the reach
leaves the side as it was; one lost for the first time is sent again; one lost twice makes the hop count before it the new
reach, with the nodes beyond it UNREACHABLE, a new break and SPLIT; where both reaches are then 0 the chain fails, after
the notice of the break (DEDUCED, log 39). R133, R139: a clean half ends the run of its end and leaves its side idle, and
its slots are checked: driven nodes that answer well are ONLINE; one that answers badly is SUSPECT within the retry limit
and OFFLINE beyond it, with NODE_FAULT, and under HALT the chain then fails. R109, R134: a good reply sets the open, short
and OVERHEAT flags, and raises NODE_FAULT for each that was clear, OVERHEAT last (DEDUCED, log 38). -/
def Obligations.SplitSendsTwoHalves : Prop :=
  ∀ (i : Fin 4) (x : Split) (s : State), s.resetLow = false → s.chains[i].mode = .split x →
    (∀ (set old : List DutyEntry) (a b : Side), x.phase = .driving a b old → s.chains[i].mailbox = some set →
      (let outSends : Bool := decide (a = .idle ∧ 0 < x.outReach)
       let inSends : Bool := decide (b = .idle ∧ 0 < x.inReach)
       let free : Prop := x.restore ≠ .expired ∧ (∀ slots, a ≠ .half slots) ∧ ∀ slots, b ≠ .half slots
       (free → outSends = true ∨ inSends = true →
         ∃ t, exec (.dutyFrameSend i) s = .next t ∧
           (let o := halfSlots s.chains[i] x set .out
            let n := halfSlots s.chains[i] x set .inn
            let phase : SplitPhase := .driving (if outSends then .half o else a) (if inSends then .half n else b) set
            t.chains[i] = { s.chains[i] with
              mailbox := none, mode := .split { x with phase := phase }
              sent := (if inSends then [{ sender := .inn, frame := dutyFrame .inn x.inReach n }] else []) ++
                (if outSends then [{ sender := .out, frame := dutyFrame .out x.outReach o }] else []) ++
                s.chains[i].sent }) ∧
           OnlyChain i s t ∧ OnlyChanges [.chains] s t) ∧
       (¬ (free ∧ (outSends = true ∨ inSends = true)) → exec (.dutyFrameSend i) s = .next s))) ∧
    (∀ (e : End) (a b : Side) (carried : List DutyEntry), x.phase = .driving a b carried →
      (let c := s.chains[i]
       let reach := match e with
         | .out => x.outReach
         | .inn => x.inReach
       let run := match e with
         | .out => c.runOut
         | .inn => c.runIn
       let side := match e with
         | .out => a
         | .inn => b
       let driving : Side → SplitPhase := fun v => match e with
         | .out => .driving v b carried
         | .inn => .driving a v carried
       let withRun : Nat → Chain := fun n => match e with
         | .out => { c with runOut := n }
         | .inn => { c with runIn := n }
       let probes : State → Chain → Nat → Bool → Prop := fun t c' hop second =>
         t.chains[i] = { c' with
           mode := .split { x with phase := driving (.relocating hop second) }
           sent := { sender := e, frame := probeFrame e hop } :: c.sent } ∧
         OnlyChain i s t ∧ OnlyChanges [.chains] s t
       (∀ slots, side = .half slots →
         (run + 1 ≤ c.retryLimit →
           ∃ t, exec (.dutyLost i e) s = .next t ∧
             (let again := halfSlots c x (c.mailbox.getD carried) e
              t.chains[i] = { withRun (run + 1) with
                retries := min 65535 (c.retries + 1), mode := .split { x with phase := driving (.half again) }
                sent := { sender := e, frame := dutyFrame e reach again } :: c.sent }) ∧
             OnlyChain i s t ∧ OnlyChanges [.chains] s t) ∧
         (c.retryLimit < run + 1 → c.rejoin ≠ .halt →
           ∃ t, exec (.dutyLost i e) s = .next t ∧
             probes t { withRun (run + 1) with retries := min 65535 (c.retries + 1) } 1 false) ∧
         (c.retryLimit < run + 1 → c.rejoin = .halt → s.power.state ≠ .powering → s.notices.list.length ≤ 8 →
           ∃ t, exec (.dutyLost i e) s = .next t ∧
             t.chains[i] = failedChain { withRun (run + 1) with retries := min 65535 (c.retries + 1) } ∧
             t.notices = s.notices.after .chainState (.chain i) (.chain .failed) ∧ OnlyChain i s t ∧
             onlyMarks i s t ∧ OnlyChanges [.chains, .composer, .notices, .noticeLow] s t)) ∧
       (∀ (slots : List SentSlot) (f : RingFrame), side = .half slots → f.slots.length = slots.length →
         frameClean f .duty e slots.length = true →
         ((slots.map (·.position)).Nodup →
           (∀ p ∈ slots.zip f.slots, goodDutyReply p.1.bits p.2 = true ∧ p.2.extractLsb' 36 4 = 0 ∧
             slotTemperature p.2 < 125) →
           (∀ k : Fin 60, k.val + 1 ∈ slots.map (·.position) →
             c.nodes[k].state = .online ∨ c.nodes[k].state = .suspect) →
           ∃ t, exec (.dutyReturned i e f) s = .next t ∧
             (∀ (k : Fin 60) (p : SentSlot × BitVec 48), p ∈ slots.zip f.slots → p.1.position = k.val + 1 →
               t.chains[i].nodes[k] = c.nodes[k].answered p.2) ∧
             (∀ k : Fin 60, k.val + 1 ∉ slots.map (·.position) → t.chains[i].nodes[k] = c.nodes[k]) ∧
             t.chains[i] = { withRun 0 with mode := .split { x with phase := driving .idle }
                                            nodes := t.chains[i].nodes } ∧
             OnlyChain i s t ∧ OnlyChanges [.chains] s t) ∧
         (∀ (y : SentSlot) (reply : BitVec 48) (k : Fin 60), slots = [y] → f.slots = [reply] → y.position = k.val + 1 →
           goodDutyReply y.bits reply = true → s.notices.list.length ≤ 8 →
           (let n := c.nodes[k]
            n.state = .online ∨ n.state = .suspect ∨ n.state = .offline →
            ∃ t, exec (.dutyReturned i e f) s = .next t ∧ n.repliesWell t.chains[i].nodes[k] c.rejoin reply ∧
              (∀ j : Fin 60, j ≠ k → t.chains[i].nodes[j] = c.nodes[j]) ∧
              t.chains[i] = { withRun 0 with mode := .split { x with phase := driving .idle }
                                             nodes := t.chains[i].nodes } ∧
              t.notices = faultNotices s.notices { chain := i, position := k.val + 1 } n.flags
                (flagsAfter n.flags reply) ∧
              OnlyChain i s t ∧ OnlyChanges [.chains, .notices, .noticeLow] s t)) ∧
         (∀ (y : SentSlot) (reply : BitVec 48) (k : Fin 60), slots = [y] → f.slots = [reply] → y.position = k.val + 1 →
           goodDutyReply y.bits reply = false → c.nodes[k].state = .online ∨ c.nodes[k].state = .suspect →
           (let n := c.nodes[k]
            let checked : State → Chain := fun t => { withRun 0 with
              retries := min 65535 (c.retries + 1), mode := .split { x with phase := driving .idle }
              nodes := t.chains[i].nodes }
            (n.badReplies + 1 ≤ c.retryLimit →
              ∃ t, exec (.dutyReturned i e f) s = .next t ∧
                t.chains[i].nodes[k] = { n with state := .suspect, badReplies := n.badReplies + 1 } ∧
                (∀ j : Fin 60, j ≠ k → t.chains[i].nodes[j] = c.nodes[j]) ∧ t.chains[i] = checked t ∧
                OnlyChain i s t ∧ OnlyChanges [.chains] s t) ∧
            (c.retryLimit < n.badReplies + 1 → s.notices.list.length ≤ 8 → s.power.state ≠ .powering →
              ∃ t, exec (.dutyReturned i e f) s = .next t ∧
                t.chains[i].nodes[k] = { n with state := .offline, badReplies := n.badReplies + 1, goodRun := 0 } ∧
                (∀ j : Fin 60, j ≠ k → t.chains[i].nodes[j] = c.nodes[j]) ∧
                (let fault := s.notices.after .nodeFault (.node { chain := i, position := k.val + 1 }) (.node .offline)
                 (c.rejoin ≠ .halt → t.chains[i] = checked t ∧ t.notices = fault ∧ t.composer = s.composer) ∧
                 (c.rejoin = .halt → t.chains[i] = failedChain (checked t) ∧ onlyMarks i s t ∧
                   t.notices = fault.after .chainState (.chain i) (.chain .failed))) ∧
                OnlyChain i s t ∧ OnlyChanges [.chains, .composer, .notices, .noticeLow] s t)))) ∧
       (∀ hop second, side = .relocating hop second → 1 ≤ hop → hop ≤ reach →
         (hop < reach → ∃ t, exec (.probeReturned i e (probeFrame e 0)) s = .next t ∧ probes t c (hop + 1) false) ∧
         (hop = reach → ∃ t, exec (.probeReturned i e (probeFrame e 0)) s = .next t ∧
           t.chains[i] = { withRun 0 with mode := .split { x with phase := driving .idle } } ∧
           OnlyChain i s t ∧ OnlyChanges [.chains] s t) ∧
         (second = false → ∃ t, exec (.probeLost i e) s = .next t ∧ probes t c hop true) ∧
         (second = true → x.outReach + x.inReach ≤ c.found → c.found ≤ 60 → s.notices.list.length ≤ 8 →
           (match e with
             | .out => 1 < hop ∨ 0 < x.inReach
             | .inn => 1 < hop ∨ 0 < x.outReach) →
           ∃ t, exec (.probeLost i e) s = .next t ∧
             (let o := match e with
                | .out => hop - 1
                | .inn => x.outReach
              let n := match e with
                | .out => x.inReach
                | .inn => hop - 1
              let brk : Break := { lastOut := o, firstIn := c.found - n + 1 }
              t.chains[i] = { withRun 0 with
                nodes := t.chains[i].nodes, brk := some brk
                mode := .split { x with outReach := o, inReach := n, phase := driving .idle } } ∧
              (∀ k : Fin 60, t.chains[i].nodes[k] =
                if (match e with
                  | .out => decide (hop - 1 ≤ k.val ∧ k.val < x.outReach)
                  | .inn => decide (c.found - x.inReach ≤ k.val ∧ k.val < c.found - (hop - 1))) then
                  { c.nodes[k] with state := .unreachable }
                else c.nodes[k]) ∧
              t.notices = s.notices.after .chainState (.chain i) (.chain (.split brk))) ∧
             OnlyChain i s t ∧ OnlyChanges [.chains, .notices, .noticeLow] s t) ∧
         (second = true → hop = 1 → reach ≤ c.found → c.found ≤ 60 → s.power.state ≠ .powering →
           s.notices.list.length ≤ 8 →
           (match e with
             | .out => x.inReach = 0
             | .inn => x.outReach = 0) →
           ∃ t, exec (.probeLost i e) s = .next t ∧
             (let brk : Break := { lastOut := 0, firstIn := c.found + 1 }
              t.chains[i] = failedChain { withRun 0 with nodes := t.chains[i].nodes, brk := some brk } ∧
              (∀ k : Fin 60, t.chains[i].nodes[k] =
                if (match e with
                  | .out => decide (k.val < reach)
                  | .inn => decide (c.found - reach ≤ k.val ∧ k.val < c.found)) then
                  { c.nodes[k] with state := .unreachable }
                else c.nodes[k]) ∧
              t.notices = (s.notices.after .chainState (.chain i) (.chain (.split brk))).after .chainState (.chain i)
                (.chain .failed)) ∧
             OnlyChain i s t ∧ onlyMarks i s t ∧
             OnlyChanges [.chains, .composer, .notices, .noticeLow] s t))))

/-- R141: the restore attempt. The timer of a SPLIT chain expires; the attempt begins with a whole-loop PROBE once both
sides are idle; and when its IDENT returns with every slot good, the chain is in RING with no break, an empty mailbox,
both runs at 0, one more loop switch and every record's bin as reported; a record that was UNREACHABLE is SUSPECT with its
bad-reply count and good-reply run at 0, and nothing else of a record changes. The PROBE is followed by a COUNT, and the
COUNT of the found count by an IDENT; another count raises COUNT_MISMATCH. A step that fails, its frame lost or returned
but not clean, the COUNT's slot check failing, or a slot of the IDENT bad, leaves the chain in SPLIT with the timer
started again under AUTO. That a restore marks the chain as enumerated (ringDone) is the model's choice (DESIGN CHOICE,
log 15), and that a failed COUNT or IDENT here adds no retries is its reading (DEDUCED, log 13), as is that a frame with
another number of slots is not clean (DEDUCED, log 29). -/
def Obligations.RestoreReturnsToRing : Prop :=
  ∀ (i : Fin 4) (x : Split) (s : State), s.resetLow = false → s.chains[i].mode = .split x →
    (∀ interval, x.restore = .running interval →
      ∃ t, exec (.restoreTimerExpiry i) s = .next t ∧
        t.chains[i] = { s.chains[i] with mode := .split { x with restore := .expired } } ∧ OnlyChain i s t ∧
        OnlyChanges [.chains] s t) ∧
    (∀ set, x.restore = .expired → x.phase = .driving .idle .idle set →
      ∃ t, exec (.restoreAttempt i) s = .next t ∧
        t.chains[i] = { s.chains[i] with
          mode := .split { x with phase := .restoreProbe, restore := .stopped }
          sent := { sender := .out, frame := probeFrame .out 0 } :: s.chains[i].sent } ∧
        OnlyChain i s t ∧ OnlyChanges [.chains] s t) ∧
    (let stays : Chain := { s.chains[i] with mode := .split { x with
         phase := .driving .idle .idle []
         restore := if s.chains[i].rejoin = .auto then .running s.chains[i].restoreInterval else .stopped } }
     (x.phase = .restoreProbe →
       (∃ t, exec (.probeReturned i .out (probeFrame .out 0)) s = .next t ∧
         t.chains[i] = { s.chains[i] with
           mode := .split { x with phase := .restoreCount }
           sent := { sender := .out, frame := countFrame .out 0 1 } :: s.chains[i].sent } ∧
         OnlyChain i s t ∧ OnlyChanges [.chains] s t) ∧
       (∃ t, exec (.probeLost i .out) s = .next t ∧ t.chains[i] = stays ∧ OnlyChain i s t ∧
         OnlyChanges [.chains] s t) ∧
       (∀ f : RingFrame, frameClean f .probe .out 0 = false →
         exec (.probeReturned i .out f) s = exec (.probeLost i .out) s)) ∧
     (x.phase = .restoreCount →
       (∀ f : RingFrame, (frameClean f .count .out 1 = true → ∀ y ∈ f.slots, slotHolds y = false) →
         exec (.countReturned i f) s = exec (.countLost i) s) ∧
       (s.chains[i].found ≤ 60 →
         ∃ t, exec (.countReturned i (countFrame .out 0 (s.chains[i].found + 1))) s = .next t ∧
         t.chains[i] = { s.chains[i] with
           mode := .split { x with phase := .restoreIdent }
           sent := { sender := .out, frame := identFrame .out 0 s.chains[i].found } :: s.chains[i].sent } ∧
         OnlyChain i s t ∧ OnlyChanges [.chains] s t) ∧
       (∀ n, n ≤ 254 → n ≠ s.chains[i].found → s.notices.list.length ≤ 8 →
         ∃ t, exec (.countReturned i (countFrame .out 0 (n + 1))) s = .next t ∧ t.chains[i] = stays ∧
           t.notices = s.notices.after .countMismatch (.chain i) (.number (min 61 n)) ∧ OnlyChain i s t ∧
           OnlyChanges [.chains, .notices, .noticeLow] s t) ∧
       (∃ t, exec (.countLost i) s = .next t ∧ t.chains[i] = stays ∧ OnlyChain i s t ∧
         OnlyChanges [.chains] s t)) ∧
     (x.phase = .restoreIdent →
       (∃ t, exec (.identLost i) s = .next t ∧ t.chains[i] = stays ∧ OnlyChain i s t ∧ OnlyChanges [.chains] s t) ∧
       (∀ f : RingFrame, (frameClean f .ident .out s.chains[i].found = true → ∃ b ∈ f.slots, goodIdentReply b = false) →
         exec (.identReturned i f) s = exec (.identLost i) s))) ∧
    (∀ f : RingFrame, x.phase = .restoreIdent → s.chains[i].found ≤ 60 → s.notices.list.length ≤ 8 →
      frameClean f .ident .out s.chains[i].found = true → (∀ b ∈ f.slots, goodIdentReply b = true) →
      ∃ t, exec (.identReturned i f) s = .next t ∧
        t.chains[i] = { s.chains[i] with
          mode := .ring none, ringDone := true, brk := none, mailbox := none, runOut := 0, runIn := 0
          switches := min 255 (s.chains[i].switches + 1), nodes := t.chains[i].nodes } ∧
        (∀ k : Fin 60, t.chains[i].nodes[k] =
          (let n := { s.chains[i].nodes[k] with bin := match f.slots[k.val]? with
             | some b => slotBin b
             | none => s.chains[i].nodes[k].bin }
           if n.state = .unreachable then { n with state := .suspect, badReplies := 0, goodRun := 0 } else n)) ∧
        t.notices = s.notices.after .chainState (.chain i) (.chain .restored) ∧ OnlyChain i s t ∧
        onlyMarks i s t ∧ OnlyChanges [.chains, .composer, .notices, .noticeLow] s t)

/-! ## Sequences (chapter 8) -/

/-- R145: LOAD_TEMPLATE stores a descriptor as it is tested and clamped (11.2; that a colour source B without a GRADIENT
is tested and clamped too is DEDUCED, log 35), CLEAR_TEMPLATE makes the template EMPTY, and every other template stays; a
template number above 23 is BAD_VALUE. R147 to R150: LOAD_STEPS writes up to 16 steps at consecutive places of a slot that
is not RUNNING, which enters or stays in LOADING and replies its written set. R148, 11.3: which steps are refused, and
what is stored and clamped of the others; that the target bits of a CONTINUE and an ABORT are ignored, and that reserved
bytes are tested before the slot's state, is the model's reading (DEDUCED, log 25). An empty list, one that passes index
31 and a refused step are BAD_VALUE. FINISH_SEQUENCE of a LOADING slot makes it READY with its count and rank where every
condition of the validation holds, and else is BAD_VALUE with the first condition that fails, in the order of the table,
at its lowest index; of a slot that is not LOADING it is WRONG_STATE; CLEAR_SEQUENCE makes a slot that is not RUNNING
EMPTY; a RUNNING slot is BUSY for all three, and a slot number above 5 BAD_VALUE, as are a step count of 0 or above 32 and
a rank above 7 in FINISH_SEQUENCE. -/
def Obligations.TemplatesAndSequenceSlotsAreLoaded : Prop :=
  (∀ (h : Header) (template : Byte) (n : Fin 24) (s : State), Reaches .configuring h s → h.plain = true →
     template.toNat = n.val →
     (∀ d d' altered, descriptorOf d = some (d', altered) →
       ∃ t, exec (.loadTemplate h template d) s = .next t ∧ Answers s t h (doneStatus altered) .empty ∧
         StoredDescriptor d d' altered ∧ t.seq.templates[n] = some d' ∧
         (∀ m : Fin 24, m ≠ n → t.seq.templates[m] = s.seq.templates[m]) ∧
         t.seq = { s.seq with templates := t.seq.templates } ∧ OnlyChanges [.seq, .reply, .sdo] s t) ∧
     (∃ t, exec (.clearTemplate h template) s = .next t ∧ Answers s t h .ok .empty ∧ t.seq.templates[n] = none ∧
       (∀ m : Fin 24, m ≠ n → t.seq.templates[m] = s.seq.templates[m]) ∧
       t.seq = { s.seq with templates := t.seq.templates } ∧ OnlyChanges [.seq, .reply, .sdo] s t)) ∧
  (∀ r : RawStep, (stepReservedOk r = false ↔ ReservedStep r) ∧ (stepOf r = none ↔ RefusedStep r) ∧
     ∀ (x : Step) (altered : Bool), stepOf r = some (x, altered) → StoredStep r x altered) ∧
  (∀ (h : Header) (number : Byte) (s : State), Reaches .configuring h s → h.plain = true →
     (let bad : Instr → Prop := fun i =>
        ∃ t, exec i s = .next t ∧ Answers s t h .badValue .empty ∧ OnlyChanges [.reply, .sdo] s t
      (∀ d, 23 < number.toNat ∨ RefusedDescriptor d → bad (.loadTemplate h number d)) ∧
      (23 < number.toNat → bad (.clearTemplate h number)) ∧ (5 < number.toNat → bad (.clearSequence h number)) ∧
      (∀ count rank : Byte, 5 < number.toNat ∨ count.toNat = 0 ∨ 32 < count.toNat ∨ 7 < rank.toNat →
        bad (.finishSequence h number count rank)) ∧
      (∀ (first : Byte) (raws : List RawStep), raws.length ≤ 16 →
        (5 < number.toNat ∨ (∃ raw ∈ raws, ReservedStep raw) → bad (.loadSteps h number first raws)) ∧
        (∀ k : Fin 6, number.toNat = k.val → (∀ r, s.seq.slots[k].state ≠ .running r) →
          raws = [] ∨ 32 < first.toNat + raws.length ∨ (∃ raw ∈ raws, RefusedStep raw) →
          bad (.loadSteps h number first raws))))) ∧
  (∀ (h : Header) (slot : Byte) (k : Fin 6) (s : State), Reaches .configuring h s → h.plain = true →
     slot.toNat = k.val →
     (let q := s.seq.slots[k]
      let only : State → Prop := fun t =>
        (∀ m : Fin 6, m ≠ k → t.seq.slots[m] = s.seq.slots[m]) ∧ t.seq = { s.seq with slots := t.seq.slots } ∧
          OnlyChanges [.seq, .reply, .sdo] s t
      let refuses : Status → Payload → Instr → Prop := fun status payload i =>
        ∃ t, exec i s = .next t ∧ Answers s t h status payload ∧ OnlyChanges [.reply, .sdo] s t
      ((∀ r, q.state ≠ .running r) →
        (∀ (first : Byte) (raws : List RawStep) (xs : List (Step × Bool)), raws.map stepOf = xs.map some →
          1 ≤ raws.length → raws.length ≤ 16 → first.toNat + raws.length ≤ 32 →
          (∀ raw ∈ raws, stepReservedOk raw = true) →
          ∃ t, exec (.loadSteps h slot first raws) s = .next t ∧
            t.seq.slots[k].state = .loading ∧ t.seq.slots[k].rank = q.rank ∧ t.seq.slots[k].count = q.count ∧
            (∀ i : Fin 32, t.seq.slots[k].steps[i] =
              if first.toNat ≤ i.val ∧ i.val < first.toNat + raws.length then
                (xs[i.val - first.toNat]?).map (·.1)
              else q.steps[i]) ∧
            (∀ i : Fin 32, t.seq.slots[k].written.getLsbD i = true ↔
              (first.toNat ≤ i.val ∧ i.val < first.toNat + raws.length) ∨
                (q.state = .loading ∧ q.written.getLsbD i = true)) ∧
            Answers s t h (doneStatus (xs.any (·.2))) (.written t.seq.slots[k].written) ∧ only t) ∧
        (∃ t, exec (.clearSequence h slot) s = .next t ∧ Answers s t h .ok .empty ∧
          t.seq.slots[k] = { state := .empty, rank := 0, count := 0, steps := Vector.replicate 32 none,
                             written := 0 } ∧ only t)) ∧
      (∀ count rank : Byte, 1 ≤ count.toNat → count.toNat ≤ 32 → rank.toNat ≤ 7 →
        (q.state = .loading → (∀ fault i, i < count.toNat → ¬ breaksRule q count.toNat fault i) →
          ∃ t, exec (.finishSequence h slot count rank) s = .next t ∧ Answers s t h .ok .empty ∧
            t.seq.slots[k].state = .ready ∧ t.seq.slots[k].count = count.toNat ∧
            t.seq.slots[k].rank = rank.toNat ∧
            (∀ j : Fin 32, t.seq.slots[k].steps[j] = if j.val < count.toNat then q.steps[j] else none) ∧ only t) ∧
        (∀ fault i, q.state = .loading → i < count.toNat → breaksRule q count.toNat fault i →
          (∀ j, j < i → ¬ breaksRule q count.toNat fault j) →
          (∀ other j, sequenceFaults.idxOf other < sequenceFaults.idxOf fault → j < count.toNat →
            ¬ breaksRule q count.toNat other j) →
          refuses .badValue (.sequenceFault fault i) (.finishSequence h slot count rank)) ∧
        (q.state = .empty ∨ q.state = .ready → refuses .wrongState .empty (.finishSequence h slot count rank))) ∧
      (∀ r : Fin 2, q.state = .running r →
        refuses .busy .empty (.clearSequence h slot) ∧
        (∀ count rank : Byte, 1 ≤ count.toNat → count.toNat ≤ 32 → rank.toNat ≤ 7 →
          refuses .busy .empty (.finishSequence h slot count rank)) ∧
        (∀ (first : Byte) (raws : List RawStep), raws.length ≤ 16 → (∀ raw ∈ raws, stepReservedOk raw = true) →
          refuses .busy .empty (.loadSteps h slot first raws)))))

/-- R151, R152, R154, R155, R159, R165: START_SEQUENCE of a READY slot whose first step waits and whose steps post
nothing, while runner 0 is idle: the slot is RUNNING under runner 0, which waits at index 0. A slot that is RUNNING is
BUSY, one that is EMPTY or LOADING NOT_FOUND. R65: every zone of a template that a POST step of the slot names is released
at the start. R152, R153: a START takes runner 0, else runner 1; with both active it preempts the one of the lower rank,
of equals the one started earlier, where its own rank is higher: that runner's cues fade, its slot is READY and
SEQUENCE_END (PREEMPTED) is raised; where it is not higher, the START is BUSY. READ_SEQUENCE reports a slot and changes
nothing. A slot above 5 is BAD_VALUE for both, in DIMMING too (R152), and a first index above 31 for READ_SEQUENCE (R167). -/
def Obligations.StartSequenceTakesARunner : Prop :=
  (∀ (h : Header) (slot : Byte) (k : Fin 6) (s : State), Reaches .open_ h s → h.plain = true → slot.toNat = k.val →
     (∀ d : Nat, s.power.state ≠ .dimming → s.seq.slots[k].state = .ready → s.seq.slots[k].steps[(0 : Fin 32)] =
       some (.wait d) → (∀ (j : Fin 32) t l, s.seq.slots[k].steps[j] ≠ some (.post t l)) →
       s.seq.runners[(0 : Fin 2)].state = .idle →
       ∃ t, exec (.startSequence h slot) s = .next t ∧ Answers s t h .ok (.runner 0) ∧
         t.seq.runners[(0 : Fin 2)] =
           { state := .timedWait, slot := some k, startedBy := some (.client h.client), order := some s.seq.nextOrder,
             index := 0, labels := Vector.replicate 8 none, loop := none, posted := 0, wait := some d } ∧
         t.seq.runners[(1 : Fin 2)] = s.seq.runners[(1 : Fin 2)] ∧
         t.seq.slots[k] = { s.seq.slots[k] with state := .running 0 } ∧
         (∀ m : Fin 6, m ≠ k → t.seq.slots[m] = s.seq.slots[m]) ∧ t.seq.templates = s.seq.templates ∧
         t.power = s.power.reloadDark ∧ OnlyChanges [.seq, .power, .reply, .sdo] s t) ∧
     (∀ (d : Nat) (r : Fin 2), s.power.state ≠ .dimming → s.seq.slots[k].state = .ready → HasStep k 0 (.wait d) s →
       s.seq.runners[r].state = .idle → (r = 1 → s.seq.runners[(0 : Fin 2)].state ≠ .idle) →
       ∃ t, exec (.startSequence h slot) s = .next t ∧ Answers s t h .ok (.runner r) ∧
         Started r k (.client h.client) d s t ∧ (∀ q : Fin 2, q ≠ r → t.seq.runners[q] = s.seq.runners[q]) ∧
         (∀ m : Fin 6, m ≠ k → t.seq.slots[m] = s.seq.slots[m]) ∧
         (∀ z : Fin 16,
           (PostsTo k z s → s.zones[z].hold ≠ .clear →
             t.zones[z] = { s.zones[z] with hold := .clear, count := s.zones[z].count + 1 } ∧
             ∀ w : Fin 8, s.watches.slots[w].entry.map (·.zone) = some z → t.watches.slots[w].entry = none) ∧
           (¬ PostsTo k z s ∨ s.zones[z].hold = .clear → t.zones[z] = s.zones[z] ∧
             ∀ w : Fin 8, s.watches.slots[w].entry.map (·.zone) = some z →
               t.watches.slots[w] = s.watches.slots[w])) ∧
         t.power = s.power.reloadDark ∧ OnlyChanges [.zones, .watches, .seq, .power, .reply, .sdo] s t) ∧
     (∀ (d : Nat) (r : Fin 2) (m : Fin 6) (a : Nat), s.power.state ≠ .dimming → s.seq.slots[k].state = .ready →
       HasStep k 0 (.wait d) s → (∀ z, ¬ PostsTo k z s) → CueInv s → s.notices.list.length ≤ 8 → m ≠ k →
       (∀ q : Fin 2, s.seq.runners[q].state ≠ .idle) → s.seq.runners[r].slot = some m →
       s.seq.runners[r].order = some a → s.seq.slots[m].rank < s.seq.slots[k].rank →
       (∀ q : Fin 2, q ≠ r → ∃ n b, s.seq.runners[q].slot = some n ∧ s.seq.runners[q].order = some b ∧
         (s.seq.slots[m].rank < s.seq.slots[n].rank ∨ (s.seq.slots[m].rank = s.seq.slots[n].rank ∧ a < b))) →
       ∃ t, exec (.startSequence h slot) s = .next t ∧ Answers s t h .ok (.runner r) ∧
         Started r k (.client h.client) d s t ∧ (∀ q : Fin 2, q ≠ r → t.seq.runners[q] = s.seq.runners[q]) ∧
         t.seq.slots[m] = { s.seq.slots[m] with state := .ready } ∧
         (∀ n : Fin 6, n ≠ k → n ≠ m → t.seq.slots[n] = s.seq.slots[n]) ∧ CuesFade (Cue.ranBy r) s t ∧
         t.notices = s.notices.after .sequenceEnd (.slot m) (.ended .preempted) ∧ t.power = s.power.reloadDark ∧
         OnlyChanges [.cues, .zones, .watches, .seq, .power, .notices, .noticeLow, .reply, .sdo] s t) ∧
     (s.power.state ≠ .dimming → s.seq.slots[k].state = .ready →
       (∀ q : Fin 2, s.seq.runners[q].state ≠ .idle ∧
         ∃ n, s.seq.runners[q].slot = some n ∧ s.seq.slots[k].rank ≤ s.seq.slots[n].rank) →
       ∃ t, exec (.startSequence h slot) s = .next t ∧ Answers s t h .busy .empty ∧ OnlyChanges [.reply, .sdo] s t) ∧
     (∀ r, s.power.state ≠ .dimming → s.seq.slots[k].state = .running r →
       ∃ t, exec (.startSequence h slot) s = .next t ∧ Answers s t h .busy .empty ∧ OnlyChanges [.reply, .sdo] s t) ∧
     (s.power.state ≠ .dimming → s.seq.slots[k].state = .empty ∨ s.seq.slots[k].state = .loading →
       ∃ t, exec (.startSequence h slot) s = .next t ∧ Answers s t h .notFound .empty ∧
         OnlyChanges [.reply, .sdo] s t) ∧
     (s.power.state = .dimming →
       ∃ t, exec (.startSequence h slot) s = .next t ∧ Answers s t h .wrongState .empty ∧
         OnlyChanges [.reply, .sdo] s t) ∧
     (∀ (first : Byte) (j : Fin 32), first.toNat = j.val →
       ∃ t r, exec (.readSequence h slot first) s = .next t ∧ Answers s t h .ok (.sequence r) ∧
         r.state = s.seq.slots[k].state ∧ r.rank = s.seq.slots[k].rank ∧ r.count = s.seq.slots[k].count ∧
         r.steps = (s.seq.slots[k].steps.toList.drop j.val).take 16 ∧
         (∀ n, s.seq.slots[k].state = .running n → r.runner = some { number := n, runner := s.seq.runners[n] }) ∧
         OnlyChanges [.reply, .sdo] s t)) ∧
  ∀ (h : Header) (slot first : Byte) (s : State), Reaches .open_ h s → h.plain = true →
    (5 < slot.toNat → Refuses h .badValue .empty (.startSequence h slot) s) ∧
    (5 < slot.toNat ∨ 31 < first.toNat → Refuses h .badValue .empty (.readSequence h slot first) s)

/-- R164, R165, R166: ABORT_SEQUENCE of a RUNNING slot whose runner has no live cue, by client 0 or by the client that
started it: the runner is idle, the slot READY, SEQUENCE_END (ABORTED) is raised, and where the other runner is idle too
the staged colours are applied. Where the runner has live cues, those that are not fading begin their fade-outs. Another
client is DENIED; a slot that is not RUNNING is WRONG_STATE, and one above 5 BAD_VALUE. That the idle runner keeps its
step index is the model's choice (log 37). -/
def Obligations.AbortSequenceStopsTheRunner : Prop :=
  (∀ (h : Header) (slot : Byte) (k : Fin 6) (s : State), Reaches .open_ h s → h.plain = true → slot.toNat = k.val →
     (∀ r : Fin 2, s.seq.slots[k].state = .running r → s.seq.runners[r].slot = some k →
       (h.client = 0 ∨ s.seq.runners[r].startedBy = some (.client h.client)) →
       (∀ (j : Fin 48) (c : Cue), s.cues.slots[j].cue = some c → ∀ x, c.tag = some x → x.runner ≠ r) →
       s.notices.list.length ≤ 8 →
       ∃ t, exec (.abortSequence h slot) s = .next t ∧ Answers s t h .ok .empty ∧
         t.seq.runners[r].state = .idle ∧ t.seq.runners[r].slot = none ∧
         (∀ q : Fin 2, q ≠ r → t.seq.runners[q] = s.seq.runners[q]) ∧
         t.seq.slots[k] = { s.seq.slots[k] with state := .ready } ∧
         (∀ m : Fin 6, m ≠ k → t.seq.slots[m] = s.seq.slots[m]) ∧ t.seq.templates = s.seq.templates ∧
         t.notices = s.notices.after .sequenceEnd (.slot k) (.ended .aborted) ∧
         (∀ e : Fin 32, t.palette[e] =
           if (∀ q : Fin 2, q ≠ r → s.seq.runners[q].state = .idle) then
             (match s.palette[e].staged with
               | none => s.palette[e]
               | some c => { colour := some c, staged := none })
           else s.palette[e]) ∧
         OnlyChanges [.seq, .palette, .notices, .noticeLow, .reply, .sdo] s t) ∧
     (∀ r : Fin 2, s.seq.slots[k].state = .running r → s.seq.runners[r].slot = some k →
       (h.client = 0 ∨ s.seq.runners[r].startedBy = some (.client h.client)) → CueInv s →
       s.notices.list.length ≤ 8 →
       ∃ t, exec (.abortSequence h slot) s = .next t ∧ Answers s t h .ok .empty ∧ RunEnds r k s t ∧
         CuesFade (Cue.ranBy r) s t ∧ t.notices = s.notices.after .sequenceEnd (.slot k) (.ended .aborted) ∧
         staysStaged r s t ∧
         OnlyChanges [.cues, .zones, .watches, .seq, .palette, .notices, .noticeLow, .reply, .sdo] s t) ∧
     (∀ r : Fin 2, s.seq.slots[k].state = .running r → h.client ≠ 0 →
       s.seq.runners[r].startedBy ≠ some (.client h.client) →
       ∃ t, exec (.abortSequence h slot) s = .next t ∧ Answers s t h .denied .empty ∧
         OnlyChanges [.reply, .sdo] s t) ∧
     ((∀ r, s.seq.slots[k].state ≠ .running r) →
       ∃ t, exec (.abortSequence h slot) s = .next t ∧ Answers s t h .wrongState .empty ∧
         OnlyChanges [.reply, .sdo] s t)) ∧
  ∀ (h : Header) (slot : Byte) (s : State), Reaches .open_ h s → h.plain = true → 5 < slot.toNat →
    Refuses h .badValue .empty (.abortSequence h slot) s

/-- R159, R161: a runner whose WAIT has run out goes on at the next step, and one whose WAIT_SIGNAL has timed out raises
STEP_TIMEOUT and goes on under CONTINUE; here the next step is a WAIT, at which it waits again. R8, R168: in DORMANT and
WAKING neither occurs. R156 to R158, R160, R162, R163: what the step after the WAIT does, where a WAIT follows it. A POST
posts a template's cue under its label, and empties the label for an EMPTY template and for NO_ROOM; it purges the
runner's own cues (R15), which begin their fade-outs or are free at once and leave their labels, and it evicts a cue where
it finds no slot (R16, R17). A RETIRE and a MODIFY act on the cue of a label, which a RETIRE FADE frees where its fade-out
time is 0, and are skipped for an empty label; a MODIFY is skipped for a fading cue too. A WAIT_SIGNAL goes on at once
where its signal has the waited value, and else waits for it, with its timeout or without one. A REPEAT goes back as often
as it says; an END disposes of the runner's cues, with the runner idle, its slot READY and SEQUENCE_END (DONE). R161:
ABORT and GOTO on a timeout. R160: the change of a signal to the waited value releases the runner that waits on it, and
its next step is taken in the same SET_SIGNALS. That a runner that has ended its run keeps its step index is the model's
choice (DEDUCED, log 37). -/
def Obligations.RunnerWaitsEnd : Prop :=
  (∀ (r : Fin 2) (k : Fin 6) (i j : Fin 32) (d : Nat) (s : State), s.resetLow = false →
    s.power.state.timeRuns = true → s.seq.runners[r].slot = some k → s.seq.runners[r].index = i.val →
    s.seq.runners[r].wait = some 0 → j.val = i.val + 1 → s.seq.slots[k].steps[j] = some (.wait d) →
    (s.seq.runners[r].state = .timedWait →
      ∃ t, exec (.waitExpiry r) s = .next t ∧
        t.seq.runners[r] = { s.seq.runners[r] with state := .timedWait, index := j.val, wait := some d } ∧
        (∀ q : Fin 2, q ≠ r → t.seq.runners[q] = s.seq.runners[q]) ∧
        t.seq = { s.seq with runners := t.seq.runners } ∧ OnlyChanges [.seq] s t) ∧
    (∀ n v timeout, s.seq.runners[r].state = .signalWait →
      s.seq.slots[k].steps[i] = some (.waitSignal n v timeout .goOn) → s.notices.list.length ≤ 8 →
      ∃ t, exec (.waitSignalTimeout r) s = .next t ∧
        t.seq.runners[r] = { s.seq.runners[r] with state := .timedWait, index := j.val, wait := some d } ∧
        (∀ q : Fin 2, q ≠ r → t.seq.runners[q] = s.seq.runners[q]) ∧
        t.seq = { s.seq with runners := t.seq.runners } ∧
        t.notices = s.notices.after .stepTimeout (.slot k) (.number i.val) ∧
        OnlyChanges [.seq, .notices, .noticeLow] s t)) ∧
  (∀ (r : Fin 2) (s : State), s.power.state = .dormant ∨ s.power.state = .waking →
    exec (.waitExpiry r) s = .next s ∧ exec (.waitSignalTimeout r) s = .next s) ∧
  (∀ (r : Fin 2) (k : Fin 6) (i d : Nat) (s : State), s.resetLow = false → s.power.state.timeRuns = true →
    RunsAt r k i s → s.seq.runners[r].wait = some 0 → s.seq.runners[r].state = .timedWait →
    HasStep k (i + 2) (.wait d) s → CueInv s →
    (let x := s.seq.runners[r]
     (∀ (m : Fin 8), x.labels[m] = none →
       ((∃ mode, HasStep k (i + 1) (.retire m mode) s) ∨ (∃ n, HasStep k (i + 1) (.modify m n) s)) →
       ∃ t, exec (.waitExpiry r) s = .next t ∧ WaitsAt r x (i + 2) d s t ∧ OnlyChanges [.seq] s t) ∧
     (∀ (m : Fin 8) (n : Fin 48) (c : Cue), x.labels[m] = some { slot := n, gen := s.cues.slots[n].gen } →
       s.cues.slots[n].cue = some c → c.tag = some { runner := r, label := m } →
       (HasStep k (i + 1) (.retire m .fade) s → c.phase.isFadingOut = false → c.desc.fadeOut ≠ 0 →
         ∃ t, exec (.waitExpiry r) s = .next t ∧ t.cues.slots[n] = s.cues.slots[n].fading c.desc.fadeOut ∧
           OnlySlot n s t ∧ t.cues.retiring = s.cues.retiring ++ [n] ∧ RaisesEvents c.desc.zones none s t ∧
           WaitsAt r x (i + 2) d s t ∧ OnlyChanges [.cues, .zones, .watches, .seq] s t) ∧
       (HasStep k (i + 1) (.retire m .fade) s → c.phase.isFadingOut = false → c.desc.fadeOut = 0 →
         ∃ t, exec (.waitExpiry r) s = .next t ∧
           t.cues.slots[n] = { gen := s.cues.slots[n].gen, cue := none } ∧ OnlySlot n s t ∧
           t.cues.postOrder = (s.cues.postOrder.filter fun j => j != n) ∧ t.cues.retiring = s.cues.retiring ∧
           WaitsAt r { x with labels := labelsWithout x.labels fun l => some l == x.labels[m] } (i + 2) d s t ∧
           OnlyChanges [.cues, .zones, .watches, .seq] s t) ∧
       ((HasStep k (i + 1) (.retire m .fade) s ∨ ∃ intensity, HasStep k (i + 1) (.modify m intensity) s) →
         c.phase.isFadingOut = true →
         ∃ t, exec (.waitExpiry r) s = .next t ∧ WaitsAt r x (i + 2) d s t ∧ OnlyChanges [.seq] s t) ∧
       (HasStep k (i + 1) (.retire m .now) s →
         ∃ t, exec (.waitExpiry r) s = .next t ∧
           t.cues.slots[n] = { gen := s.cues.slots[n].gen, cue := none } ∧ OnlySlot n s t ∧
           RaisesEvents c.desc.zones none s t ∧
           WaitsAt r { x with labels := x.labels.map fun l => if l = x.labels[m] then none else l } (i + 2) d s t ∧
           OnlyChanges [.cues, .zones, .watches, .seq] s t) ∧
       (∀ intensity, HasStep k (i + 1) (.modify m intensity) s → c.phase.isFadingOut = false →
         ∃ t, exec (.waitExpiry r) s = .next t ∧
           t.cues.slots[n] = { gen := s.cues.slots[n].gen
                               cue := some { c with desc := { c.desc with intensity := intensity } } } ∧
           OnlySlot n s t ∧ t.cues.retiring = s.cues.retiring ∧ RaisesEvents c.desc.zones none s t ∧
           WaitsAt r x (i + 2) d s t ∧ OnlyChanges [.cues, .zones, .watches, .seq] s t)) ∧
     (∀ (a : Fin 24) (m : Fin 8), HasStep k (i + 1) (.post a m) s →
       (s.seq.templates[a] = none →
         ∃ t, exec (.waitExpiry r) s = .next t ∧
           WaitsAt r { x with labels := x.labels.set m none } (i + 2) d s t ∧ OnlyChanges [.seq] s t) ∧
       (∀ (b : Descriptor) (n : Fin 48), s.seq.templates[a] = some b → 8 ≤ n.val → s.cues.slots[n].cue = none →
         (∀ j : Fin 48, 8 ≤ j.val → j < n → s.cues.slots[j].cue ≠ none) →
         (∀ (j : Fin 48) (c : Cue), s.cues.slots[j].cue = some c → c.ranBy r = true → isPurged s 7 b j = false) →
         ∃ t, exec (.waitExpiry r) s = .next t ∧
           t.cues.slots[n] = { gen := s.cues.slots[n].gen + 1
                               cue := some (writtenCue s 7 (some { runner := r, label := m }) b) } ∧
           OnlySlot n s t ∧ t.cues.postOrder = s.cues.postOrder ++ [n] ∧ RaisesEvents b.zones none s t ∧
           t.power = s.power.reloadDark ∧
           WaitsAt r { x with labels := x.labels.set m (some { slot := n, gen := s.cues.slots[n].gen + 1 })
                              posted := x.posted ||| b.zones } (i + 2) d s t ∧
           OnlyChanges [.cues, .zones, .watches, .seq, .power] s t) ∧
       (∀ (b : Descriptor) (n : Fin 48), s.seq.templates[a] = some b → 8 ≤ n.val →
         (let purged := runPurged s r b
          let written : CueSlot := { gen := s.cues.slots[n].gen + 1
                                     cue := some (writtenCue s 7 (some { runner := r, label := m }) b) }
          let posts : Vector (Option Handle) 8 → State → Prop := fun labels t =>
            t.cues.slots[n] = written ∧ t.power = s.power.reloadDark ∧
            WaitsAt r { x with labels := labels.set m (some { slot := n, gen := s.cues.slots[n].gen + 1 })
                               posted := x.posted ||| b.zones } (i + 2) d s t
          (b.fadeIn ≠ 0 → s.cues.slots[n].cue = none → (∀ j : Fin 48, 8 ≤ j.val → j < n → s.cues.slots[j].cue ≠ none) →
            ∃ t, exec (.waitExpiry r) s = .next t ∧ posts x.labels t ∧
              (∀ j : Fin 48, j ≠ n → t.cues.slots[j] =
                if isRunPurged s r b j then s.cues.slots[j].fading b.fadeIn else s.cues.slots[j]) ∧
              t.cues.postOrder = s.cues.postOrder ++ [n] ∧ t.cues.retiring = s.cues.retiring ++ purged ∧
              OnlyChanges [.cues, .zones, .watches, .seq, .power] s t) ∧
          (b.fadeIn = 0 → s.cues.slots[n].cue = none ∨ isRunPurged s r b n = true →
            (∀ j : Fin 48, 8 ≤ j.val → j < n → s.cues.slots[j].cue ≠ none ∧ isRunPurged s r b j = false) →
            ∃ t, exec (.waitExpiry r) s = .next t ∧
              posts (labelsWithout x.labels fun l => isRunPurged s r b l.slot && l.gen == s.cues.slots[l.slot].gen) t ∧
              (∀ j : Fin 48, j ≠ n → t.cues.slots[j] =
                if isRunPurged s r b j then { gen := s.cues.slots[j].gen, cue := none } else s.cues.slots[j]) ∧
              t.cues.postOrder = (s.cues.postOrder.filter fun j => !isRunPurged s r b j) ++ [n] ∧
              t.cues.retiring = s.cues.retiring ∧ OnlyChanges [.cues, .zones, .watches, .seq, .power] s t) ∧
          ((∀ j : Fin 48, 8 ≤ j.val → s.cues.slots[j].cue ≠ none) → s.notices.list.length ≤ 8 →
            ∀ c : Cue, s.cues.slots[n].cue = some c → Evicts s purged b n c → (∀ y, c.tag = some y → y.runner = r) →
            ∃ t, exec (.waitExpiry r) s = .next t ∧
              posts (labelsWithout x.labels fun l =>
                c.ranBy r && l == { slot := n, gen := s.cues.slots[n].gen }) t ∧
              (∀ j : Fin 48, j ≠ n → t.cues.slots[j] =
                if isRunPurged s r b j then s.cues.slots[j].fading b.fadeIn else s.cues.slots[j]) ∧
              t.cues.postOrder = (s.cues.postOrder.filter fun j => j != n) ++ [n] ∧
              t.cues.retiring = (s.cues.retiring ++ purged).filter (fun j => j != n) ∧
              t.notices = s.notices.after .cueEvicted (.client c.owner) (.number n.val) ∧
              OnlyChanges [.cues, .zones, .watches, .seq, .power, .notices, .noticeLow] s t))) ∧
       (∀ b : Descriptor, s.seq.templates[a] = some b → (∀ j : Fin 48, 8 ≤ j.val → s.cues.slots[j].cue ≠ none) →
         runPurged s r b = [] → (∀ j ∈ s.cues.retiring, j.val < 8) →
         (∀ (j : Fin 48) (e : Cue), 8 ≤ j.val → s.cues.slots[j].cue = some e → ¬ ranksAbove b e.desc) →
         ∃ t, exec (.waitExpiry r) s = .next t ∧
           WaitsAt r { x with labels := x.labels.set m none } (i + 2) d s t ∧ OnlyChanges [.seq] s t)) ∧
     (∀ n v length action, HasStep k (i + 1) (.waitSignal n v length action) s →
       (s.signals.getLsbD n = v →
         ∃ t, exec (.waitExpiry r) s = .next t ∧ WaitsAt r x (i + 2) d s t ∧ OnlyChanges [.seq] s t) ∧
       (s.signals.getLsbD n = !v →
         ∃ t, exec (.waitExpiry r) s = .next t ∧ WaitsForSignal r x (i + 1) length s t ∧ OnlyChanges [.seq] s t)) ∧
     (∀ target count back, HasStep k (i + 1) (.repeatFrom target count) s → HasStep k target (.wait back) s →
       (∀ left, (match x.loop with
           | some y => if y.index = i + 1 then y.remaining else count
           | none => count) = left + 1 →
         ∃ t, exec (.waitExpiry r) s = .next t ∧
           WaitsAt r { x with loop := some { index := i + 1, remaining := left } } target back s t ∧
           OnlyChanges [.seq] s t) ∧
       ((match x.loop with
           | some y => if y.index = i + 1 then y.remaining else count
           | none => count) = 0 →
         ∃ t, exec (.waitExpiry r) s = .next t ∧ WaitsAt r { x with loop := none } (i + 2) d s t ∧
           OnlyChanges [.seq] s t)))) ∧
  (∀ (r : Fin 2) (k : Fin 6) (i : Nat) (s : State), s.resetLow = false → s.power.state.timeRuns = true →
    RunsAt r k i s → s.seq.runners[r].wait = some 0 → CueInv s → s.notices.list.length ≤ 8 →
    (let fields : List Field := [.cues, .zones, .watches, .seq, .palette, .notices, .noticeLow]
     let timeout := s.notices.after .stepTimeout (.slot k) (.number i)
     (∀ disposition, s.seq.runners[r].state = .timedWait → HasStep k (i + 1) (.finish disposition) s →
       ∃ t, exec (.waitExpiry r) s = .next t ∧ RunEnds r k s t ∧
         t.notices = s.notices.after .sequenceEnd (.slot k) (.ended .done) ∧ staysStaged r s t ∧
         (disposition = .keep →
           (∀ n : Fin 48, t.cues.slots[n] = { s.cues.slots[n] with
             cue := s.cues.slots[n].cue.map fun c => if c.ranBy r then { c with tag := none } else c }) ∧
           t.zones = s.zones ∧ t.watches = s.watches) ∧
         (disposition = .retire → CuesFade (Cue.ranBy r) s t) ∧
         (disposition = .hold →
           (∀ n : Fin 48, t.cues.slots[n] = { s.cues.slots[n] with
             cue := s.cues.slots[n].cue.filter fun c => !c.ranBy r }) ∧
           ∀ z : Fin 16, t.zones[z] = { s.zones[z] with
             count := t.zones[z].count
             hold := if s.seq.runners[r].posted.getLsbD z = true ∧ s.zones[z].hold = .clear then .pending
               else s.zones[z].hold }) ∧
         OnlyChanges fields s t) ∧
     (∀ n v length, s.seq.runners[r].state = .signalWait →
       (HasStep k i (.waitSignal n v length .abort) s →
         ∃ t, exec (.waitSignalTimeout r) s = .next t ∧ RunEnds r k s t ∧
           t.notices = timeout.after .sequenceEnd (.slot k) (.ended .timeout) ∧ staysStaged r s t ∧
           CuesFade (Cue.ranBy r) s t ∧ OnlyChanges fields s t) ∧
       (∀ target back, HasStep k i (.waitSignal n v length (.goto target)) s → HasStep k target (.wait back) s →
         ∃ t, exec (.waitSignalTimeout r) s = .next t ∧
           WaitsAt r { s.seq.runners[r] with loop := none } target back s t ∧ t.notices = timeout ∧
           OnlyChanges [.seq, .notices, .noticeLow] s t)))) ∧
  (∀ (h : Header) (mask values : BitVec 16) (r : Fin 2) (k : Fin 6) (i d length : Nat) (n : Fin 16) (v : Bool)
    (action : TimeoutAction) (s : State), Reaches .configuring h s → h.plain = true →
    s.seq.runners[r].state = .signalWait → RunsAt r k i s → HasStep k i (.waitSignal n v length action) s →
    HasStep k (i + 1) (.wait d) s → s.signals.getLsbD n = !v → mask.getLsbD n = true → values.getLsbD n = v →
    (∀ q : Fin 2, q ≠ r → s.seq.runners[q].state ≠ .signalWait) →
    ∃ t, exec (.setSignals h mask values) s = .next t ∧ Answers s t h .ok (.signals t.signals) ∧
      t.signals.getLsbD n = v ∧ WaitsAt r s.seq.runners[r] (i + 1) d s t ∧
      OnlyChanges [.signals, .cues, .seq, .reply, .sdo] s t)

/-! ## Power (chapter 9) -/

/-- R173 to R178, R182: GO_LIT in each state that receives it. WAKING sets the continue intent; STANDBY enters POWERING
with SUPPLY_EN on and the settle timer started; POWERING and LIT are left as they are; DIMMING is reversed, ramping up
from the envelope it had reached. -/
def Obligations.GoLitByPowerState : Prop :=
  ∀ (h : Header) (s : State), s.resetLow = false → h.client = 0 → h.plain = true → s.notices.list.length ≤ 8 →
    (s.power.state = .waking →
      ∃ t, exec (.goLit h) s = .next t ∧ Answers s t h .ok (goReply t) ∧
        t.power = { s.power with continueIntent := true } ∧ OnlyChanges [.power, .reply, .sdo] s t) ∧
    (s.power.state = .standby →
      ∃ t, exec (.goLit h) s = .next t ∧ Answers s t h .ok (goReply t) ∧
        t.power = { s.power with state := .powering, settle := some s.power.settleTime, awaited := 0,
                                 cause := some .command } ∧
        t.supplyEn = true ∧ OnlyChanges [.power, .supplyEn, .reply, .sdo] s t) ∧
    (s.power.state = .powering ∨ s.power.state = .lit →
      ∃ t, exec (.goLit h) s = .next t ∧ Answers s t h .ok (goReply t) ∧ OnlyChanges [.reply, .sdo] s t) ∧
    (s.power.state = .dimming →
      ∃ t, exec (.goLit h) s = .next t ∧ Answers s t h .ok (goReply t) ∧
        t.power = { s.power with
          state := .lit, dest := none, envStart := s.power.envelope, envElapsed := 0
          darkRemaining := if s.power.darkInterval = 0 then none else some (1000 * s.power.darkInterval) } ∧
        t.cond = { s.cond with level := curveLevelOf s.cond.curve s.cond.lux * s.cond.master / 1000 } ∧
        (∀ z : Fin 16, t.composer.latest[z] = none) ∧ t.composer.timer = s.composer.timer ∧
        t.composer.period = s.composer.period ∧
        t.notices = s.notices.after .powerState .lit (.power .resumed) ∧
        OnlyChanges [.power, .cond, .composer, .notices, .noticeLow, .reply, .sdo] s t)

/-- R173 to R178, R182: GO_STANDBY and GO_DORMANT in each state that receives them. GO_STANDBY clears the wake intent in
WAKING, does nothing in STANDBY, abandons POWERING, and begins or redirects DIMMING; GO_DORMANT enters DORMANT from
STANDBY, begins or redirects DIMMING, and is BUSY in WAKING and POWERING. R164, R171, R177: from LIT, DIMMING begins with
the aborts of the active runners (POWER), and with a power fade time of 0 it ends in the same taking; that an aborted
runner keeps its step index is the model's choice (log 37). R96, R97: a frame in flight at the entry to DORMANT has
completed (DEDUCED, log 41). That the BUSY replies carry what the accepted ones carry is the model's reading (DEDUCED, log
23), and so is that DIMMING entered at an envelope of 0 with a fade time above 0 does not end in the same taking (DEDUCED,
log 21). A chain that is stopped in RING keeps its OUT run (DESIGN CHOICE, log 46). Where in LIT the wake start of R176
still waits for the first snapshot, it is made first, as R177 gives it for a WAKE edge (DEDUCED, log 10). -/
def Obligations.GoStandbyAndGoDormantByPowerState : Prop :=
  ∀ (h : Header) (s : State), s.resetLow = false → h.client = 0 → h.plain = true → s.notices.list.length ≤ 8 →
    (s.power.state = .waking →
      (∃ t, exec (.goStandby h) s = .next t ∧ Answers s t h .ok (goReply t) ∧
        t.power = { s.power with continueIntent := false, pendingWake := false } ∧
        OnlyChanges [.power, .reply, .sdo] s t) ∧
      (∃ t, exec (.goDormant h) s = .next t ∧ Answers s t h .busy (goReply t) ∧ OnlyChanges [.reply, .sdo] s t)) ∧
    (s.power.state = .standby →
      (∃ t, exec (.goStandby h) s = .next t ∧ Answers s t h .ok (goReply t) ∧ OnlyChanges [.reply, .sdo] s t) ∧
      (∃ t, exec (.goDormant h) s = .next t ∧ Answers s t h .ok (goReply t) ∧
        t.power = { s.power with state := .dormant } ∧ t.composer.frame = none ∧
        (∀ z : Fin 16, t.composer.latest[z] = latestAfter s z) ∧ t.composer.timer = s.composer.timer ∧
        t.composer.period = s.composer.period ∧ OnlyChanges [.power, .composer, .reply, .sdo] s t)) ∧
    (s.power.state = .powering →
      (∃ t, exec (.goStandby h) s = .next t ∧ Answers s t h .ok (goReply t) ∧
        (∀ i : Fin 4, t.chains[i] = if s.chains[i].mode = .off then s.chains[i]
          else { s.chains[i] with mailbox := none, mode := .off, sent := sleepSent s.chains[i] }) ∧
        t.supplyEn = false ∧
        t.power = { s.power with state := .standby, settle := none, awaited := 0, cause := none,
                                 pendingWake := false } ∧
        t.notices = s.notices.after .powerState .standby (.power .abandoned) ∧
        OnlyChanges [.power, .chains, .composer, .supplyEn, .notices, .noticeLow, .reply, .sdo] s t) ∧
      (∃ t, exec (.goDormant h) s = .next t ∧ Answers s t h .busy (goReply t) ∧ OnlyChanges [.reply, .sdo] s t)) ∧
    (s.power.state = .lit → s.power.pendingWake = false → s.power.fadeTime ≠ 0 →
      (∀ r : Fin 2, s.seq.runners[r].state = .idle) →
      (∃ t, exec (.goStandby h) s = .next t ∧ Answers s t h .ok (goReply t) ∧
        t.power = { s.power with state := .dimming, dest := some .standby, envStart := s.power.envelope,
                                 envElapsed := 0, darkRemaining := none } ∧
        OnlyChanges [.power, .reply, .sdo] s t) ∧
      (∃ t, exec (.goDormant h) s = .next t ∧ Answers s t h .ok (goReply t) ∧
        t.power = { s.power with state := .dimming, dest := some .dormant, envStart := s.power.envelope,
                                 envElapsed := 0, darkRemaining := none } ∧
        OnlyChanges [.power, .reply, .sdo] s t)) ∧
    (∀ dest i, (dest = .standby ∧ i = .goStandby h) ∨ (dest = .dormant ∧ i = .goDormant h) →
      s.power.state = .lit → s.power.pendingWake = false → CueInv s → RunnerInv s →
      (s.power.fadeTime ≠ 0 →
        ∃ t, exec i s = .next t ∧ Answers s t h .ok (goReply t) ∧ EntersDimming dest s t ∧
          OnlyChanges (.reply :: .sdo :: dimmingFields) s t) ∧
      (s.power.fadeTime = 0 →
        ∃ u t, EntersDimming dest s u ∧ OnlyChanges dimmingFields s u ∧ exec i s = .next t ∧
          Answers s t h .ok (goReply t) ∧ DimmingEnds dest u t ∧
          OnlyChanges (.reply :: .sdo :: dimmedFields) u t)) ∧
    (s.power.state = .dimming →
      (∃ t, exec (.goStandby h) s = .next t ∧ Answers s t h .ok (goReply t) ∧
        t.power = { s.power with dest := some .standby } ∧ OnlyChanges [.power, .reply, .sdo] s t) ∧
      (∃ t, exec (.goDormant h) s = .next t ∧ Answers s t h .ok (goReply t) ∧
        t.power = { s.power with dest := some .dormant } ∧ OnlyChanges [.power, .reply, .sdo] s t)) ∧
    (s.power.state = .lit → s.power.pendingWake = true →
      ∃ u, exec .wakeRisingEdge (withoutWake s) = .next u ∧ exec (.goStandby h) s = exec (.goStandby h) u ∧
        exec (.goDormant h) s = exec (.goDormant h) u)

/-- R171, R181, R182: SET_POWER_TIMES replaces the times that its mask names, in range, and a new fade time in LIT or
DIMMING continues the ramp from where it stands; SET_DARK_INTERVAL replaces the interval and reloads the dark remaining in
LIT; ARM_WELCOME replaces the arm by a slot or by none, and 6 to 254 is BAD_VALUE. That the same fade time written again
is no change is the model's reading (DEDUCED, log 22), and so is that the values the mask does not name are not tested
(DEDUCED, log 36), and that bit 0 of the mask is the first of the three times and bit 2 the last (DEDUCED, log 49). That a
change of the fade time in DIMMING leaves the part in DIMMING, one to 0 too, which makes the end due and does not end it in
the same taking, is the model's reading (DEDUCED, log 21). A mask bit that names no time is BAD_VALUE (R197). R179: a reload
sets the dark remaining to the whole interval in LIT, or to absent for an interval of 0. -/
def Obligations.PowerSettingsAreReplaced : Prop :=
  (∀ p : Power,
    (p.state = .lit → p.reloadDark =
      { p with darkRemaining := if p.darkInterval = 0 then none else some (1000 * p.darkInterval) }) ∧
    (p.state ≠ .lit → p.reloadDark = p)) ∧
  ∀ (h : Header) (s : State), Reaches .configuring h s → h.plain = true →
    (∀ (mask : Byte) (wakeDelay settleTime fadeTime : BitVec 16), (∀ n : Fin 8, 3 ≤ n.val → mask.getLsbD n = false) →
      ∃ t, exec (.setPowerTimes h mask wakeDelay settleTime fadeTime) s = .next t ∧
        Answers s t h (doneStatus (decide (
          (mask.getLsbD 0 = true ∧ (wakeDelay = 0 ∨ 255 < wakeDelay.toNat)) ∨
          (mask.getLsbD 1 = true ∧ (settleTime = 0 ∨ 50 < settleTime.toNat)) ∨
          (mask.getLsbD 2 = true ∧ 2000 < fadeTime.toNat)))) .empty ∧
        (let fade := if mask.getLsbD 2 then min 2000 fadeTime.toNat else s.power.fadeTime
         let ramp := (s.power.state = .lit ∨ s.power.state = .dimming) ∧ fade ≠ s.power.fadeTime
         t.power = { s.power with
           wakeDelay := if mask.getLsbD 0 then max 1 (min 255 wakeDelay.toNat) else s.power.wakeDelay
           settleTime := if mask.getLsbD 1 then max 1 (min 50 settleTime.toNat) else s.power.settleTime
           fadeTime := fade
           envStart := if ramp then s.power.envelope else s.power.envStart
           envElapsed := if ramp then 0 else s.power.envElapsed }) ∧
        OnlyChanges [.power, .reply, .sdo] s t) ∧
    (∀ (mask : Byte) (wakeDelay settleTime fadeTime : BitVec 16), (∃ n : Fin 8, 3 ≤ n.val ∧ mask.getLsbD n = true) →
      ∃ t, exec (.setPowerTimes h mask wakeDelay settleTime fadeTime) s = .next t ∧
        Answers s t h .badValue .empty ∧ OnlyChanges [.reply, .sdo] s t) ∧
    (∀ seconds : BitVec 16,
      ∃ t, exec (.setDarkInterval h seconds) s = .next t ∧
        Answers s t h (doneStatus (decide (255 < seconds.toNat))) .empty ∧
        t.power = { s.power with
          darkInterval := min 255 seconds.toNat
          darkRemaining := if s.power.state = .lit then
              (if seconds = 0 then none else some (1000 * min 255 seconds.toNat))
            else s.power.darkRemaining } ∧
        OnlyChanges [.power, .reply, .sdo] s t) ∧
    (∀ slot : Byte,
      (∀ k : Fin 6, slot.toNat = k.val →
        ∃ t, exec (.armWelcome h slot) s = .next t ∧ Answers s t h .ok .empty ∧
          t.power = { s.power with welcomeArm := some k } ∧ OnlyChanges [.power, .reply, .sdo] s t) ∧
      (slot = 255 →
        ∃ t, exec (.armWelcome h slot) s = .next t ∧ Answers s t h .ok .empty ∧
          t.power = { s.power with welcomeArm := none } ∧ OnlyChanges [.power, .reply, .sdo] s t) ∧
      (6 ≤ slot.toNat → slot.toNat ≤ 254 →
        ∃ t, exec (.armWelcome h slot) s = .next t ∧ Answers s t h .badValue .empty ∧
          OnlyChanges [.reply, .sdo] s t))

/-- R172, R173, R188: the wake. A chip-select fall in DORMANT wakes the part with the intents clear and leaves NOT_READY
with tag 0; a WAKE edge in DORMANT wakes it with the intents set when the welcome is armed; at the wake delay expiry the
part is in STANDBY with POWER_STATE (WOKEN), and goes on to POWERING when the continue intent is set. That the row of the
chip-select fall stands for the whole period, so that NOT_READY is stored and the old reply shifted out at once, is the
model's reading (DEDUCED, log 11). R173 to R178: a WAKE edge in the other states. With the welcome not armed it changes
nothing; armed, it sets the intents in WAKING, the pending start in POWERING, begins POWERING in STANDBY, reverses
DIMMING, and in LIT and after the reversal makes the wake start of the armed slot (R169). One that runs is left alone; one
that is EMPTY or LOADING raises SEQUENCE_END (NOT_LOADED); a READY one, here one that begins with a WAIT and posts
nothing, is started for WAKE on the lowest idle runner. In LIT, with both runners active, it is started on the one of the
lower rank, of equals the one started earlier, whose run is preempted, or raises SEQUENCE_END (REFUSED_BUSY) where its own
rank is not higher; DIMMING finds no runner active (R177). -/
def Obligations.WakeFromDormant : Prop :=
  ∀ s : State, s.resetLow = false → s.notices.list.length ≤ 8 →
    (s.power.state = .dormant →
      (∃ t, exec .csNFallInDormant s = .next t ∧
        t.power = { s.power with state := .waking, continueIntent := false, pendingWake := false,
                                 wakeTimer := some s.power.wakeDelay } ∧
        t.reply = { status := .notReady, tag := 0, payload := .empty } ∧ t.sdo.frame = some s.reply ∧
        OnlyChanges [.power, .reply, .sdo, .freeCounter] s t) ∧
      (∃ t, exec .wakeRisingEdge s = .next t ∧
        t.power = { s.power with state := .waking, continueIntent := s.power.welcomeArm.isSome,
                                 pendingWake := s.power.welcomeArm.isSome, wakeTimer := some s.power.wakeDelay } ∧
        OnlyChanges [.power] s t)) ∧
    (s.power.state = .waking →
      (s.power.continueIntent = false →
        ∃ t, exec .wakeDelayExpiry s = .next t ∧
          t.power = { s.power with state := .standby, wakeTimer := none } ∧
          t.notices = s.notices.after .powerState .standby (.power .woken) ∧
          OnlyChanges [.power, .notices, .noticeLow] s t) ∧
      (s.power.continueIntent = true →
        ∃ t, exec .wakeDelayExpiry s = .next t ∧
          t.power = { s.power with
            state := .powering, wakeTimer := none, continueIntent := false
            settle := some s.power.settleTime, awaited := 0
            cause := some (if s.power.pendingWake then .wake else .command) } ∧
          t.supplyEn = true ∧ t.notices = s.notices.after .powerState .standby (.power .woken) ∧
          OnlyChanges [.power, .supplyEn, .notices, .noticeLow] s t)) ∧
    (∀ k, s.power.state = .standby → s.power.welcomeArm = some k →
      ∃ t, exec .wakeRisingEdge s = .next t ∧
        t.power = { s.power with state := .powering, pendingWake := true, settle := some s.power.settleTime,
                                 awaited := 0, cause := some .wake } ∧
        t.supplyEn = true ∧ OnlyChanges [.power, .supplyEn] s t) ∧
    (s.power.state ≠ .dormant → s.power.welcomeArm = none → exec .wakeRisingEdge s = .next s) ∧
    (∀ k, s.power.welcomeArm = some k →
      (s.power.state = .waking →
        ∃ t, exec .wakeRisingEdge s = .next t ∧
          t.power = { s.power with continueIntent := true, pendingWake := true } ∧ OnlyChanges [.power] s t) ∧
      (s.power.state = .powering →
        ∃ t, exec .wakeRisingEdge s = .next t ∧ t.power = { s.power with pendingWake := true } ∧
          OnlyChanges [.power] s t) ∧
      (∀ r, s.power.state = .lit → s.seq.slots[k].state = .running r → exec .wakeRisingEdge s = .next s) ∧
      (s.power.state = .lit → s.seq.slots[k].state = .empty ∨ s.seq.slots[k].state = .loading →
        ∃ t, exec .wakeRisingEdge s = .next t ∧
          t.notices = s.notices.after .sequenceEnd (.slot k) (.ended .notLoaded) ∧
          OnlyChanges [.notices, .noticeLow] s t) ∧
      (∀ (d : Nat) (r : Fin 2), s.power.state = .lit → s.seq.slots[k].state = .ready → HasStep k 0 (.wait d) s →
        (∀ z, ¬ PostsTo k z s) → s.seq.runners[r].state = .idle → (∀ q : Fin 2, q < r → s.seq.runners[q].state ≠ .idle) →
        ∃ t, exec .wakeRisingEdge s = .next t ∧ Started r k .wake d s t ∧
          (∀ q : Fin 2, q ≠ r → t.seq.runners[q] = s.seq.runners[q]) ∧
          (∀ m : Fin 6, m ≠ k → t.seq.slots[m] = s.seq.slots[m]) ∧ t.power = s.power.reloadDark ∧
          OnlyChanges [.seq, .power] s t) ∧
      (∀ (d : Nat) (r : Fin 2) (m : Fin 6) (a : Nat), s.power.state = .lit → s.seq.slots[k].state = .ready →
        HasStep k 0 (.wait d) s → (∀ z, ¬ PostsTo k z s) → CueInv s → m ≠ k →
        (∀ q : Fin 2, s.seq.runners[q].state ≠ .idle) → s.seq.runners[r].slot = some m →
        s.seq.runners[r].order = some a → s.seq.slots[m].rank < s.seq.slots[k].rank →
        (∀ q : Fin 2, q ≠ r → ∃ n b, s.seq.runners[q].slot = some n ∧ s.seq.runners[q].order = some b ∧
          (s.seq.slots[m].rank < s.seq.slots[n].rank ∨ (s.seq.slots[m].rank = s.seq.slots[n].rank ∧ a < b))) →
        ∃ t, exec .wakeRisingEdge s = .next t ∧ Started r k .wake d s t ∧
          (∀ q : Fin 2, q ≠ r → t.seq.runners[q] = s.seq.runners[q]) ∧
          t.seq.slots[m] = { s.seq.slots[m] with state := .ready } ∧
          (∀ n : Fin 6, n ≠ k → n ≠ m → t.seq.slots[n] = s.seq.slots[n]) ∧ CuesFade (Cue.ranBy r) s t ∧
          t.notices = s.notices.after .sequenceEnd (.slot m) (.ended .preempted) ∧ t.power = s.power.reloadDark ∧
          OnlyChanges [.cues, .zones, .watches, .seq, .power, .notices, .noticeLow] s t) ∧
      (s.power.state = .lit → s.seq.slots[k].state = .ready →
        (∀ q : Fin 2, s.seq.runners[q].state ≠ .idle ∧
          ∃ n, s.seq.runners[q].slot = some n ∧ s.seq.slots[k].rank ≤ s.seq.slots[n].rank) →
        ∃ t, exec .wakeRisingEdge s = .next t ∧
          t.notices = s.notices.after .sequenceEnd (.slot k) (.ended .refusedBusy) ∧
          OnlyChanges [.notices, .noticeLow] s t) ∧
      (let resumed := s.notices.after .powerState .lit (.power .resumed)
       let fields : List Field := [.power, .cond, .composer, .notices, .noticeLow]
       (∀ r, s.power.state = .dimming → s.seq.slots[k].state = .running r →
         ∃ t, exec .wakeRisingEdge s = .next t ∧ Reversed resumed s t ∧ OnlyChanges fields s t) ∧
       (s.power.state = .dimming → s.seq.slots[k].state = .empty ∨ s.seq.slots[k].state = .loading →
         ∃ t, exec .wakeRisingEdge s = .next t ∧
           Reversed (resumed.after .sequenceEnd (.slot k) (.ended .notLoaded)) s t ∧ OnlyChanges fields s t) ∧
       (∀ (d : Nat) (r : Fin 2), s.power.state = .dimming → s.seq.slots[k].state = .ready → HasStep k 0 (.wait d) s →
         (∀ z, ¬ PostsTo k z s) → s.seq.runners[r].state = .idle →
         (∀ q : Fin 2, q < r → s.seq.runners[q].state ≠ .idle) →
         ∃ t, exec .wakeRisingEdge s = .next t ∧ Reversed resumed s t ∧ Started r k .wake d s t ∧
           (∀ q : Fin 2, q ≠ r → t.seq.runners[q] = s.seq.runners[q]) ∧
           (∀ m : Fin 6, m ≠ k → t.seq.slots[m] = s.seq.slots[m]) ∧ OnlyChanges (.seq :: fields) s t)))

/-- R175: the supply settle timer expires in POWERING with a chain enabled: exactly the enabled chains are started, as
R124 gives, and awaited. With no chain enabled the part enters LIT at the expiry (R176); no frame is in flight there
(DEDUCED, log 41). Where the pending wake start is set and a welcome is armed, step 6 of the entry (R176) is made in
the taking of the entry, with the effect that R177 gives a WAKE edge in LIT, or waits for the first snapshot, as the order of
the two falls (a free value, UNVERIFIED, log 10). Made at once, it starts the armed slot as the wake welcome (R169), here a
READY slot that begins with a WAIT and posts nothing, while runner 0 is idle. That a pending start that finds no welcome armed
is cleared in the taking of the entry is the model's reading (DEDUCED, log 10). -/
def Obligations.SettleExpiryStartsTheChains : Prop :=
  (∀ (s : State) (settle : Nat) (j : Fin 4), s.resetLow = false → s.power.state = .powering →
    s.power.settle = some settle → s.chains[j].enabled = true →
    ∃ t, exec .supplySettleExpiry s = .next t ∧ t.power.state = .powering ∧ t.power.settle = none ∧
      (∀ i : Fin 4, t.power.awaited.getLsbD i = s.chains[i].enabled) ∧
      t.power = { s.power with settle := none, awaited := t.power.awaited } ∧
      (∀ i : Fin 4, t.chains[i] = if s.chains[i].enabled then startedChain s.chains[i] else s.chains[i]) ∧
      (∀ i : Fin 4, t.cond.perChain[i] =
        if s.chains[i].enabled then { thermal := 1000, budget := 1000, estimate := 0 } else s.cond.perChain[i]) ∧
      OnlyChanges [.power, .chains, .cond, .composer] s t) ∧
  (∀ (s : State) (settle : Nat) (cause : PathCause), s.resetLow = false → s.power.state = .powering →
    s.power.settle = some settle → (∀ j : Fin 4, s.chains[j].enabled = false) → s.power.cause = some cause →
    s.notices.list.length ≤ 8 →
    (s.power.pendingWake = false ∨ s.power.welcomeArm = none →
      ∃ t, exec .supplySettleExpiry s = .next t ∧ EntersLit cause s.notices false s t ∧
        OnlyChanges [.power, .cond, .composer, .notices, .noticeLow] s t) ∧
    (s.power.pendingWake = true → s.power.welcomeArm ≠ none →
      ∃ u t, exec .supplySettleExpiry s = .next t ∧ EntersLit cause s.notices true s u ∧
        OnlyChanges [.power, .cond, .composer, .notices, .noticeLow, .freeCounter] s u ∧ OrdersWakeStart s u t) ∧
    (∀ k d, s.power.pendingWake = true → s.power.welcomeArm = some k → s.seq.slots[k].state = .ready →
      HasStep k 0 (.wait d) s → (∀ z, ¬ PostsTo k z s) → s.seq.runners[(0 : Fin 2)].state = .idle →
      ∃ t, exec .supplySettleExpiry s = .next t ∧
        (if Config.snapshotFirst s.freeCounter then
          EntersLit cause s.notices true s t ∧
            OnlyChanges [.power, .cond, .composer, .notices, .noticeLow, .freeCounter] s t
        else
          EntersLit cause s.notices false s t ∧ Started 0 k .wake d s t ∧
            t.seq.runners[(1 : Fin 2)] = s.seq.runners[(1 : Fin 2)] ∧
            (∀ m : Fin 6, m ≠ k → t.seq.slots[m] = s.seq.slots[m]) ∧
            OnlyChanges [.power, .cond, .composer, .seq, .notices, .noticeLow, .freeCounter] s t)))

/-- R177, R178, R179: the dark interval expires in LIT and DIMMING begins toward STANDBY, with the aborts of the active
runners (R164), and with a power fade time of 0 it ends in the same taking (R171); that DIMMING entered at an envelope of 0
with a fade time above 0 does not end in the same taking is the model's reading (DEDUCED, log 21), and that an aborted
runner keeps its step index is the model's choice (DEDUCED, log 37); the envelope reaches 0 in DIMMING and every chain is
stopped, SUPPLY_EN and the frame timer go off, every transient cue is freed while the pinned ones stay, and the part is in
STANDBY or DORMANT with POWER_STATE (DIMMED). R96, R97: a frame in flight goes on in STANDBY, and has completed at the entry to DORMANT
(DEDUCED, log 41). A chain that is stopped in RING keeps its OUT run (DESIGN CHOICE, log 46). Where in LIT the wake start
of R176 still waits for the first snapshot at the expiry, it is made first, as R177 gives it for a WAKE edge, and DIMMING
begins all the same (DEDUCED, log 10). -/
def Obligations.DarkExpiryAndEndOfDimming : Prop :=
  ∀ s : State, s.resetLow = false → s.notices.list.length ≤ 8 →
    (s.power.state = .lit → s.power.darkRemaining = some 0 → s.power.pendingWake = false → s.power.fadeTime ≠ 0 →
      (∀ r : Fin 2, s.seq.runners[r].state = .idle) →
      ∃ t, exec .darkIntervalExpiry s = .next t ∧
        t.power = { s.power with state := .dimming, dest := some .standby, envStart := s.power.envelope,
                                 envElapsed := 0, darkRemaining := none } ∧
        OnlyChanges [.power] s t) ∧
    (s.power.state = .lit → s.power.darkRemaining = some 0 → s.power.pendingWake = false → CueInv s → RunnerInv s →
      (s.power.fadeTime ≠ 0 →
        ∃ t, exec .darkIntervalExpiry s = .next t ∧ EntersDimming .standby s t ∧ OnlyChanges dimmingFields s t) ∧
      (s.power.fadeTime = 0 →
        ∃ u t, EntersDimming .standby s u ∧ OnlyChanges dimmingFields s u ∧ exec .darkIntervalExpiry s = .next t ∧
          DimmingEnds .standby u t ∧ OnlyChanges dimmedFields u t)) ∧
    (∀ dest, CueInv s → s.power.state = .dimming → s.power.dest = some dest → s.power.envelope = 0 →
      ∃ t, exec .endOfDimming s = .next t ∧ DimmingEnds dest s t ∧ OnlyChanges dimmedFields s t) ∧
    (s.power.state = .lit → s.power.darkRemaining = some 0 → s.power.pendingWake = true →
      ∃ u, exec .wakeRisingEdge (withoutWake s) = .next u ∧
        exec .darkIntervalExpiry s =
          exec .darkIntervalExpiry { u with power := { u.power with darkRemaining := some 0 } })

/-! ## The time base (section 1.3) -/

/-- R8, R44, R159, R161, R171, R179: a millisecond of the time base at which no event is due: no fade-in, lifetime or
fade-out of a cue has run out, no wait of a runner, not the ramp of DIMMING and not the dark interval. Every cue's clock,
fade and gate advance and its lifetime counts down unless it fades out; every wait counts down; the power ramp advances;
the dark remaining counts down in LIT while no cue is live and no runner is active; and in DORMANT and WAKING nothing
changes. R171: the power envelope rises to 1000 and falls to 0 at the full range per fade time, and is 0 outside LIT and
DIMMING. -/
def Obligations.MillisecondAdvancesCountsAndRamps : Prop :=
  (∀ s : State, s.due = true ↔
     (∃ (k : Fin 48) (c : Cue), s.cues.slots[k].cue = some c ∧
       ((∃ x, c.phase = .fadingIn x ∧ c.desc.fadeIn ≤ x) ∨ (c.phase.isFadingOut = false ∧ c.remaining = some 0) ∨
         ∃ x exit start, c.phase = .fadingOut x exit start ∧ exit ≤ x)) ∨
     (∃ r : Fin 2, s.seq.runners[r].state ≠ .idle ∧ s.seq.runners[r].wait = some 0) ∨
     (s.power.state = .dimming ∧ s.power.envelope = 0) ∨ (s.power.state = .lit ∧ s.power.darkRemaining = some 0)) ∧
  (∀ s : State, s.resetLow = false →
     (s.power.state = .dormant ∨ s.power.state = .waking → exec .timeBaseMillisecond s = .next s) ∧
     (s.power.state.receives = true → s.due = false →
       ∃ t, exec .timeBaseMillisecond s = .next t ∧
         (∀ k : Fin 48, t.cues.slots[k] = { gen := s.cues.slots[k].gen, cue := s.cues.slots[k].cue.map fun c =>
           { c with
             clock := c.clock + 1
             phase := match c.phase with
               | .fadingIn x => .fadingIn (x + 1)
               | .steady => .steady
               | .fadingOut x exit start => .fadingOut (x + 1) exit start
             remaining := if c.phase.isFadingOut then c.remaining else c.remaining.map fun x => x - 1
             gateRun := c.gateRun.map fun g => { g with elapsed := g.elapsed + 1 } } }) ∧
         t.cues.postOrder = s.cues.postOrder ∧ t.cues.retiring = s.cues.retiring ∧
         t.cues.timeBase = s.cues.timeBase + 1 ∧
         (∀ r : Fin 2, t.seq.runners[r] = { s.seq.runners[r] with wait := s.seq.runners[r].wait.map fun x => x - 1 }) ∧
         t.seq = { s.seq with runners := t.seq.runners } ∧
         t.power = { s.power with
           envElapsed := s.power.envElapsed + 1
           darkRemaining :=
             if s.power.state = .lit ∧ s.power.darkInterval ≠ 0 ∧ (∀ k : Fin 48, s.cues.slots[k].cue = none) ∧
               (∀ r : Fin 2, s.seq.runners[r].state = .idle) then s.power.darkRemaining.map fun x => x - 1
             else s.power.darkRemaining } ∧
         OnlyChanges [.cues, .seq, .power] s t)) ∧
  (∀ p : Power,
     (p.state = .lit → p.fadeTime = 0 → p.envelope = 1000) ∧
     (p.state = .dimming → p.fadeTime = 0 → p.envelope = 0) ∧
     (p.state = .lit → p.fadeTime ≠ 0 → p.envelope = min 1000 (p.envStart + 1000 * p.envElapsed / p.fadeTime) ∧
       (p.fadeTime ≤ p.envElapsed → p.envelope = 1000)) ∧
     (p.state = .dimming → p.fadeTime ≠ 0 → p.envelope = p.envStart - 1000 * p.envElapsed / p.fadeTime ∧
       (p.envStart ≤ 1000 → p.fadeTime ≤ p.envElapsed → p.envelope = 0)) ∧
     (p.state ≠ .lit → p.state ≠ .dimming → p.envelope = 0))
end

