-- ==== Sys2Proof/Laws/State.lean ====
section
/-! SUPPORT. One lemma for each field after each update of the state: an update changes its own field only. -/

set_option Elab.async false

namespace Sys2Proof.Machine

open Sys2Proof

section
variable (s : State) (v : CueTable)

@[simp] theorem State.setCues_cues : (s.setCues v).cues = v := rfl
@[simp] theorem State.setCues_palette : (s.setCues v).palette = s.palette := rfl
@[simp] theorem State.setCues_signals : (s.setCues v).signals = s.signals := rfl
@[simp] theorem State.setCues_zones : (s.setCues v).zones = s.zones := rfl
@[simp] theorem State.setCues_watches : (s.setCues v).watches = s.watches := rfl
@[simp] theorem State.setCues_composer : (s.setCues v).composer = s.composer := rfl
@[simp] theorem State.setCues_cond : (s.setCues v).cond = s.cond := rfl
@[simp] theorem State.setCues_chains : (s.setCues v).chains = s.chains := rfl
@[simp] theorem State.setCues_seq : (s.setCues v).seq = s.seq := rfl
@[simp] theorem State.setCues_power : (s.setCues v).power = s.power := rfl
@[simp] theorem State.setCues_notices : (s.setCues v).notices = s.notices := rfl
@[simp] theorem State.setCues_reply : (s.setCues v).reply = s.reply := rfl
@[simp] theorem State.setCues_sdo : (s.setCues v).sdo = s.sdo := rfl
@[simp] theorem State.setCues_resetLow : (s.setCues v).resetLow = s.resetLow := rfl
@[simp] theorem State.setCues_noticeLow : (s.setCues v).noticeLow = s.noticeLow := rfl
@[simp] theorem State.setCues_supplyEn : (s.setCues v).supplyEn = s.supplyEn := rfl
@[simp] theorem State.setCues_freeCounter : (s.setCues v).freeCounter = s.freeCounter := rfl
@[simp] theorem State.setCues_pending : (s.setCues v).pending = s.pending := rfl

end

section
variable (s : State) (v : Vector PaletteEntry 32)

@[simp] theorem State.setPalette_cues : (s.setPalette v).cues = s.cues := rfl
@[simp] theorem State.setPalette_palette : (s.setPalette v).palette = v := rfl
@[simp] theorem State.setPalette_signals : (s.setPalette v).signals = s.signals := rfl
@[simp] theorem State.setPalette_zones : (s.setPalette v).zones = s.zones := rfl
@[simp] theorem State.setPalette_watches : (s.setPalette v).watches = s.watches := rfl
@[simp] theorem State.setPalette_composer : (s.setPalette v).composer = s.composer := rfl
@[simp] theorem State.setPalette_cond : (s.setPalette v).cond = s.cond := rfl
@[simp] theorem State.setPalette_chains : (s.setPalette v).chains = s.chains := rfl
@[simp] theorem State.setPalette_seq : (s.setPalette v).seq = s.seq := rfl
@[simp] theorem State.setPalette_power : (s.setPalette v).power = s.power := rfl
@[simp] theorem State.setPalette_notices : (s.setPalette v).notices = s.notices := rfl
@[simp] theorem State.setPalette_reply : (s.setPalette v).reply = s.reply := rfl
@[simp] theorem State.setPalette_sdo : (s.setPalette v).sdo = s.sdo := rfl
@[simp] theorem State.setPalette_resetLow : (s.setPalette v).resetLow = s.resetLow := rfl
@[simp] theorem State.setPalette_noticeLow : (s.setPalette v).noticeLow = s.noticeLow := rfl
@[simp] theorem State.setPalette_supplyEn : (s.setPalette v).supplyEn = s.supplyEn := rfl
@[simp] theorem State.setPalette_freeCounter : (s.setPalette v).freeCounter = s.freeCounter := rfl
@[simp] theorem State.setPalette_pending : (s.setPalette v).pending = s.pending := rfl

end

section
variable (s : State) (v : BitVec 16)

@[simp] theorem State.setSignals_cues : (s.setSignals v).cues = s.cues := rfl
@[simp] theorem State.setSignals_palette : (s.setSignals v).palette = s.palette := rfl
@[simp] theorem State.setSignals_signals : (s.setSignals v).signals = v := rfl
@[simp] theorem State.setSignals_zones : (s.setSignals v).zones = s.zones := rfl
@[simp] theorem State.setSignals_watches : (s.setSignals v).watches = s.watches := rfl
@[simp] theorem State.setSignals_composer : (s.setSignals v).composer = s.composer := rfl
@[simp] theorem State.setSignals_cond : (s.setSignals v).cond = s.cond := rfl
@[simp] theorem State.setSignals_chains : (s.setSignals v).chains = s.chains := rfl
@[simp] theorem State.setSignals_seq : (s.setSignals v).seq = s.seq := rfl
@[simp] theorem State.setSignals_power : (s.setSignals v).power = s.power := rfl
@[simp] theorem State.setSignals_notices : (s.setSignals v).notices = s.notices := rfl
@[simp] theorem State.setSignals_reply : (s.setSignals v).reply = s.reply := rfl
@[simp] theorem State.setSignals_sdo : (s.setSignals v).sdo = s.sdo := rfl
@[simp] theorem State.setSignals_resetLow : (s.setSignals v).resetLow = s.resetLow := rfl
@[simp] theorem State.setSignals_noticeLow : (s.setSignals v).noticeLow = s.noticeLow := rfl
@[simp] theorem State.setSignals_supplyEn : (s.setSignals v).supplyEn = s.supplyEn := rfl
@[simp] theorem State.setSignals_freeCounter : (s.setSignals v).freeCounter = s.freeCounter := rfl
@[simp] theorem State.setSignals_pending : (s.setSignals v).pending = s.pending := rfl

end

section
variable (s : State) (v : Vector Zone 16)

@[simp] theorem State.setZones_cues : (s.setZones v).cues = s.cues := rfl
@[simp] theorem State.setZones_palette : (s.setZones v).palette = s.palette := rfl
@[simp] theorem State.setZones_signals : (s.setZones v).signals = s.signals := rfl
@[simp] theorem State.setZones_zones : (s.setZones v).zones = v := rfl
@[simp] theorem State.setZones_watches : (s.setZones v).watches = s.watches := rfl
@[simp] theorem State.setZones_composer : (s.setZones v).composer = s.composer := rfl
@[simp] theorem State.setZones_cond : (s.setZones v).cond = s.cond := rfl
@[simp] theorem State.setZones_chains : (s.setZones v).chains = s.chains := rfl
@[simp] theorem State.setZones_seq : (s.setZones v).seq = s.seq := rfl
@[simp] theorem State.setZones_power : (s.setZones v).power = s.power := rfl
@[simp] theorem State.setZones_notices : (s.setZones v).notices = s.notices := rfl
@[simp] theorem State.setZones_reply : (s.setZones v).reply = s.reply := rfl
@[simp] theorem State.setZones_sdo : (s.setZones v).sdo = s.sdo := rfl
@[simp] theorem State.setZones_resetLow : (s.setZones v).resetLow = s.resetLow := rfl
@[simp] theorem State.setZones_noticeLow : (s.setZones v).noticeLow = s.noticeLow := rfl
@[simp] theorem State.setZones_supplyEn : (s.setZones v).supplyEn = s.supplyEn := rfl
@[simp] theorem State.setZones_freeCounter : (s.setZones v).freeCounter = s.freeCounter := rfl
@[simp] theorem State.setZones_pending : (s.setZones v).pending = s.pending := rfl

end

section
variable (s : State) (v : WatchTable)

@[simp] theorem State.setWatches_cues : (s.setWatches v).cues = s.cues := rfl
@[simp] theorem State.setWatches_palette : (s.setWatches v).palette = s.palette := rfl
@[simp] theorem State.setWatches_signals : (s.setWatches v).signals = s.signals := rfl
@[simp] theorem State.setWatches_zones : (s.setWatches v).zones = s.zones := rfl
@[simp] theorem State.setWatches_watches : (s.setWatches v).watches = v := rfl
@[simp] theorem State.setWatches_composer : (s.setWatches v).composer = s.composer := rfl
@[simp] theorem State.setWatches_cond : (s.setWatches v).cond = s.cond := rfl
@[simp] theorem State.setWatches_chains : (s.setWatches v).chains = s.chains := rfl
@[simp] theorem State.setWatches_seq : (s.setWatches v).seq = s.seq := rfl
@[simp] theorem State.setWatches_power : (s.setWatches v).power = s.power := rfl
@[simp] theorem State.setWatches_notices : (s.setWatches v).notices = s.notices := rfl
@[simp] theorem State.setWatches_reply : (s.setWatches v).reply = s.reply := rfl
@[simp] theorem State.setWatches_sdo : (s.setWatches v).sdo = s.sdo := rfl
@[simp] theorem State.setWatches_resetLow : (s.setWatches v).resetLow = s.resetLow := rfl
@[simp] theorem State.setWatches_noticeLow : (s.setWatches v).noticeLow = s.noticeLow := rfl
@[simp] theorem State.setWatches_supplyEn : (s.setWatches v).supplyEn = s.supplyEn := rfl
@[simp] theorem State.setWatches_freeCounter : (s.setWatches v).freeCounter = s.freeCounter := rfl
@[simp] theorem State.setWatches_pending : (s.setWatches v).pending = s.pending := rfl

end

section
variable (s : State) (v : Composer)

@[simp] theorem State.setComposer_cues : (s.setComposer v).cues = s.cues := rfl
@[simp] theorem State.setComposer_palette : (s.setComposer v).palette = s.palette := rfl
@[simp] theorem State.setComposer_signals : (s.setComposer v).signals = s.signals := rfl
@[simp] theorem State.setComposer_zones : (s.setComposer v).zones = s.zones := rfl
@[simp] theorem State.setComposer_watches : (s.setComposer v).watches = s.watches := rfl
@[simp] theorem State.setComposer_composer : (s.setComposer v).composer = v := rfl
@[simp] theorem State.setComposer_cond : (s.setComposer v).cond = s.cond := rfl
@[simp] theorem State.setComposer_chains : (s.setComposer v).chains = s.chains := rfl
@[simp] theorem State.setComposer_seq : (s.setComposer v).seq = s.seq := rfl
@[simp] theorem State.setComposer_power : (s.setComposer v).power = s.power := rfl
@[simp] theorem State.setComposer_notices : (s.setComposer v).notices = s.notices := rfl
@[simp] theorem State.setComposer_reply : (s.setComposer v).reply = s.reply := rfl
@[simp] theorem State.setComposer_sdo : (s.setComposer v).sdo = s.sdo := rfl
@[simp] theorem State.setComposer_resetLow : (s.setComposer v).resetLow = s.resetLow := rfl
@[simp] theorem State.setComposer_noticeLow : (s.setComposer v).noticeLow = s.noticeLow := rfl
@[simp] theorem State.setComposer_supplyEn : (s.setComposer v).supplyEn = s.supplyEn := rfl
@[simp] theorem State.setComposer_freeCounter : (s.setComposer v).freeCounter = s.freeCounter := rfl
@[simp] theorem State.setComposer_pending : (s.setComposer v).pending = s.pending := rfl

end

section
variable (s : State) (v : Conditioner)

@[simp] theorem State.setCond_cues : (s.setCond v).cues = s.cues := rfl
@[simp] theorem State.setCond_palette : (s.setCond v).palette = s.palette := rfl
@[simp] theorem State.setCond_signals : (s.setCond v).signals = s.signals := rfl
@[simp] theorem State.setCond_zones : (s.setCond v).zones = s.zones := rfl
@[simp] theorem State.setCond_watches : (s.setCond v).watches = s.watches := rfl
@[simp] theorem State.setCond_composer : (s.setCond v).composer = s.composer := rfl
@[simp] theorem State.setCond_cond : (s.setCond v).cond = v := rfl
@[simp] theorem State.setCond_chains : (s.setCond v).chains = s.chains := rfl
@[simp] theorem State.setCond_seq : (s.setCond v).seq = s.seq := rfl
@[simp] theorem State.setCond_power : (s.setCond v).power = s.power := rfl
@[simp] theorem State.setCond_notices : (s.setCond v).notices = s.notices := rfl
@[simp] theorem State.setCond_reply : (s.setCond v).reply = s.reply := rfl
@[simp] theorem State.setCond_sdo : (s.setCond v).sdo = s.sdo := rfl
@[simp] theorem State.setCond_resetLow : (s.setCond v).resetLow = s.resetLow := rfl
@[simp] theorem State.setCond_noticeLow : (s.setCond v).noticeLow = s.noticeLow := rfl
@[simp] theorem State.setCond_supplyEn : (s.setCond v).supplyEn = s.supplyEn := rfl
@[simp] theorem State.setCond_freeCounter : (s.setCond v).freeCounter = s.freeCounter := rfl
@[simp] theorem State.setCond_pending : (s.setCond v).pending = s.pending := rfl

end

section
variable (s : State) (v : Vector Chain 4)

@[simp] theorem State.setChains_cues : (s.setChains v).cues = s.cues := rfl
@[simp] theorem State.setChains_palette : (s.setChains v).palette = s.palette := rfl
@[simp] theorem State.setChains_signals : (s.setChains v).signals = s.signals := rfl
@[simp] theorem State.setChains_zones : (s.setChains v).zones = s.zones := rfl
@[simp] theorem State.setChains_watches : (s.setChains v).watches = s.watches := rfl
@[simp] theorem State.setChains_composer : (s.setChains v).composer = s.composer := rfl
@[simp] theorem State.setChains_cond : (s.setChains v).cond = s.cond := rfl
@[simp] theorem State.setChains_chains : (s.setChains v).chains = v := rfl
@[simp] theorem State.setChains_seq : (s.setChains v).seq = s.seq := rfl
@[simp] theorem State.setChains_power : (s.setChains v).power = s.power := rfl
@[simp] theorem State.setChains_notices : (s.setChains v).notices = s.notices := rfl
@[simp] theorem State.setChains_reply : (s.setChains v).reply = s.reply := rfl
@[simp] theorem State.setChains_sdo : (s.setChains v).sdo = s.sdo := rfl
@[simp] theorem State.setChains_resetLow : (s.setChains v).resetLow = s.resetLow := rfl
@[simp] theorem State.setChains_noticeLow : (s.setChains v).noticeLow = s.noticeLow := rfl
@[simp] theorem State.setChains_supplyEn : (s.setChains v).supplyEn = s.supplyEn := rfl
@[simp] theorem State.setChains_freeCounter : (s.setChains v).freeCounter = s.freeCounter := rfl
@[simp] theorem State.setChains_pending : (s.setChains v).pending = s.pending := rfl

end

section
variable (s : State) (v : Sequencer)

@[simp] theorem State.setSeq_cues : (s.setSeq v).cues = s.cues := rfl
@[simp] theorem State.setSeq_palette : (s.setSeq v).palette = s.palette := rfl
@[simp] theorem State.setSeq_signals : (s.setSeq v).signals = s.signals := rfl
@[simp] theorem State.setSeq_zones : (s.setSeq v).zones = s.zones := rfl
@[simp] theorem State.setSeq_watches : (s.setSeq v).watches = s.watches := rfl
@[simp] theorem State.setSeq_composer : (s.setSeq v).composer = s.composer := rfl
@[simp] theorem State.setSeq_cond : (s.setSeq v).cond = s.cond := rfl
@[simp] theorem State.setSeq_chains : (s.setSeq v).chains = s.chains := rfl
@[simp] theorem State.setSeq_seq : (s.setSeq v).seq = v := rfl
@[simp] theorem State.setSeq_power : (s.setSeq v).power = s.power := rfl
@[simp] theorem State.setSeq_notices : (s.setSeq v).notices = s.notices := rfl
@[simp] theorem State.setSeq_reply : (s.setSeq v).reply = s.reply := rfl
@[simp] theorem State.setSeq_sdo : (s.setSeq v).sdo = s.sdo := rfl
@[simp] theorem State.setSeq_resetLow : (s.setSeq v).resetLow = s.resetLow := rfl
@[simp] theorem State.setSeq_noticeLow : (s.setSeq v).noticeLow = s.noticeLow := rfl
@[simp] theorem State.setSeq_supplyEn : (s.setSeq v).supplyEn = s.supplyEn := rfl
@[simp] theorem State.setSeq_freeCounter : (s.setSeq v).freeCounter = s.freeCounter := rfl
@[simp] theorem State.setSeq_pending : (s.setSeq v).pending = s.pending := rfl

end

section
variable (s : State) (v : Power)

@[simp] theorem State.setPower_cues : (s.setPower v).cues = s.cues := rfl
@[simp] theorem State.setPower_palette : (s.setPower v).palette = s.palette := rfl
@[simp] theorem State.setPower_signals : (s.setPower v).signals = s.signals := rfl
@[simp] theorem State.setPower_zones : (s.setPower v).zones = s.zones := rfl
@[simp] theorem State.setPower_watches : (s.setPower v).watches = s.watches := rfl
@[simp] theorem State.setPower_composer : (s.setPower v).composer = s.composer := rfl
@[simp] theorem State.setPower_cond : (s.setPower v).cond = s.cond := rfl
@[simp] theorem State.setPower_chains : (s.setPower v).chains = s.chains := rfl
@[simp] theorem State.setPower_seq : (s.setPower v).seq = s.seq := rfl
@[simp] theorem State.setPower_power : (s.setPower v).power = v := rfl
@[simp] theorem State.setPower_notices : (s.setPower v).notices = s.notices := rfl
@[simp] theorem State.setPower_reply : (s.setPower v).reply = s.reply := rfl
@[simp] theorem State.setPower_sdo : (s.setPower v).sdo = s.sdo := rfl
@[simp] theorem State.setPower_resetLow : (s.setPower v).resetLow = s.resetLow := rfl
@[simp] theorem State.setPower_noticeLow : (s.setPower v).noticeLow = s.noticeLow := rfl
@[simp] theorem State.setPower_supplyEn : (s.setPower v).supplyEn = s.supplyEn := rfl
@[simp] theorem State.setPower_freeCounter : (s.setPower v).freeCounter = s.freeCounter := rfl
@[simp] theorem State.setPower_pending : (s.setPower v).pending = s.pending := rfl

end

section
variable (s : State) (v : Notices)

@[simp] theorem State.setNotices_cues : (s.setNotices v).cues = s.cues := rfl
@[simp] theorem State.setNotices_palette : (s.setNotices v).palette = s.palette := rfl
@[simp] theorem State.setNotices_signals : (s.setNotices v).signals = s.signals := rfl
@[simp] theorem State.setNotices_zones : (s.setNotices v).zones = s.zones := rfl
@[simp] theorem State.setNotices_watches : (s.setNotices v).watches = s.watches := rfl
@[simp] theorem State.setNotices_composer : (s.setNotices v).composer = s.composer := rfl
@[simp] theorem State.setNotices_cond : (s.setNotices v).cond = s.cond := rfl
@[simp] theorem State.setNotices_chains : (s.setNotices v).chains = s.chains := rfl
@[simp] theorem State.setNotices_seq : (s.setNotices v).seq = s.seq := rfl
@[simp] theorem State.setNotices_power : (s.setNotices v).power = s.power := rfl
@[simp] theorem State.setNotices_notices : (s.setNotices v).notices = v := rfl
@[simp] theorem State.setNotices_reply : (s.setNotices v).reply = s.reply := rfl
@[simp] theorem State.setNotices_sdo : (s.setNotices v).sdo = s.sdo := rfl
@[simp] theorem State.setNotices_resetLow : (s.setNotices v).resetLow = s.resetLow := rfl
@[simp] theorem State.setNotices_noticeLow : (s.setNotices v).noticeLow = s.noticeLow := rfl
@[simp] theorem State.setNotices_supplyEn : (s.setNotices v).supplyEn = s.supplyEn := rfl
@[simp] theorem State.setNotices_freeCounter : (s.setNotices v).freeCounter = s.freeCounter := rfl
@[simp] theorem State.setNotices_pending : (s.setNotices v).pending = s.pending := rfl

end

section
variable (s : State) (v : Reply)

@[simp] theorem State.setReply_cues : (s.setReply v).cues = s.cues := rfl
@[simp] theorem State.setReply_palette : (s.setReply v).palette = s.palette := rfl
@[simp] theorem State.setReply_signals : (s.setReply v).signals = s.signals := rfl
@[simp] theorem State.setReply_zones : (s.setReply v).zones = s.zones := rfl
@[simp] theorem State.setReply_watches : (s.setReply v).watches = s.watches := rfl
@[simp] theorem State.setReply_composer : (s.setReply v).composer = s.composer := rfl
@[simp] theorem State.setReply_cond : (s.setReply v).cond = s.cond := rfl
@[simp] theorem State.setReply_chains : (s.setReply v).chains = s.chains := rfl
@[simp] theorem State.setReply_seq : (s.setReply v).seq = s.seq := rfl
@[simp] theorem State.setReply_power : (s.setReply v).power = s.power := rfl
@[simp] theorem State.setReply_notices : (s.setReply v).notices = s.notices := rfl
@[simp] theorem State.setReply_reply : (s.setReply v).reply = v := rfl
@[simp] theorem State.setReply_sdo : (s.setReply v).sdo = s.sdo := rfl
@[simp] theorem State.setReply_resetLow : (s.setReply v).resetLow = s.resetLow := rfl
@[simp] theorem State.setReply_noticeLow : (s.setReply v).noticeLow = s.noticeLow := rfl
@[simp] theorem State.setReply_supplyEn : (s.setReply v).supplyEn = s.supplyEn := rfl
@[simp] theorem State.setReply_freeCounter : (s.setReply v).freeCounter = s.freeCounter := rfl
@[simp] theorem State.setReply_pending : (s.setReply v).pending = s.pending := rfl

end

section
variable (s : State) (v : Shift)

@[simp] theorem State.setSdo_cues : (s.setSdo v).cues = s.cues := rfl
@[simp] theorem State.setSdo_palette : (s.setSdo v).palette = s.palette := rfl
@[simp] theorem State.setSdo_signals : (s.setSdo v).signals = s.signals := rfl
@[simp] theorem State.setSdo_zones : (s.setSdo v).zones = s.zones := rfl
@[simp] theorem State.setSdo_watches : (s.setSdo v).watches = s.watches := rfl
@[simp] theorem State.setSdo_composer : (s.setSdo v).composer = s.composer := rfl
@[simp] theorem State.setSdo_cond : (s.setSdo v).cond = s.cond := rfl
@[simp] theorem State.setSdo_chains : (s.setSdo v).chains = s.chains := rfl
@[simp] theorem State.setSdo_seq : (s.setSdo v).seq = s.seq := rfl
@[simp] theorem State.setSdo_power : (s.setSdo v).power = s.power := rfl
@[simp] theorem State.setSdo_notices : (s.setSdo v).notices = s.notices := rfl
@[simp] theorem State.setSdo_reply : (s.setSdo v).reply = s.reply := rfl
@[simp] theorem State.setSdo_sdo : (s.setSdo v).sdo = v := rfl
@[simp] theorem State.setSdo_resetLow : (s.setSdo v).resetLow = s.resetLow := rfl
@[simp] theorem State.setSdo_noticeLow : (s.setSdo v).noticeLow = s.noticeLow := rfl
@[simp] theorem State.setSdo_supplyEn : (s.setSdo v).supplyEn = s.supplyEn := rfl
@[simp] theorem State.setSdo_freeCounter : (s.setSdo v).freeCounter = s.freeCounter := rfl
@[simp] theorem State.setSdo_pending : (s.setSdo v).pending = s.pending := rfl

end

section
variable (s : State) (v : Bool)

@[simp] theorem State.setResetLow_cues : (s.setResetLow v).cues = s.cues := rfl
@[simp] theorem State.setResetLow_palette : (s.setResetLow v).palette = s.palette := rfl
@[simp] theorem State.setResetLow_signals : (s.setResetLow v).signals = s.signals := rfl
@[simp] theorem State.setResetLow_zones : (s.setResetLow v).zones = s.zones := rfl
@[simp] theorem State.setResetLow_watches : (s.setResetLow v).watches = s.watches := rfl
@[simp] theorem State.setResetLow_composer : (s.setResetLow v).composer = s.composer := rfl
@[simp] theorem State.setResetLow_cond : (s.setResetLow v).cond = s.cond := rfl
@[simp] theorem State.setResetLow_chains : (s.setResetLow v).chains = s.chains := rfl
@[simp] theorem State.setResetLow_seq : (s.setResetLow v).seq = s.seq := rfl
@[simp] theorem State.setResetLow_power : (s.setResetLow v).power = s.power := rfl
@[simp] theorem State.setResetLow_notices : (s.setResetLow v).notices = s.notices := rfl
@[simp] theorem State.setResetLow_reply : (s.setResetLow v).reply = s.reply := rfl
@[simp] theorem State.setResetLow_sdo : (s.setResetLow v).sdo = s.sdo := rfl
@[simp] theorem State.setResetLow_resetLow : (s.setResetLow v).resetLow = v := rfl
@[simp] theorem State.setResetLow_noticeLow : (s.setResetLow v).noticeLow = s.noticeLow := rfl
@[simp] theorem State.setResetLow_supplyEn : (s.setResetLow v).supplyEn = s.supplyEn := rfl
@[simp] theorem State.setResetLow_freeCounter : (s.setResetLow v).freeCounter = s.freeCounter := rfl
@[simp] theorem State.setResetLow_pending : (s.setResetLow v).pending = s.pending := rfl

end

section
variable (s : State) (v : Bool)

@[simp] theorem State.setNoticeLow_cues : (s.setNoticeLow v).cues = s.cues := rfl
@[simp] theorem State.setNoticeLow_palette : (s.setNoticeLow v).palette = s.palette := rfl
@[simp] theorem State.setNoticeLow_signals : (s.setNoticeLow v).signals = s.signals := rfl
@[simp] theorem State.setNoticeLow_zones : (s.setNoticeLow v).zones = s.zones := rfl
@[simp] theorem State.setNoticeLow_watches : (s.setNoticeLow v).watches = s.watches := rfl
@[simp] theorem State.setNoticeLow_composer : (s.setNoticeLow v).composer = s.composer := rfl
@[simp] theorem State.setNoticeLow_cond : (s.setNoticeLow v).cond = s.cond := rfl
@[simp] theorem State.setNoticeLow_chains : (s.setNoticeLow v).chains = s.chains := rfl
@[simp] theorem State.setNoticeLow_seq : (s.setNoticeLow v).seq = s.seq := rfl
@[simp] theorem State.setNoticeLow_power : (s.setNoticeLow v).power = s.power := rfl
@[simp] theorem State.setNoticeLow_notices : (s.setNoticeLow v).notices = s.notices := rfl
@[simp] theorem State.setNoticeLow_reply : (s.setNoticeLow v).reply = s.reply := rfl
@[simp] theorem State.setNoticeLow_sdo : (s.setNoticeLow v).sdo = s.sdo := rfl
@[simp] theorem State.setNoticeLow_resetLow : (s.setNoticeLow v).resetLow = s.resetLow := rfl
@[simp] theorem State.setNoticeLow_noticeLow : (s.setNoticeLow v).noticeLow = v := rfl
@[simp] theorem State.setNoticeLow_supplyEn : (s.setNoticeLow v).supplyEn = s.supplyEn := rfl
@[simp] theorem State.setNoticeLow_freeCounter : (s.setNoticeLow v).freeCounter = s.freeCounter := rfl
@[simp] theorem State.setNoticeLow_pending : (s.setNoticeLow v).pending = s.pending := rfl

end

section
variable (s : State) (v : Bool)

@[simp] theorem State.setSupplyEn_cues : (s.setSupplyEn v).cues = s.cues := rfl
@[simp] theorem State.setSupplyEn_palette : (s.setSupplyEn v).palette = s.palette := rfl
@[simp] theorem State.setSupplyEn_signals : (s.setSupplyEn v).signals = s.signals := rfl
@[simp] theorem State.setSupplyEn_zones : (s.setSupplyEn v).zones = s.zones := rfl
@[simp] theorem State.setSupplyEn_watches : (s.setSupplyEn v).watches = s.watches := rfl
@[simp] theorem State.setSupplyEn_composer : (s.setSupplyEn v).composer = s.composer := rfl
@[simp] theorem State.setSupplyEn_cond : (s.setSupplyEn v).cond = s.cond := rfl
@[simp] theorem State.setSupplyEn_chains : (s.setSupplyEn v).chains = s.chains := rfl
@[simp] theorem State.setSupplyEn_seq : (s.setSupplyEn v).seq = s.seq := rfl
@[simp] theorem State.setSupplyEn_power : (s.setSupplyEn v).power = s.power := rfl
@[simp] theorem State.setSupplyEn_notices : (s.setSupplyEn v).notices = s.notices := rfl
@[simp] theorem State.setSupplyEn_reply : (s.setSupplyEn v).reply = s.reply := rfl
@[simp] theorem State.setSupplyEn_sdo : (s.setSupplyEn v).sdo = s.sdo := rfl
@[simp] theorem State.setSupplyEn_resetLow : (s.setSupplyEn v).resetLow = s.resetLow := rfl
@[simp] theorem State.setSupplyEn_noticeLow : (s.setSupplyEn v).noticeLow = s.noticeLow := rfl
@[simp] theorem State.setSupplyEn_supplyEn : (s.setSupplyEn v).supplyEn = v := rfl
@[simp] theorem State.setSupplyEn_freeCounter : (s.setSupplyEn v).freeCounter = s.freeCounter := rfl
@[simp] theorem State.setSupplyEn_pending : (s.setSupplyEn v).pending = s.pending := rfl

end

section
variable (s : State) (v : Nat)

@[simp] theorem State.setFreeCounter_cues : (s.setFreeCounter v).cues = s.cues := rfl
@[simp] theorem State.setFreeCounter_palette : (s.setFreeCounter v).palette = s.palette := rfl
@[simp] theorem State.setFreeCounter_signals : (s.setFreeCounter v).signals = s.signals := rfl
@[simp] theorem State.setFreeCounter_zones : (s.setFreeCounter v).zones = s.zones := rfl
@[simp] theorem State.setFreeCounter_watches : (s.setFreeCounter v).watches = s.watches := rfl
@[simp] theorem State.setFreeCounter_composer : (s.setFreeCounter v).composer = s.composer := rfl
@[simp] theorem State.setFreeCounter_cond : (s.setFreeCounter v).cond = s.cond := rfl
@[simp] theorem State.setFreeCounter_chains : (s.setFreeCounter v).chains = s.chains := rfl
@[simp] theorem State.setFreeCounter_seq : (s.setFreeCounter v).seq = s.seq := rfl
@[simp] theorem State.setFreeCounter_power : (s.setFreeCounter v).power = s.power := rfl
@[simp] theorem State.setFreeCounter_notices : (s.setFreeCounter v).notices = s.notices := rfl
@[simp] theorem State.setFreeCounter_reply : (s.setFreeCounter v).reply = s.reply := rfl
@[simp] theorem State.setFreeCounter_sdo : (s.setFreeCounter v).sdo = s.sdo := rfl
@[simp] theorem State.setFreeCounter_resetLow : (s.setFreeCounter v).resetLow = s.resetLow := rfl
@[simp] theorem State.setFreeCounter_noticeLow : (s.setFreeCounter v).noticeLow = s.noticeLow := rfl
@[simp] theorem State.setFreeCounter_supplyEn : (s.setFreeCounter v).supplyEn = s.supplyEn := rfl
@[simp] theorem State.setFreeCounter_freeCounter : (s.setFreeCounter v).freeCounter = v := rfl
@[simp] theorem State.setFreeCounter_pending : (s.setFreeCounter v).pending = s.pending := rfl

end

section
variable (s : State) (v : List Instr)

@[simp] theorem State.setPending_cues : (s.setPending v).cues = s.cues := rfl
@[simp] theorem State.setPending_palette : (s.setPending v).palette = s.palette := rfl
@[simp] theorem State.setPending_signals : (s.setPending v).signals = s.signals := rfl
@[simp] theorem State.setPending_zones : (s.setPending v).zones = s.zones := rfl
@[simp] theorem State.setPending_watches : (s.setPending v).watches = s.watches := rfl
@[simp] theorem State.setPending_composer : (s.setPending v).composer = s.composer := rfl
@[simp] theorem State.setPending_cond : (s.setPending v).cond = s.cond := rfl
@[simp] theorem State.setPending_chains : (s.setPending v).chains = s.chains := rfl
@[simp] theorem State.setPending_seq : (s.setPending v).seq = s.seq := rfl
@[simp] theorem State.setPending_power : (s.setPending v).power = s.power := rfl
@[simp] theorem State.setPending_notices : (s.setPending v).notices = s.notices := rfl
@[simp] theorem State.setPending_reply : (s.setPending v).reply = s.reply := rfl
@[simp] theorem State.setPending_sdo : (s.setPending v).sdo = s.sdo := rfl
@[simp] theorem State.setPending_resetLow : (s.setPending v).resetLow = s.resetLow := rfl
@[simp] theorem State.setPending_noticeLow : (s.setPending v).noticeLow = s.noticeLow := rfl
@[simp] theorem State.setPending_supplyEn : (s.setPending v).supplyEn = s.supplyEn := rfl
@[simp] theorem State.setPending_freeCounter : (s.setPending v).freeCounter = s.freeCounter := rfl
@[simp] theorem State.setPending_pending : (s.setPending v).pending = v := rfl

end

end Sys2Proof.Machine
end

