-- ==== Sys2Proof/Laws/Frame.lean ====
section
/-! SUPPORT. What each shared operation may change: one lemma for each, which says that every other field stays. -/

set_option Elab.async false

namespace Sys2Proof.Machine

open Sys2Proof

/-! ## How such facts are put together -/

theorem OnlyChanges.refl (l : List Field) (s : State) : OnlyChanges l s s := by
  intro f _; cases f <;> rfl

theorem Field.same_trans {f : Field} {s t u : State} (h : f.same s t) (h' : f.same t u) : f.same s u := by
  cases f <;> exact Eq.trans h' h

theorem OnlyChanges.mono {l m : List Field} {s t : State} (h : OnlyChanges l s t)
    (sub : ∀ f ∈ l, f ∈ m := by decide) : OnlyChanges m s t :=
  fun f hf => h f fun hl => hf (sub f hl)

theorem OnlyChanges.trans {l : List Field} {s t u : State} (h : OnlyChanges l s t) (h' : OnlyChanges l t u) :
    OnlyChanges l s u := fun f hf => Field.same_trans (h f hf) (h' f hf)

/-- One more operation, of which it is known what it changes. -/
theorem OnlyChanges.then {l m : List Field} {s t u : State} (h : OnlyChanges l s t) (h' : OnlyChanges m t u)
    (sub : ∀ f ∈ m, f ∈ l := by decide) : OnlyChanges l s u := h.trans (h'.mono sub)

theorem OnlyChanges.foldl {α : Type} {l : List Field} (f : State → α → State)
    (hf : ∀ s a, OnlyChanges l s (f s a)) (xs : List α) : ∀ s, OnlyChanges l s (xs.foldl f s) := by
  induction xs with
  | nil => intro s; exact .refl l s
  | cons x xs ih => intro s; exact (hf s x).trans (ih _)

theorem OnlyChanges.ite {l : List Field} {s t u : State} {p : Prop} [Decidable p] (h : OnlyChanges l s t)
    (h' : OnlyChanges l s u) : OnlyChanges l s (if p then t else u) := by
  split <;> assumption

/-- A field that is not listed, as an equation. -/
theorem OnlyChanges.field {l : List Field} {s t : State} (h : OnlyChanges l s t) (f : Field)
    (hf : f ∉ l := by decide) : f.same s t := h f hf

/-! ## The updates -/

theorem State.setCues_only (s : State) (v) : OnlyChanges [.cues] s (s.setCues v) := by
  intro f hf; cases f <;> first | rfl | exact absurd (by decide) hf

theorem State.setPalette_only (s : State) (v) : OnlyChanges [.palette] s (s.setPalette v) := by
  intro f hf; cases f <;> first | rfl | exact absurd (by decide) hf

theorem State.setSignals_only (s : State) (v) : OnlyChanges [.signals] s (s.setSignals v) := by
  intro f hf; cases f <;> first | rfl | exact absurd (by decide) hf

theorem State.setZones_only (s : State) (v) : OnlyChanges [.zones] s (s.setZones v) := by
  intro f hf; cases f <;> first | rfl | exact absurd (by decide) hf

theorem State.setWatches_only (s : State) (v) : OnlyChanges [.watches] s (s.setWatches v) := by
  intro f hf; cases f <;> first | rfl | exact absurd (by decide) hf

theorem State.setComposer_only (s : State) (v) : OnlyChanges [.composer] s (s.setComposer v) := by
  intro f hf; cases f <;> first | rfl | exact absurd (by decide) hf

theorem State.setCond_only (s : State) (v) : OnlyChanges [.cond] s (s.setCond v) := by
  intro f hf; cases f <;> first | rfl | exact absurd (by decide) hf

theorem State.setChains_only (s : State) (v) : OnlyChanges [.chains] s (s.setChains v) := by
  intro f hf; cases f <;> first | rfl | exact absurd (by decide) hf

theorem State.setSeq_only (s : State) (v) : OnlyChanges [.seq] s (s.setSeq v) := by
  intro f hf; cases f <;> first | rfl | exact absurd (by decide) hf

theorem State.setPower_only (s : State) (v) : OnlyChanges [.power] s (s.setPower v) := by
  intro f hf; cases f <;> first | rfl | exact absurd (by decide) hf

theorem State.setNotices_only (s : State) (v) : OnlyChanges [.notices] s (s.setNotices v) := by
  intro f hf; cases f <;> first | rfl | exact absurd (by decide) hf

theorem State.setReply_only (s : State) (v) : OnlyChanges [.reply] s (s.setReply v) := by
  intro f hf; cases f <;> first | rfl | exact absurd (by decide) hf

theorem State.setSdo_only (s : State) (v) : OnlyChanges [.sdo] s (s.setSdo v) := by
  intro f hf; cases f <;> first | rfl | exact absurd (by decide) hf

theorem State.setResetLow_only (s : State) (v) : OnlyChanges [.resetLow] s (s.setResetLow v) := by
  intro f hf; cases f <;> first | rfl | exact absurd (by decide) hf

theorem State.setNoticeLow_only (s : State) (v) : OnlyChanges [.noticeLow] s (s.setNoticeLow v) := by
  intro f hf; cases f <;> first | rfl | exact absurd (by decide) hf

theorem State.setSupplyEn_only (s : State) (v) : OnlyChanges [.supplyEn] s (s.setSupplyEn v) := by
  intro f hf; cases f <;> first | rfl | exact absurd (by decide) hf

theorem State.setFreeCounter_only (s : State) (v) : OnlyChanges [.freeCounter] s (s.setFreeCounter v) := by
  intro f hf; cases f <;> first | rfl | exact absurd (by decide) hf

theorem State.setPending_only (s : State) (v) : OnlyChanges [.pending] s (s.setPending v) := by
  intro f hf; cases f <;> first | rfl | exact absurd (by decide) hf

end Sys2Proof.Machine
end

