-- ==== Sys2Proof/Laws/Cues.lean ====
section
/-! SUPPORT. What the operations of the Cue Table, the Watch Table, the notices and the Sequence Engine may change. -/

set_option Elab.async false

namespace Sys2Proof.Machine

open Sys2Proof

/-! ## Notices, events, holds, the dark interval -/

theorem State.driveNotice_only (s : State) : OnlyChanges [.noticeLow] s s.driveNotice := s.setNoticeLow_only _

theorem State.raise_only (s : State) (k x d) : OnlyChanges [.notices, .noticeLow] s (s.raise k x d) :=
  ((OnlyChanges.refl _ s).then (s.setNotices_only _)).then (State.driveNotice_only _)

theorem State.withNotices_only (s : State) (n) : OnlyChanges [.notices, .noticeLow] s (s.withNotices n) :=
  ((OnlyChanges.refl _ s).then (s.setNotices_only _)).then (State.driveNotice_only _)

theorem State.zoneEvent_only (g) (s : State) (z) : OnlyChanges [.zones, .watches] s (s.zoneEvent g z) :=
  ((OnlyChanges.refl _ s).then (s.setZones_only _)).then (State.setWatches_only _ _)

theorem State.zoneEvents_only (g) (s : State) (zs) : OnlyChanges [.zones, .watches] s (s.zoneEvents g zs) :=
  OnlyChanges.foldl _ (fun s z => s.zoneEvent_only g z) _ s

theorem State.holdZone_only (s : State) (z) : OnlyChanges [.zones, .watches] s (s.holdZone z) := by
  unfold State.holdZone
  exact .ite (((OnlyChanges.refl _ s).then (s.setZones_only _)).then (State.zoneEvent_only _ _ _)) (.refl _ _)

theorem State.releaseZone_only (s : State) (z) : OnlyChanges [.zones, .watches] s (s.releaseZone z) := by
  unfold State.releaseZone
  exact .ite (.refl _ _) (((OnlyChanges.refl _ s).then (s.setZones_only _)).then (State.zoneEvent_only _ _ _))

theorem State.holdZones_only (s : State) (zs) : OnlyChanges [.zones, .watches] s (s.holdZones zs) :=
  OnlyChanges.foldl _ State.holdZone_only _ s

theorem State.releaseZones_only (s : State) (zs) : OnlyChanges [.zones, .watches] s (s.releaseZones zs) :=
  OnlyChanges.foldl _ State.releaseZone_only _ s

theorem State.reloadDark_only (s : State) : OnlyChanges [.power] s s.reloadDark := s.setPower_only _

theorem State.applyStaged_only (s : State) : OnlyChanges [.palette] s s.applyStaged := s.setPalette_only _

theorem State.useFree_only (s : State) : OnlyChanges [.freeCounter] s s.useFree := s.setFreeCounter_only _

theorem State.reportFreed_only (s : State) (t h) : OnlyChanges [.seq] s (s.reportFreed t h) := by
  unfold State.reportFreed
  split
  · exact .refl _ _
  · exact s.setSeq_only _

theorem State.freeWatch_only (s : State) (w) : OnlyChanges [.watches] s (s.freeWatch w) := s.setWatches_only _

/-! ## Slots of the Cue Table -/

theorem State.putCue_only (s : State) (k c) : OnlyChanges [.cues] s (s.putCue k c) := s.setCues_only _

theorem State.freeSlot_only (g) (s : State) (k) :
    OnlyChanges [.cues, .zones, .watches, .seq] s (s.freeSlot g k) := by
  unfold State.freeSlot
  split
  · exact .refl _ _
  · exact (((OnlyChanges.refl _ s).then (s.setCues_only _)).then (State.zoneEvents_only _ _ _)).then
      (State.reportFreed_only _ _ _)

theorem State.beginFade_only (g e) (s : State) (k) :
    OnlyChanges [.cues, .zones, .watches, .seq] s (s.beginFade g e k) := by
  unfold State.beginFade
  split
  · exact .refl _ _
  · have h := fun c l z => ((((OnlyChanges.refl [.cues, .zones, .watches, .seq] s).then (s.putCue_only k c)).then
      (State.setCues_only _ l)).then (State.zoneEvents_only g _ z))
    exact .ite (.refl _ _) (.ite ((h _ _ _).trans (State.freeSlot_only _ _ _)) (h _ _ _))

theorem State.fadeAll_only (s : State) (ks) : OnlyChanges [.cues, .zones, .watches, .seq] s (s.fadeAll ks) :=
  OnlyChanges.foldl _ (fun s k => s.beginFade_only _ _ k) _ s

theorem State.freeAll_only (s : State) (ks) : OnlyChanges [.cues, .zones, .watches, .seq] s (s.freeAll ks) :=
  OnlyChanges.foldl _ (fun s k => s.freeSlot_only _ k) _ s

theorem State.retire_only (g m) (s : State) (k) :
    OnlyChanges [.cues, .zones, .watches, .seq] s (s.retire g m k) := by
  cases m
  · exact s.beginFade_only _ _ _
  · exact s.freeSlot_only _ _

theorem State.replaceCue_only (g) (s : State) (k c) :
    OnlyChanges [.cues, .zones, .watches] s (s.replaceCue g k c) :=
  ((OnlyChanges.refl _ s).then (s.putCue_only _ _)).then (State.zoneEvents_only _ _ _)

theorem State.writeCue_only (g) (s : State) (k o t d) :
    OnlyChanges [.cues, .zones, .watches, .power] s (s.writeCue g k o t d) :=
  (((OnlyChanges.refl _ s).then (s.setCues_only _)).then (State.zoneEvents_only _ _ _)).then
    (State.reloadDark_only _)

theorem State.evict_only (g) (s : State) (k) :
    OnlyChanges [.cues, .zones, .watches, .seq, .notices, .noticeLow] s (s.evict g k) := by
  unfold State.evict
  split
  · exact .refl _ _
  · exact ((OnlyChanges.refl _ s).then (s.freeSlot_only _ _)).then (State.raise_only _ _ _ _)

theorem State.makeRoom_only (g) (s : State) (ks d r) :
    OnlyChanges [.cues, .zones, .watches, .seq, .notices, .noticeLow] s (s.makeRoom g ks d r) := by
  have h : OnlyChanges [.cues, .zones, .watches, .seq, .notices, .noticeLow] s
      (ks.foldl (State.beginFade g fun _ => d.fadeIn) s) :=
    (OnlyChanges.foldl _ (fun s k => s.beginFade_only _ _ k) _ s).mono
  unfold State.makeRoom
  split
  · exact h.then (State.evict_only _ _ _)
  · exact h

theorem State.post_only {g} {s : State} {o t d k s'} (h : s.post g o t d = some (k, s')) :
    OnlyChanges [.cues, .zones, .watches, .seq, .power, .notices, .noticeLow] s s' := by
  unfold State.post at h
  dsimp only at h
  split at h
  · simp at h
  · simp only [Option.map_eq_some_iff, Prod.mk.injEq] at h
    obtain ⟨k, -, -, rfl⟩ := h
    exact ((OnlyChanges.refl _ s).then (s.makeRoom_only _ _ _ _)).then (State.writeCue_only _ _ _ _ _ _)

theorem State.fadeInCompletion_only (s : State) (k) : OnlyChanges [.cues] s (s.fadeInCompletion k) := by
  unfold State.fadeInCompletion
  split
  · exact .refl _ _
  · exact .ite (s.putCue_only _ _) (.refl _ _)

theorem State.lifetimeExpiry_only (s : State) (k) :
    OnlyChanges [.cues, .zones, .watches, .seq] s (s.lifetimeExpiry k) :=
  .ite (s.beginFade_only _ _ _) (.refl _ _)

theorem State.fadeOutCompletion_only (s : State) (k) :
    OnlyChanges [.cues, .zones, .watches, .seq] s (s.fadeOutCompletion k) :=
  .ite (s.freeSlot_only _ _) (.refl _ _)

/-! ## The Sequence Engine -/

/-- What a runner's work may change. -/
abbrev engineFields : List Field := [.cues, .zones, .watches, .seq, .power, .palette, .notices, .noticeLow]

theorem State.setRunner_only (s : State) (r f) : OnlyChanges [.seq] s (s.setRunner r f) := s.setSeq_only _

theorem State.setSlot_only (s : State) (k f) : OnlyChanges [.seq] s (s.setSlot k f) := s.setSeq_only _

theorem State.waitAt_only (s : State) (r i x w) : OnlyChanges [.seq] s (s.waitAt r i x w) := s.setRunner_only _ _

theorem State.idleRunner_only (s : State) (r) : OnlyChanges [.seq] s (s.idleRunner r) := by
  unfold State.idleRunner
  dsimp only
  split
  · exact s.setRunner_only _ _
  · exact (s.setRunner_only _ _).trans (State.setSlot_only _ _ _)

theorem State.reportIdle_only (s : State) : OnlyChanges [.palette] s s.reportIdle :=
  .ite (.refl _ _) s.applyStaged_only

theorem State.stopRunner_only (s : State) (r c) : OnlyChanges [.seq, .notices, .noticeLow] s (s.stopRunner r c) := by
  unfold State.stopRunner
  split
  · exact (s.idleRunner_only r).mono
  · exact ((OnlyChanges.refl _ s).then (s.idleRunner_only r)).then (State.raise_only _ _ _ _)

theorem State.untag_only (s : State) (k) : OnlyChanges [.cues] s (s.untag k) := by
  unfold State.untag
  split
  · exact .refl _ _
  · exact s.putCue_only _ _

theorem State.dispose_only (s : State) (r d) :
    OnlyChanges [.cues, .zones, .watches, .seq] s (s.dispose r d) := by
  cases d
  · exact (OnlyChanges.foldl _ State.untag_only _ s).mono
  · exact s.fadeAll_only _
  · exact ((OnlyChanges.refl _ s).then (s.holdZones_only _)).then (State.freeAll_only _ _)

theorem State.finishRun_only (s : State) (r d) :
    OnlyChanges [.cues, .zones, .watches, .seq, .palette, .notices, .noticeLow] s (s.finishRun r d) :=
  (((OnlyChanges.refl _ s).then (s.dispose_only r d)).then (State.stopRunner_only _ _ _)).then
    (State.reportIdle_only _)

theorem State.abortQuiet_only (s : State) (r c) :
    OnlyChanges [.cues, .zones, .watches, .seq, .notices, .noticeLow] s (s.abortQuiet r c) :=
  ((OnlyChanges.refl _ s).then (s.fadeAll_only _)).then (State.stopRunner_only _ _ _)

theorem State.abortRunner_only (s : State) (r c) :
    OnlyChanges [.cues, .zones, .watches, .seq, .palette, .notices, .noticeLow] s (s.abortRunner r c) :=
  ((OnlyChanges.refl _ s).then (s.abortQuiet_only r c)).then (State.reportIdle_only _)

theorem State.postStep_only (s : State) (r t l) :
    OnlyChanges [.cues, .zones, .watches, .seq, .power, .notices, .noticeLow] s (s.postStep r t l) := by
  unfold State.postStep
  split
  · exact (s.setRunner_only _ _).mono
  · split
    · exact (s.setRunner_only _ _).mono
    · next h => exact (State.post_only h).then (State.setRunner_only _ _ _)

theorem State.retireStep_only (s : State) (r l m) :
    OnlyChanges [.cues, .zones, .watches, .seq] s (s.retireStep r l m) := by
  unfold State.retireStep
  split
  · exact .refl _ _
  · exact s.retire_only _ _ _

theorem State.modifyStep_only (s : State) (r l n) :
    OnlyChanges [.cues, .zones, .watches] s (s.modifyStep r l n) := by
  unfold State.modifyStep
  split
  · exact .refl _ _
  · exact .ite (.refl _ _) (s.replaceCue_only _ _ _)

theorem State.repeatStep_only (s : State) (r i t n) : OnlyChanges [.seq] s (s.repeatStep r i t n).1 := by
  unfold State.repeatStep
  split <;> exact s.setRunner_only _ _

theorem State.advance_only (n : Nat) (r) :
    ∀ (i : Nat) (s : State), OnlyChanges engineFields s (State.advance n r i s) := by
  induction n with
  | zero => intro i s; exact (s.waitAt_only _ _ _ _).mono
  | succ n ih =>
    intro i s
    unfold State.advance
    split
    · exact (s.waitAt_only _ _ _ _).mono
    · exact ((OnlyChanges.refl _ s).then (s.postStep_only _ _ _)).trans (ih _ _)
    · exact ((OnlyChanges.refl _ s).then (s.retireStep_only _ _ _)).trans (ih _ _)
    · exact ((OnlyChanges.refl _ s).then (s.modifyStep_only _ _ _)).trans (ih _ _)
    · exact (s.waitAt_only _ _ _ _).mono
    · exact .ite (ih _ _) (s.waitAt_only _ _ _ _).mono
    · exact ((OnlyChanges.refl _ s).then (s.repeatStep_only _ _ _ _)).trans (ih _ _)
    · exact (s.finishRun_only _ _).mono

theorem State.giveRunner_only (s : State) (r k x) : OnlyChanges engineFields s (s.giveRunner r k x) :=
  ((((((OnlyChanges.refl _ s).then (s.setRunner_only r _)).then (State.setSlot_only _ k _)).then
    (State.setSeq_only _ _)).then (State.releaseZones_only _ _)).then (State.reloadDark_only _)).trans
    (State.advance_only _ _ _ _)

theorem State.startSlot_only {s : State} {k x r s'} (h : s.startSlot k x = .ok (r, s')) :
    OnlyChanges engineFields s s' := by
  unfold State.startSlot at h
  split at h <;> try simp at h
  split at h
  · obtain ⟨-, rfl⟩ := by simpa using h
    exact s.giveRunner_only _ _ _
  · obtain ⟨-, rfl⟩ := by simpa using h
    exact (((OnlyChanges.refl _ s).then (s.abortQuiet_only _ _)).trans (State.giveRunner_only _ _ _ _))
  · simp at h

theorem State.wakeStart_only (s : State) : OnlyChanges engineFields s s.wakeStart := by
  unfold State.wakeStart
  split
  · exact .refl _ _
  · split
    · exact .refl _ _
    · split
      · next h => exact State.startSlot_only h
      · exact (s.raise_only _ _ _).mono
      · exact (s.raise_only _ _ _).mono

theorem State.waitExpiry_only (s : State) (r) : OnlyChanges engineFields s (s.waitExpiry r) :=
  .ite (State.advance_only _ _ _ _) (.refl _ _)

theorem State.raiseTimeout_only (s : State) (r) : OnlyChanges [.notices, .noticeLow] s (s.raiseTimeout r) := by
  unfold State.raiseTimeout
  split
  · exact .refl _ _
  · exact s.raise_only _ _ _

theorem State.waitSignalTimeout_only (s : State) (r) : OnlyChanges engineFields s (s.waitSignalTimeout r) := by
  unfold State.waitSignalTimeout
  refine .ite ?_ (.refl _ _)
  have h : OnlyChanges engineFields s (s.raiseTimeout r) := (s.raiseTimeout_only r).mono
  cases s.seq.timeoutAction r
  · exact h.trans (State.advance_only _ _ _ _)
  · exact h.then (State.abortRunner_only _ _ _)
  · exact (h.then (State.setRunner_only _ _ _)).trans (State.advance_only _ _ _ _)

theorem State.wakeRunner_only (s : State) (n r) : OnlyChanges engineFields s (s.wakeRunner n r) :=
  .ite (((OnlyChanges.refl _ s).then (s.setRunner_only _ _)).trans (State.advance_only _ _ _ _)) (.refl _ _)

theorem State.wakeRunners_only (s : State) (n) :
    OnlyChanges (.freeCounter :: engineFields) s (s.wakeRunners n) := by
  have h := OnlyChanges.refl (.freeCounter :: engineFields) s
  unfold State.wakeRunners
  exact .ite
    (.ite (((h.then s.useFree_only).then (State.wakeRunner_only _ _ _)).then (State.wakeRunner_only _ _ _))
      (((h.then s.useFree_only).then (State.wakeRunner_only _ _ _)).then (State.wakeRunner_only _ _ _)))
    ((h.then (State.wakeRunner_only _ _ _)).then (State.wakeRunner_only _ _ _))

theorem State.signalChange_only (s : State) (n) :
    OnlyChanges (.freeCounter :: engineFields) s (s.signalChange n) :=
  ((OnlyChanges.refl _ s).then (s.setCues_only _)).trans (State.wakeRunners_only _ _)

theorem State.changeSignals_only (s : State) (m v) :
    OnlyChanges (.signals :: .freeCounter :: engineFields) s (s.changeSignals m v) :=
  ((OnlyChanges.refl _ s).then (s.setSignals_only _)).then (OnlyChanges.foldl _ State.signalChange_only _ _)

end Sys2Proof.Machine
end

