-- ==== Sys2Proof/Laws/Chains.lean ====
section
/-! SUPPORT. What the operations of the chains, the Power Controller, the composition frame and the time base may change. -/

set_option Elab.async false

namespace Sys2Proof.Machine

open Sys2Proof

/-! ## Chain records -/

theorem State.setChain_only (s : State) (i c) : OnlyChanges [.chains, .composer] s (s.setChain i c) :=
  .ite (s.setChains_only _).mono (((OnlyChanges.refl _ s).then (s.setChains_only _)).then (State.setComposer_only _ _))

theorem State.updateChain_only (s : State) (i f) : OnlyChanges [.chains, .composer] s (s.updateChain i f) :=
  s.setChain_only _ _

theorem State.enable_only (s : State) (i b) : OnlyChanges [.chains, .composer] s (s.enable i b) :=
  s.setChain_only _ _

theorem State.startChain_only (s : State) (i) : OnlyChanges [.chains, .composer, .cond] s (s.startChain i) :=
  ((OnlyChanges.refl _ s).then (s.setChain_only _ _)).then (State.setCond_only _ _)

theorem State.stopChain_only (s : State) (i) : OnlyChanges [.chains, .composer] s (s.stopChain i) :=
  .ite (.refl _ _) (s.setChain_only _ _)

theorem State.stopChains_only (s : State) : OnlyChanges [.chains, .composer] s s.stopChains :=
  OnlyChanges.foldl _ State.stopChain_only _ s

/-! ## The Power Controller -/

/-- What a transition of the power state may change. -/
abbrev powerFields : List Field :=
  [.cues, .zones, .watches, .seq, .power, .palette, .notices, .noticeLow, .supplyEn, .cond, .composer, .chains,
   .freeCounter]

theorem State.raisePower_only (s : State) (x c) : OnlyChanges [.notices, .noticeLow] s (s.raisePower x c) :=
  s.raise_only _ _ _

theorem State.enterPowering_only (s : State) (c) : OnlyChanges [.power, .supplyEn] s (s.enterPowering c) :=
  ((OnlyChanges.refl _ s).then (s.setPower_only _)).then (State.setSupplyEn_only _ _)

theorem State.relight_only (s : State) : OnlyChanges [.cond, .composer] s s.relight :=
  ((OnlyChanges.refl _ s).then (s.setCond_only _)).then (State.setComposer_only _ _)

theorem State.finishLastFrame_only (s : State) : OnlyChanges [.composer] s s.finishLastFrame := by
  unfold State.finishLastFrame
  split
  · exact .refl _ _
  · exact s.setComposer_only _

/-- No frame is in flight after the last frame has completed (R96). -/
theorem State.finishLastFrame_frame (s : State) : s.finishLastFrame.composer.frame = none := by
  unfold State.finishLastFrame
  split
  · assumption
  · rfl

theorem State.lightUp_only (s : State) :
    OnlyChanges [.power, .cond, .composer, .notices, .noticeLow] s s.lightUp :=
  ((((((OnlyChanges.refl _ s).then s.finishLastFrame_only).then (State.setPower_only _ _)).then
    (State.relight_only _)).then (State.reloadDark_only _)).then (State.raisePower_only _ _ _)).then
    (State.setComposer_only _ _)

theorem State.makePendingWake_only (s : State) : OnlyChanges engineFields s s.makePendingWake :=
  .ite (((OnlyChanges.refl _ s).then (s.setPower_only _)).trans (State.wakeStart_only _)) (.refl _ _)

theorem State.orderEntryWake_only (s : State) : OnlyChanges (.freeCounter :: engineFields) s s.orderEntryWake :=
  .ite (.ite s.useFree_only.mono (((OnlyChanges.refl _ s).then s.useFree_only).then (State.makePendingWake_only _)))
    s.makePendingWake_only.mono

/-- Step 6 of R176 beside the first snapshot, when a welcome waits: it stays pending, or it is made at once (log 10). -/
theorem State.orderEntryWake_waiting (s : State) (h : s.power.pendingWake = true)
    (ha : s.power.welcomeArm.isSome = true) :
    s.orderEntryWake = if Config.snapshotFirst s.freeCounter then s.useFree else s.useFree.makePendingWake := by
  simp [State.orderEntryWake, h, ha]

/-- Step 6 of R176 where no wake start is pending. -/
theorem State.orderEntryWake_clear (s : State) (h : s.power.pendingWake = false) : s.orderEntryWake = s := by
  simp [State.orderEntryWake, State.makePendingWake, h]

/-- Step 6 of R176 where no welcome is armed: the pending start is cleared and nothing is started. -/
theorem State.orderEntryWake_unarmed (s : State) (h : s.power.pendingWake = true) (ha : s.power.welcomeArm = none) :
    s.orderEntryWake = s.setPower { s.power with pendingWake := false } := by
  simp [State.orderEntryWake, State.makePendingWake, State.wakeStart, h, ha]

theorem State.makePendingWake_clear (s : State) (h : s.power.pendingWake = false) : s.makePendingWake = s := by
  simp [State.makePendingWake, h]

theorem State.enterLit_only (s : State) :
    OnlyChanges (.cond :: .composer :: .freeCounter :: engineFields) s s.enterLit :=
  ((OnlyChanges.refl _ s).then s.lightUp_only).then (State.orderEntryWake_only _)

theorem State.chainArrived_only (s : State) (i) :
    OnlyChanges (.cond :: .composer :: .freeCounter :: engineFields) s (s.chainArrived i) := by
  have h := (OnlyChanges.refl (.cond :: .composer :: .freeCounter :: engineFields) s).then
    (s.setPower_only { s.power with awaited := s.power.awaited &&& ~~~ BitVec.twoPow 4 i })
  exact .ite (.ite (h.trans (State.enterLit_only _)) h) (.refl _ _)

theorem State.enterDormant_only (s : State) : OnlyChanges [.power, .composer] s s.enterDormant :=
  (s.finishLastFrame_only.mono (m := [.power, .composer])).then (State.setPower_only _ _)

theorem State.freeTransients_only (s : State) :
    OnlyChanges [.cues, .zones, .watches, .seq] s s.freeTransients := s.freeAll_only _

theorem State.endOfDimming_only (s : State) :
    OnlyChanges [.power, .supplyEn, .composer, .chains, .cues, .zones, .watches, .seq, .notices, .noticeLow] s
      s.endOfDimming := by
  unfold State.endOfDimming
  exact .ite (((((((OnlyChanges.refl _ s).then s.stopChains_only).then (State.setSupplyEn_only _ _)).then
    (State.setComposer_only _ _)).then (State.freeTransients_only _)).then (State.setPower_only _ _)).then
    (State.raisePower_only _ _ _) |>.then (State.enterDormant_only _))
    (((((((OnlyChanges.refl _ s).then s.stopChains_only).then (State.setSupplyEn_only _ _)).then
    (State.setComposer_only _ _)).then (State.freeTransients_only _)).then (State.setPower_only _ _)).then
    (State.raisePower_only _ _ _))

theorem State.abortForPower_only (s : State) (r) :
    OnlyChanges [.cues, .zones, .watches, .seq, .palette, .notices, .noticeLow] s (s.abortForPower r) :=
  .ite (s.abortRunner_only _ _) (.refl _ _)

theorem State.enterDimming_only (s : State) (d) :
    OnlyChanges [.power, .supplyEn, .composer, .chains, .cues, .zones, .watches, .seq, .palette, .notices, .noticeLow] s
      (s.enterDimming d) := by
  unfold State.enterDimming
  exact .ite ((((((OnlyChanges.refl _ s).then s.makePendingWake_only).then (State.setPower_only _ _)).then
    (State.abortForPower_only _ _)).then (State.abortForPower_only _ _)).then (State.endOfDimming_only _))
    (((((OnlyChanges.refl _ s).then s.makePendingWake_only).then (State.setPower_only _ _)).then
    (State.abortForPower_only _ _)).then (State.abortForPower_only _ _))

theorem State.reverseDimming_only (s : State) :
    OnlyChanges [.power, .cond, .composer, .notices, .noticeLow] s s.reverseDimming :=
  ((((OnlyChanges.refl _ s).then (s.setPower_only _)).then (State.relight_only _)).then
    (State.reloadDark_only _)).then (State.raisePower_only _ _ _)

theorem State.abandonPowering_only (s : State) :
    OnlyChanges [.power, .chains, .composer, .supplyEn, .notices, .noticeLow] s s.abandonPowering :=
  ((((OnlyChanges.refl _ s).then s.stopChains_only).then (State.setSupplyEn_only _ _)).then
    (State.setPower_only _ _)).then (State.raisePower_only _ _ _)

theorem State.armedEdge_only (s : State) : OnlyChanges powerFields s s.armedEdge := by
  unfold State.armedEdge
  split
  · exact .refl _ _
  · exact (s.setPower_only _).mono
  · exact ((OnlyChanges.refl _ s).then (s.setPower_only _)).then (State.enterPowering_only _ _)
  · exact (s.setPower_only _).mono
  · exact s.wakeStart_only.mono
  · exact ((OnlyChanges.refl _ s).then s.reverseDimming_only).then (State.wakeStart_only _)

theorem State.wakeEdge_only (s : State) : OnlyChanges powerFields s s.wakeEdge :=
  .ite (s.setPower_only _).mono (.ite s.armedEdge_only (.refl _ _))

theorem State.wakeDelayExpiry_only (s : State) :
    OnlyChanges [.power, .supplyEn, .notices, .noticeLow] s s.wakeDelayExpiry := by
  unfold State.wakeDelayExpiry
  exact .ite (.ite ((((OnlyChanges.refl _ s).then (s.setPower_only _)).then (State.raisePower_only _ _ _)).then
    (State.enterPowering_only _ _))
    (((OnlyChanges.refl _ s).then (s.setPower_only _)).then (State.raisePower_only _ _ _))) (.refl _ _)

theorem State.settleExpiry_only (s : State) : OnlyChanges powerFields s s.settleExpiry := by
  unfold State.settleExpiry
  exact .ite (.ite ((((OnlyChanges.refl _ s).then (s.setPower_only _)).then
    (OnlyChanges.foldl _ State.startChain_only _ _)).then (State.enterLit_only _))
    (((OnlyChanges.refl _ s).then (s.setPower_only _)).then (OnlyChanges.foldl _ State.startChain_only _ _)))
    (.refl _ _)

theorem State.dimmingEnd_only (s : State) : OnlyChanges powerFields s s.dimmingEnd :=
  .ite s.endOfDimming_only.mono (.refl _ _)

theorem State.darkExpiry_only (s : State) : OnlyChanges powerFields s s.darkExpiry :=
  .ite (s.enterDimming_only _).mono (.refl _ _)

/-! ## The Chain Controllers -/

/-- What an event of a chain may change. -/
abbrev chainFields : List Field :=
  [.cues, .zones, .watches, .seq, .power, .palette, .notices, .noticeLow, .cond, .composer, .chains, .freeCounter]

theorem State.raiseChain_only (s : State) (i e) : OnlyChanges [.notices, .noticeLow] s (s.raiseChain i e) :=
  s.raise_only _ _ _

theorem State.raiseMismatch_only (s : State) (i n) : OnlyChanges [.notices, .noticeLow] s (s.raiseMismatch i n) :=
  s.raise_only _ _ _

theorem State.raiseNode_only (s : State) (i p f) : OnlyChanges [.notices, .noticeLow] s (s.raiseNode i p f) :=
  s.raise_only _ _ _

theorem State.failChain_only (s : State) (i) : OnlyChanges chainFields s (s.failChain i) :=
  (((OnlyChanges.refl _ s).then (s.updateChain_only _ _)).then (State.raiseChain_only _ _ _)).then
    (State.chainArrived_only _ _)

theorem State.locateChain_only (s : State) (i b) :
    OnlyChanges [.notices, .noticeLow, .chains, .composer] s (s.locateChain i b) :=
  ((OnlyChanges.refl _ s).then (s.raiseChain_only _ _)).then (State.updateChain_only _ _ _)

theorem State.giveUp_only (s : State) (i b) : OnlyChanges chainFields s (s.giveUp i b) :=
  .ite (s.failChain_only _) (s.locateChain_only _ _).mono

theorem State.markUnread_only (i) (s : State) (p) :
    OnlyChanges [.notices, .noticeLow, .chains, .composer] s (s.markUnread i p) := by
  unfold State.markUnread
  split
  · exact .refl _ _
  · exact ((OnlyChanges.refl _ s).then (s.updateChain_only _ _)).then (State.raiseNode_only _ _ _ _)

theorem State.concludeIdent_only (s : State) (i ps us) (next : State → State)
    (hn : ∀ u : State, OnlyChanges chainFields u (next u)) :
    OnlyChanges chainFields s (s.concludeIdent i ps us next) := by
  have h := (OnlyChanges.refl chainFields s).then
    (OnlyChanges.foldl (State.markUnread i) (State.markUnread_only i) ((List.range' 1 60).filter us.contains) s)
  exact .ite (h.trans (State.failChain_only _ _)) ((h.then (State.updateChain_only _ _ _)).trans (hn _))

theorem State.arriveRing_only (s : State) (i) : OnlyChanges chainFields s (s.arriveRing i) :=
  ((OnlyChanges.refl _ s).then (s.updateChain_only _ _)).then (State.chainArrived_only _ _)

theorem State.startCountFailed_only (s : State) (i n) : OnlyChanges chainFields s (s.startCountFailed i n) := by
  have h := fun f => (OnlyChanges.refl chainFields s).then (s.updateChain_only i f)
  exact .ite ((h _).then (State.updateChain_only _ _ _))
    (.ite (((h _).then (State.updateChain_only _ _ _)).then (State.raiseChain_only _ _ _))
      ((h _).trans (State.giveUp_only _ _ _)))

theorem State.startCounted_only (s : State) (i p) : OnlyChanges chainFields s (s.startCounted i p) := by
  have h : OnlyChanges chainFields s (if countedNumber p = s.chains[i].expected then s
      else s.raiseMismatch i (countedNumber p)) := .ite (.refl _ _) (s.raiseMismatch_only _ _).mono
  have h' := h.then (State.updateChain_only _ i (Chain.count (countedNumber p)))
  exact .ite (((OnlyChanges.refl _ s).then (s.raiseMismatch_only _ _)).then (State.failChain_only _ _))
    (.ite (h'.trans (State.arriveRing_only _ _)) (h'.then (State.updateChain_only _ _ _)))

theorem State.startIdentified_only (s : State) (i a b us) :
    OnlyChanges chainFields s (s.startIdentified i a b us) :=
  .ite (s.updateChain_only _ _).mono
    (.ite (s.giveUp_only _ _) (s.concludeIdent_only _ _ _ _ fun u => u.arriveRing_only i))

theorem State.finishSplit_only (s : State) (i x) : OnlyChanges chainFields s (s.finishSplit i x) :=
  (((OnlyChanges.refl _ s).then (s.updateChain_only _ _)).then (State.raiseChain_only _ _ _)).then
    (State.chainArrived_only _ _)

theorem State.sideCountFailed_only (s : State) (i x e n) :
    OnlyChanges chainFields s (s.sideCountFailed i x e n) := by
  have h := fun f => (OnlyChanges.refl chainFields s).then (s.updateChain_only i f)
  exact .ite ((h _).then (State.updateChain_only _ _ _)) ((h _).trans (State.failChain_only _ _))

theorem State.nextSide_only (s : State) (i x e) : OnlyChanges chainFields s (s.nextSide i x e) :=
  .ite (s.updateChain_only _ _).mono (s.finishSplit_only _ _)

theorem State.sideIdentified_only (s : State) (i x e a b us) :
    OnlyChanges chainFields s (s.sideIdentified i x e a b us) :=
  .ite (s.updateChain_only _ _).mono
    (.ite (s.failChain_only _) (s.concludeIdent_only _ _ _ _ fun u => u.nextSide_only i x e))

theorem State.enterSplit_only (s : State) (i a b) : OnlyChanges chainFields s (s.enterSplit i a b) := by
  have h : ∀ (p : Prop) [Decidable p] (n : Nat) (f : Chain → Chain), OnlyChanges chainFields s
      ((if p then s.raiseMismatch i n else s).updateChain i f) := fun p _ n f =>
    OnlyChanges.then (.ite (s.raiseMismatch_only _ _).mono (.refl _ _)) (State.updateChain_only _ i f)
  exact .ite ((h _ _ _).then (State.updateChain_only _ _ _)) ((h _ _ _).trans (State.finishSplit_only _ _ _))

theorem State.located_only (s : State) (i a b) : OnlyChanges chainFields s (s.located i a b) :=
  .ite (s.failChain_only _)
    (.ite (((OnlyChanges.refl _ s).then (s.raiseMismatch_only _ _)).then (State.failChain_only _ _))
      (s.enterSplit_only _ _ _))

theorem State.probeReached_only (s : State) (i p b) : OnlyChanges chainFields s (s.probeReached i p b) := by
  unfold State.probeReached
  split
  · exact .ite (s.updateChain_only _ _).mono (s.failChain_only _)
  · exact (s.updateChain_only _ _).mono
  · exact .ite (s.located_only _ _ _) (s.updateChain_only _ _).mono

theorem State.probeMissed_only (s : State) (i p x b) : OnlyChanges chainFields s (s.probeMissed i p x b) := by
  refine .ite ?_ (s.updateChain_only _ _).mono
  unfold State.probeFailed
  split
  · exact (s.updateChain_only _ _).mono
  · exact (s.updateChain_only _ _).mono
  · exact s.located_only _ _ _

theorem State.handleReply_only (i) (s : State × Bool) (x) :
    OnlyChanges [.notices, .noticeLow, .chains, .composer] s.1 (State.handleReply i s x).1 := by
  unfold State.handleReply
  split
  · exact .refl _ _
  · split
    · exact ((OnlyChanges.refl _ s.1).then (State.updateChain_only _ _ _)).then
        (OnlyChanges.foldl _ (fun s f => s.raiseNode_only _ _ f) _ _)
    · dsimp only
      split
      · exact ((OnlyChanges.refl _ s.1).then (State.updateChain_only _ _ _)).then (State.raiseNode_only _ _ _ _)
      · exact (State.updateChain_only _ _ _).mono

theorem State.checkReplies_only (s : State) (i ss rs) : OnlyChanges chainFields s (s.checkReplies i ss rs) := by
  have h : ∀ (xs : List (SentSlot × BitVec 48)) (s : State × Bool),
      OnlyChanges [.notices, .noticeLow, .chains, .composer] s.1 (xs.foldl (State.handleReply i) s).1 := by
    intro xs
    induction xs with
    | nil => intro s; exact .refl _ _
    | cons x xs ih => intro s; exact (State.handleReply_only i s x).trans (ih _)
  exact .ite (((h _ (s, false)).mono).trans (State.failChain_only _ _)) (h _ (s, false)).mono

theorem State.ringClean_only (s : State) (i ss f) : OnlyChanges chainFields s (s.ringClean i ss f) :=
  ((OnlyChanges.refl _ s).then (s.updateChain_only _ _)).trans (State.checkReplies_only _ _ _ _)

theorem State.ringLost_only (s : State) (i set) : OnlyChanges chainFields s (s.ringLost i set) := by
  have h := fun f => (OnlyChanges.refl chainFields s).then (s.updateChain_only i f)
  exact .ite (((h _).then (State.updateChain_only _ _ _)).trans (State.giveUp_only _ _ _))
    ((h _).then (State.updateChain_only _ _ _))

theorem State.halfClean_only (s : State) (i x e ss f) : OnlyChanges chainFields s (s.halfClean i x e ss f) :=
  ((OnlyChanges.refl _ s).then (s.updateChain_only _ _)).trans (State.checkReplies_only _ _ _ _)

theorem State.halfLost_only (s : State) (i x e) : OnlyChanges chainFields s (s.halfLost i x e) := by
  have h := fun f => (OnlyChanges.refl chainFields s).then (s.updateChain_only i f)
  exact .ite (.ite ((h _).trans (State.failChain_only _ _)) ((h _).then (State.updateChain_only _ _ _)))
    ((h _).then (State.updateChain_only _ _ _))

theorem State.relocated_only (s : State) (i x e n) : OnlyChanges chainFields s (s.relocated i x e n) := by
  have h := fun f => (OnlyChanges.refl chainFields s).then (s.updateChain_only i f)
  have h' := fun f g e => ((h f).then (State.updateChain_only _ i g)).then (State.raiseChain_only _ i e)
  exact .ite ((h _).then (State.updateChain_only _ _ _))
    (.ite ((h' _ _ _).trans (State.failChain_only _ _)) (h' _ _ _))

theorem State.sideReached_only (s : State) (i x e n) : OnlyChanges chainFields s (s.sideReached i x e n) :=
  .ite (s.relocated_only _ _ _ _) (s.updateChain_only _ _).mono

theorem State.sideMissed_only (s : State) (i x e n b) : OnlyChanges chainFields s (s.sideMissed i x e n b) :=
  .ite (s.relocated_only _ _ _ _) (s.updateChain_only _ _).mono

theorem State.attemptCounted_only (s : State) (i x p) : OnlyChanges chainFields s (s.attemptCounted i x p) :=
  .ite (s.updateChain_only _ _).mono
    (((OnlyChanges.refl _ s).then (s.raiseMismatch_only _ _)).then (State.updateChain_only _ _ _))

theorem State.attemptIdentified_only (s : State) (i x f) :
    OnlyChanges chainFields s (s.attemptIdentified i x f) :=
  .ite (((OnlyChanges.refl _ s).then (s.updateChain_only _ _)).then (State.raiseChain_only _ _ _))
    (s.updateChain_only _ _).mono

theorem State.countReturned_only (s : State) (i f) : OnlyChanges chainFields s (s.countReturned i f) := by
  unfold State.countReturned
  split
  · split
    · exact s.startCountFailed_only _ _
    · exact s.startCounted_only _ _
  · split
    · exact .ite (s.updateChain_only _ _).mono (s.sideCountFailed_only _ _ _ _)
    · split
      · exact (s.updateChain_only _ _).mono
      · exact s.attemptCounted_only _ _ _
    · exact .refl _ _
  · exact .refl _ _

theorem State.countLost_only (s : State) (i) : OnlyChanges chainFields s (s.countLost i) := by
  unfold State.countLost
  split
  · exact s.startCountFailed_only _ _
  · split
    · exact s.sideCountFailed_only _ _ _ _
    · exact (s.updateChain_only _ _).mono
    · exact .refl _ _
  · exact .refl _ _

theorem State.identLost_only (s : State) (i) : OnlyChanges chainFields s (s.identLost i) := by
  unfold State.identLost
  split
  · exact ((OnlyChanges.refl _ s).then (s.updateChain_only _ _)).trans (State.startIdentified_only _ _ _ _ _)
  · split
    · exact ((OnlyChanges.refl _ s).then (s.updateChain_only _ _)).trans (State.sideIdentified_only _ _ _ _ _ _ _)
    · exact (s.updateChain_only _ _).mono
    · exact .refl _ _
  · exact .refl _ _

theorem State.identReturned_only (s : State) (i f) : OnlyChanges chainFields s (s.identReturned i f) := by
  unfold State.identReturned
  split
  · exact .ite
      (((OnlyChanges.refl _ s).then (s.updateChain_only _ _)).trans (State.startIdentified_only _ _ _ _ _))
      (s.identLost_only _)
  · split
    · exact .ite
        (((OnlyChanges.refl _ s).then (s.updateChain_only _ _)).trans (State.sideIdentified_only _ _ _ _ _ _ _))
        (s.identLost_only _)
    · exact s.attemptIdentified_only _ _ _
    · exact .refl _ _
  · exact .refl _ _

theorem State.dutyLost_only (s : State) (i e) : OnlyChanges chainFields s (s.dutyLost i e) := by
  unfold State.dutyLost
  split
  · exact .ite (s.ringLost_only _ _) (.refl _ _)
  · split
    · exact s.halfLost_only _ _ _
    · exact .refl _ _
  · exact .refl _ _

theorem State.dutyReturned_only (s : State) (i e f) : OnlyChanges chainFields s (s.dutyReturned i e f) := by
  unfold State.dutyReturned
  split
  · exact .ite (s.ringClean_only _ _ _) (s.dutyLost_only _ _)
  · split
    · exact .ite (s.halfClean_only _ _ _ _ _) (s.dutyLost_only _ _)
    · exact .refl _ _
  · exact .refl _ _

theorem State.probeLost_only (s : State) (i e) : OnlyChanges chainFields s (s.probeLost i e) := by
  unfold State.probeLost
  split
  · exact .ite (s.probeMissed_only _ _ _ _) (.refl _ _)
  · split
    · exact .ite (s.updateChain_only _ _).mono (.refl _ _)
    · exact s.sideMissed_only _ _ _ _ _
    · exact .refl _ _
  · exact .refl _ _

theorem State.probeReturned_only (s : State) (i e f) : OnlyChanges chainFields s (s.probeReturned i e f) := by
  unfold State.probeReturned
  refine .ite ?_ (s.probeLost_only _ _)
  split
  · exact .ite (s.probeReached_only _ _ _) (.refl _ _)
  · split
    · exact .ite (s.updateChain_only _ _).mono (.refl _ _)
    · exact s.sideReached_only _ _ _ _
    · exact .refl _ _
  · exact .refl _ _

/-! ## The composition frame and the time base -/

theorem State.captureHolds_only (s : State) : OnlyChanges [.zones] s s.captureHolds := s.setZones_only _

theorem State.prepareSnapshot_only (s : State) : OnlyChanges [.zones, .cond] s s.prepareSnapshot :=
  ((OnlyChanges.refl _ s).then s.captureHolds_only).then (State.setCond_only _ _)

theorem State.beginFrame_only (s : State) : OnlyChanges [.zones, .cond, .composer] s s.beginFrame :=
  ((OnlyChanges.refl _ s).then s.prepareSnapshot_only).then (State.setComposer_only _ _)

theorem State.raiseLimits_only (s : State) (i a b) : OnlyChanges [.notices, .noticeLow] s (s.raiseLimits i a b) := by
  unfold State.raiseLimits
  split <;> split
  · exact (s.raise_only _ _ _).trans (State.raise_only _ _ _ _)
  · exact s.raise_only _ _ _
  · exact s.raise_only _ _ _
  · exact .refl _ _

theorem State.deliver_only (f) (s : State) (i) :
    OnlyChanges [.notices, .noticeLow, .cond, .chains, .composer] s (s.deliver f i) :=
  .ite ((((OnlyChanges.refl _ s).then (s.raiseLimits_only _ _ _)).then (State.setCond_only _ _)).then
    (State.updateChain_only _ _ _)) (.refl _ _)

theorem State.completeFrame_only (s : State) :
    OnlyChanges [.notices, .noticeLow, .cond, .chains, .composer] s s.completeFrame := by
  unfold State.completeFrame
  split
  · exact .refl _ _
  · exact ((OnlyChanges.refl _ s).then (s.setComposer_only _)).trans (OnlyChanges.foldl _ (State.deliver_only _) _ _)

theorem State.makeLateWake_only (s : State) : OnlyChanges engineFields s s.makeLateWake :=
  .ite s.makePendingWake_only (.refl _ _)

theorem State.makeLateWake_clear (s : State) (h : s.power.state = .lit → s.power.pendingWake = false) :
    s.makeLateWake = s := by
  unfold State.makeLateWake
  split
  · exact s.makePendingWake_clear (h ‹_›)
  · rfl

theorem State.frameExpiry_only (s : State) :
    OnlyChanges (.cond :: .chains :: .composer :: engineFields) s s.frameExpiry :=
  .ite ((((OnlyChanges.refl _ s).then s.completeFrame_only).then (State.beginFrame_only _)).then
    (State.makeLateWake_only _)) (.refl _ _)

theorem State.settle_only (s : State) : OnlyChanges powerFields s s.settle := by
  have h1 : ∀ (u : State) k, OnlyChanges [.cues, .zones, .watches, .seq] u (u.settleSlot k) := fun u k =>
    (((OnlyChanges.refl _ u).then (u.fadeInCompletion_only k)).trans (State.lifetimeExpiry_only _ k)).trans
      (State.fadeOutCompletion_only _ k)
  have h2 : ∀ (u : State) r, OnlyChanges engineFields u (u.settleRunner r) := fun u r =>
    (u.waitExpiry_only r).trans (State.waitSignalTimeout_only _ r)
  exact ((((OnlyChanges.refl _ s).then (OnlyChanges.foldl _ h1 _ _)).then (OnlyChanges.foldl _ h2 _ _)).trans
    (State.dimmingEnd_only _)).trans (State.darkExpiry_only _)

theorem State.tick_only (s : State) : OnlyChanges [.power, .cues, .seq] s s.tick :=
  (((OnlyChanges.refl _ s).then (s.setPower_only _)).then (State.setCues_only _ _)).then (State.setSeq_only _ _)

theorem State.nextMillisecond_only (s : State) : OnlyChanges powerFields s s.nextMillisecond := by
  have h : OnlyChanges powerFields s (if s.due then s.settle else s) := .ite s.settle_only (.refl _ _)
  exact .ite (.ite (h.then (State.tick_only _)) h) (.refl _ _)

theorem State.silence_only (s : State) (r) : OnlyChanges [.seq] s (s.silence r) := .ite (s.idleRunner_only _) (.refl _ _)

theorem State.softReset_only (s : State) :
    OnlyChanges [.cues, .watches, .zones, .palette, .seq, .power, .notices, .noticeLow] s s.softReset :=
  (((((((((OnlyChanges.refl _ s).then (s.setCues_only _)).then (State.setWatches_only _ _)).then
    (State.setZones_only _ _)).then (State.silence_only _ _)).then (State.silence_only _ _)).then
    (State.applyStaged_only _)).then (State.reloadDark_only _)).then (State.setNotices_only _ _)).then
    (State.raise_only _ _ _ _)

end Sys2Proof.Machine
end

