-- ==== Sys2Proof/Laws/Port.lean ====
section
/-! SUPPORT. What the port does with a frame: where the owning block is asked, and what its verdict leaves. -/

set_option Elab.async false

namespace Sys2Proof.Machine

open Sys2Proof

theorem PowerState.receives_not_dormant {p : PowerState} (h : p.receives = true) : p ≠ .dormant := by
  rintro rfl; simp [PowerState.receives] at h

theorem PowerState.receives_not_waking {p : PowerState} (h : p.receives = true) : p ≠ .waking := by
  rintro rfl; simp [PowerState.receives] at h

theorem State.store_only (s : State) (o n r) : OnlyChanges [.reply, .sdo] s (s.store o n r) :=
  ((OnlyChanges.refl _ s).then (s.setSdo_only _)).then (State.setReply_only _ _)

@[simp] theorem State.store_reply (s : State) (o n r) : (s.store o n r).reply = r := rfl

@[simp] theorem State.store_sdo (s : State) (o n r) :
    (s.store o n r).sdo = { frame := some o, clocked := n } := rfl

theorem State.turnAway_only (s : State) (n x t) : OnlyChanges [.reply, .sdo] s (s.turnAway n x t) :=
  s.store_only _ _ _

@[simp] theorem State.turnAway_reply (s : State) (n x t) :
    (s.turnAway n x t).reply = { status := x, tag := t, payload := .empty } := rfl

@[simp] theorem State.turnAway_sdo (s : State) (n x t) :
    (s.turnAway n x t).sdo = { frame := some s.reply, clocked := n } := rfl

theorem State.unheard_only (s : State) (n) : OnlyChanges [.sdo] s (s.unheard n) := s.setSdo_only _

@[simp] theorem State.unheard_sdo (s : State) (n) : (s.unheard n).sdo = { frame := none, clocked := n } := rfl

theorem State.turnAway_answers (s : State) (n x h) : Answers s (s.turnAway n x h.tag) h x .empty := ⟨rfl, rfl⟩

theorem State.wakeByChipSelect_only (s : State) (n) :
    OnlyChanges [.power, .reply, .sdo] s (s.wakeByChipSelect n) :=
  ((OnlyChanges.refl _ s).then (s.setPower_only _)).then (State.turnAway_only _ _ _ _)

/-- A refusal of the block changes the reply alone. -/
theorem Verdict.stored_refuse (s : State) (n) (h : Header) (x p) :
    Answers s ((Verdict.refuse x p).stored s n h.tag) h x p ∧
      OnlyChanges [.reply, .sdo] s ((Verdict.refuse x p).stored s n h.tag) := ⟨⟨rfl, rfl⟩, s.store_only _ _ _⟩

/-- A command that is carried out leaves the block's state, with the reply. -/
theorem Verdict.stored_accept (s s' : State) (n) (h : Header) (a p) :
    Answers s ((Verdict.accept a p s').stored s n h.tag) h (doneStatus a) p ∧
      OnlyChanges [.reply, .sdo] s' ((Verdict.accept a p s').stored s n h.tag) := ⟨⟨rfl, rfl⟩, s'.store_only _ _ _⟩

/-- A frame that reaches its block is answered by it (R185). -/
theorem State.takeFrame_reaches {cls h} {s : State} (r : Reaches cls h s) (w : Bool) (n : Nat) (block : State → Verdict) :
    s.takeFrame cls w true n h block = (block s).stored s (h.frameBytes n) h.tag := by
  obtain ⟨h1, h2, h3, h4⟩ := r
  unfold State.takeFrame
  simp only [h1, PowerState.receives_not_dormant h2, PowerState.receives_not_waking h2, h3, Bool.false_eq_true,
    if_false, false_and, Bool.true_eq_false]
  rw [if_neg]
  rintro ⟨hc, hne⟩
  exact hne (h4 hc)

/-- The ways of a frame at the port: nothing, a wake, a refusal of the port, or the block's verdict. -/
theorem State.takeFrame_cases (s : State) (cls w ok n h) (block : State → Verdict) :
    (s.resetLow = true ∧ s.takeFrame cls w ok n h block = s.unheard (h.frameBytes n)) ∨
    (s.resetLow = false ∧ s.power.state = .dormant ∧ 
      s.takeFrame cls w ok n h block = s.wakeByChipSelect (h.frameBytes n)) ∨
    (s.resetLow = false ∧ s.power.state ≠ .dormant ∧
      ∃ x ∈ [Status.notReady, .badClient, .badLength, .denied],
        s.takeFrame cls w ok n h block = s.turnAway (h.frameBytes n) x h.tag) ∨
    (s.resetLow = false ∧ s.power.state ≠ .dormant ∧ 
      s.takeFrame cls w ok n h block = (block s).stored s (h.frameBytes n) h.tag) := by
  unfold State.takeFrame
  split_ifs with h1 h2 h3 h4 h5 h6
  · exact .inl ⟨h1, rfl⟩
  · exact .inr (.inl ⟨by simpa using h1, h2, rfl⟩)
  · exact .inr (.inr (.inl ⟨by simpa using h1, h2, _, by simp, rfl⟩))
  · exact .inr (.inr (.inl ⟨by simpa using h1, h2, _, by simp, rfl⟩))
  · exact .inr (.inr (.inl ⟨by simpa using h1, h2, _, by simp, rfl⟩))
  · exact .inr (.inr (.inl ⟨by simpa using h1, h2, _, by simp, rfl⟩))
  · exact .inr (.inr (.inr ⟨by simpa using h1, h2, rfl⟩))

/-- What a verdict may change when it carries the command out. -/
def Verdict.Only (l : List Field) (s : State) : Verdict → Prop
  | .refuse _ _ => True
  | .accept _ _ s' => OnlyChanges l s s'

theorem Verdict.Only.mono {l m : List Field} {s : State} {v : Verdict} (h : v.Only l s)
    (sub : ∀ f ∈ l, f ∈ m := by decide) : v.Only m s := by
  cases v
  · trivial
  · exact OnlyChanges.mono h sub

theorem Verdict.Only.require {l : List Field} {s : State} {b : Bool} {v : Verdict} (h : v.Only l s) :
    (Machine.require b v).Only l s := by
  cases b
  · trivial
  · exact h

theorem Verdict.Only.requireSome {α : Type} {l : List Field} {s : State} {x : Option α} {k : α → Verdict}
    (h : ∀ a, (k a).Only l s) : (Machine.requireSome x k).Only l s := by
  cases x
  · trivial
  · exact h _

theorem Verdict.Only.guardWith {l : List Field} {s : State} {b : Bool} {x : Status} {v : Verdict}
    (h : v.Only l s) : (Machine.guardWith b x v).Only l s := by
  cases b
  · exact h
  · trivial

theorem Verdict.Only.guarded {l : List Field} {s : State} {h : Header} {block : Option (Fin 8) → Verdict}
    (hl : Field.watches ∈ l) (hb : ∀ g, (block g).Only l s) : (Machine.guarded h s block).Only l s := by
  unfold Machine.guarded
  split
  · trivial
  · next g _ =>
    have := hb (g.map (·.slot))
    revert this
    cases block (g.map (·.slot)) with
    | refuse x p => intro _; cases g <;> trivial
    | accept a p s' =>
      intro this
      have h' : OnlyChanges l s s' := this
      cases g with
      | none => exact h'
      | some g =>
        obtain ⟨w, c⟩ := g
        cases c
        · exact h'
        · exact h'.then (s'.freeWatch_only w) (by intro f hf; simp only [List.mem_singleton] at hf; exact hf ▸ hl)

/-- A frame changes the reply and what its block may change, and a chip select in DORMANT the power fields. -/
theorem State.takeFrame_only {l : List Field} (s : State) (cls w ok n h) (block : State → Verdict)
    (hb : (block s).Only l s) :
    OnlyChanges (.power :: .reply :: .sdo :: l) s (s.takeFrame cls w ok n h block) := by
  rcases s.takeFrame_cases cls w ok n h block with ⟨-, e⟩ | ⟨-, -, e⟩ | ⟨-, -, x, -, e⟩ | ⟨-, -, e⟩ <;> rw [e]
  · exact (s.unheard_only _).mono (by intro f hf; simp at hf ⊢; tauto)
  · exact (s.wakeByChipSelect_only _).mono (by intro f hf; simp at hf ⊢; tauto)
  · exact (s.turnAway_only _ _ _).mono (by intro f hf; simp at hf ⊢; tauto)
  · revert hb
    cases block s with
    | refuse x p => intro _; exact (Verdict.stored_refuse s _ h x p).2.mono (by intro f hf; simp at hf ⊢; tauto)
    | accept a p s' =>
      intro hb
      exact (OnlyChanges.mono hb (by intro f hf; simp [hf])).then (Verdict.stored_accept s s' _ h a p).2
        (by intro f hf; simp at hf ⊢; tauto)

/-- An event changes what its effect may change. -/
theorem State.event_only {l : List Field} (s : State) (f : State → State) (hf : OnlyChanges l s (f s)) :
    ∃ t, s.event f = .next t ∧ OnlyChanges l s t := ⟨_, rfl, .ite (.refl _ _) hf⟩

/-- An event of the time base changes what its effect may change. -/
theorem State.timedEvent_only {l : List Field} (s : State) (f : State → State) (hf : OnlyChanges l s (f s)) :
    ∃ t, s.timedEvent f = .next t ∧ OnlyChanges l s t := s.event_only _ (.ite hf (.refl _ _))

/-- An event of the time base that reaches the part while the time base runs has its effect. -/
theorem State.timedEvent_runs {s : State} (h : s.resetLow = false) (h' : s.power.state.timeRuns = true)
    (f : State → State) : s.timedEvent f = .next (f s) := by simp [State.timedEvent, State.event, h, h']

/-- While the time base is stopped none of its events does anything (R8). -/
theorem State.timedEvent_stopped {s : State} (h : s.power.state.timeRuns = false) (f : State → State) :
    s.timedEvent f = .next s := by simp [State.timedEvent, State.event, h]

/-- An event that reaches the part has its effect. -/
theorem State.event_eq {s : State} (h : s.resetLow = false) (f : State → State) : s.event f = .next (f s) := by
  simp [State.event, h]

/-- A frame of an open command that reaches its block. -/
theorem State.takeOpen_reaches {h} {s : State} (r : Reaches .open_ h s) (n : Nat) (block : State → Verdict) :
    s.takeOpen n h block = .next ((block s).stored s (h.frameBytes n) h.tag) := by rw [State.takeOpen, State.takeFrame_reaches r]

/-- A frame of a configuring command that reaches its block. -/
theorem State.takeConfiguring_reaches {h} {s : State} (r : Reaches .configuring h s) (n : Nat)
    (block : State → Verdict) :
    s.takeConfiguring n h block = .next ((block s).stored s (h.frameBytes n) h.tag) := by
  rw [State.takeConfiguring, State.takeFrame_reaches r]

/-- A frame of a power command that WAKING or a receiving state takes. -/
theorem State.takePower_reaches {h : Header} {s : State} (h1 : s.resetLow = false) (h2 : s.power.state ≠ .dormant)
    (h3 : h.client = 0) (n : Nat) (block : State → Verdict) :
    s.takePower n h block = .next ((block s).stored s (h.frameBytes n) h.tag) := by
  simp [State.takePower, State.takeFrame, h1, h2, h3]

end Sys2Proof.Machine
end

