-- ==== Sys2Proof/Laws/Commands.lean ====
section
/-! SUPPORT. What the commands with the widest effects may change, and that every command leaves the queue as it is. -/

set_option Elab.async false

namespace Sys2Proof.Machine

open Sys2Proof

/-- Every field but the queue. -/
def effectFields : List Field :=
  [.cues, .palette, .signals, .zones, .watches, .composer, .cond, .chains, .seq, .power, .notices, .reply, .sdo,
   .resetLow, .noticeLow, .supplyEn, .freeCounter]

theorem guarded_post_only (h : Header) (d : RawDescriptor) (s : State) :
    (guarded h s fun g => require h.reservedOk <| requireSome (descriptorOf d) fun d =>
      match s.post g h.client none d.1 with
      | none => .refuse .noRoom .empty
      | some (k, s') => .accept d.2 (.handle (s'.handleAt k)) s').Only
      [.cues, .zones, .watches, .seq, .power, .notices, .noticeLow] s := by
  refine .guarded (by decide) fun g => .require (.requireSome fun d => ?_)
  cases e : s.post g h.client none d.1 with
  | none => trivial
  | some x => exact State.post_only e

theorem handOver_only (i : Instr) (s : State) : ∃ t, handOver i s = .next t ∧ OnlyChanges effectFields s t := by
  have frame : ∀ {l : List Field} (cls w ok n h) (block : State → Verdict), (block s).Only l s →
      (∀ f ∈ (.power :: .reply :: .sdo :: l), f ∈ effectFields) →
      ∃ t, (Host.Outcome.next (s.takeFrame cls w ok n h block) : Result) = .next t ∧ OnlyChanges effectFields s t :=
    fun cls w ok n h block hb sub => ⟨_, rfl, (s.takeFrame_only cls w ok n h block hb).mono sub⟩
  cases i with
  | nop h => exact frame (l := []) _ _ _ _ _ _ (.require (.refl _ _)) (by decide)
  | identify h => exact frame (l := []) _ _ _ _ _ _ (.require (.refl _ _)) (by decide)
  | softReset h => exact frame _ _ _ _ _ _ (.require s.softReset_only) (by decide)
  | readNotices h =>
    refine frame (l := []) _ _ _ _ _ _ ?_ (by decide)
    split
    · exact OnlyChanges.refl _ _
    · trivial
  | ackOldest h =>
    refine frame (l := [.notices, .noticeLow]) _ _ _ _ _ _ ?_ (by decide)
    split
    · split
      · trivial
      · exact s.withNotices_only _
    · trivial
  | ackMatch h k x =>
    refine frame (l := [.notices, .noticeLow]) _ _ _ _ _ _ ?_ (by decide)
    split
    · split
      · trivial
      · split
        · trivial
        · exact s.withNotices_only _
    · trivial
  | ackAll h =>
    refine frame (l := [.notices, .noticeLow]) _ _ _ _ _ _ ?_ (by decide)
    split
    · exact s.withNotices_only _
    · trivial
  | setNoticeMask h m => exact frame _ _ _ _ _ _ (.require (s.withNotices_only _)) (by decide)
  | postCue h d => exact frame _ _ _ _ _ _ (guarded_post_only h d s) (by decide)
  | placeCue h x d =>
    exact frame (l := [.cues, .zones, .watches, .seq, .power]) _ _ _ _ _ _
      (.guarded (by decide) fun g => .require (.requireSome fun k => .requireSome fun d =>
        ((OnlyChanges.refl _ s).then (s.freeSlot_only _ _)).then (State.writeCue_only _ _ _ _ _ _))) (by decide)
  | modifyCue h x m d =>
    refine frame (l := [.cues, .zones, .watches]) _ _ _ _ _ _ (.guarded (by decide) fun g => ?_) (by decide)
    split
    · trivial
    · exact .guardWith (.guardWith (.require (.requireSome fun d => s.replaceCue_only _ _ _)))
  | retireCue h x m =>
    refine frame (l := [.cues, .zones, .watches, .seq]) _ _ _ _ _ _ (.guarded (by decide) fun g => ?_) (by decide)
    split
    · trivial
    · exact .guardWith (.require (.requireSome fun m => s.retire_only _ _ _))
  | retireOwner h o m =>
    exact frame _ _ _ _ _ _ (.require (.requireSome fun m =>
      OnlyChanges.foldl _ (fun s k => s.retire_only _ _ k) _ _)) (by decide)
  | refreshCue h x l =>
    refine frame (l := [.cues]) _ _ _ _ _ _ ?_ (by decide)
    split
    · trivial
    · exact .guardWith (.guardWith (.require (s.putCue_only _ _)))
  | readCue h x =>
    refine frame (l := []) _ _ _ _ _ _ ?_ (by decide)
    split
    · trivial
    · exact .require (.refl _ _)
  | setPalette h e r g b m =>
    refine frame (l := [.palette]) _ _ _ _ _ _ (.require (.requireSome fun e => .requireSome fun a => ?_)) (by decide)
    dsimp only
    split
    · exact s.setPalette_only _
    · exact s.setPalette_only _
  | clearPalette h e => exact frame _ _ _ _ _ _ (.require (.requireSome fun e => s.setPalette_only _)) (by decide)
  | setSignals h m v =>
    refine frame (l := .signals :: .freeCounter :: engineFields) _ _ _ _ _ _ ?_ (by decide)
    split
    · exact s.changeSignals_only _ _
    · trivial
  | mapZone h z ns =>
    refine frame (l := [.zones, .watches, .composer]) _ _ _ _ _ _ (.require (.requireSome fun z => .require
      (.requireSome fun l => .require (.guardWith ?_)))) (by decide)
    split
    · trivial
    · exact (((OnlyChanges.refl _ s).then (s.setZones_only _)).then (State.setComposer_only _ _)).then
        (State.zoneEvent_only _ _ _)
  | setZoneTrim h z t => exact frame _ _ _ _ _ _ (.require (.requireSome fun z => s.setZones_only _)) (by decide)
  | holdZone h zs => exact frame _ _ _ _ _ _ (.require (s.holdZones_only _)) (by decide)
  | releaseZone h zs => exact frame _ _ _ _ _ _ (.require (s.releaseZones_only _)) (by decide)
  | readZone h z w =>
    refine frame (l := [.watches]) _ _ _ _ _ _ (.require (.requireSome fun z => .requireSome fun c => ?_)) (by decide)
    split
    · exact s.setWatches_only _
    · exact OnlyChanges.refl _ _
  | dropWatch h x g =>
    refine frame (l := [.watches]) _ _ _ _ _ _ (.require ?_) (by decide)
    split
    · trivial
    · exact s.freeWatch_only _
  | setFramePeriod h p =>
    refine frame (l := [.composer]) _ _ _ _ _ _ ?_ (by decide)
    split
    · exact s.setComposer_only _
    · trivial
  | setLux h l =>
    refine frame (l := [.cond]) _ _ _ _ _ _ ?_ (by decide)
    split
    · exact s.setCond_only _
    · trivial
  | setMaster h l =>
    refine frame (l := [.cond]) _ _ _ _ _ _ ?_ (by decide)
    split
    · exact s.setCond_only _
    · trivial
  | setCurve h c ps => exact frame _ _ _ _ _ _ (.require (.require (s.setCond_only _))) (by decide)
  | setSlew h v => exact frame _ _ _ _ _ _ (.require (s.setCond_only _)) (by decide)
  | setBin h n b => exact frame _ _ _ _ _ _ (.require (.requireSome fun n => s.setCond_only _)) (by decide)
  | setThermal h k l => exact frame _ _ _ _ _ _ (.require (.require (s.setCond_only _))) (by decide)
  | configureChain h c r =>
    exact frame _ _ _ _ _ _ (.require (.requireSome fun i => .requireSome fun e => .requireSome fun p =>
      .requireSome fun j => .guardWith (.require (s.setChain_only _ _)))) (by decide)
  | startChain h c =>
    exact frame (l := [.chains, .composer, .cond]) _ _ _ _ _ _ (.require (.requireSome fun i => .guardWith (.guardWith
      (.require (((OnlyChanges.refl _ s).then (s.enable_only _ _)).then (State.startChain_only _ _)))))) (by decide)
  | stopChain h c =>
    exact frame _ _ _ _ _ _ (.require (.requireSome fun i => .guardWith
      ((s.enable_only _ _).trans (State.stopChain_only _ _)))) (by decide)
  | restartChain h c =>
    exact frame (l := [.chains, .composer, .cond]) _ _ _ _ _ _ (.require (.requireSome fun i => .guardWith (.require
      ((((OnlyChanges.refl _ s).then (s.enable_only _ _)).then (State.stopChain_only _ _)).then
        (State.startChain_only _ _))))) (by decide)
  | rejoinNode h c p =>
    exact frame _ _ _ _ _ _ (.require (.requireSome fun i => .requireSome fun k => .guardWith (s.setChain_only _ _)))
      (by decide)
  | readChain h c p =>
    exact frame (l := []) _ _ _ _ _ _ (.require (.requireSome fun i => .requireSome fun k => .refl _ _)) (by decide)
  | loadTemplate h t d =>
    exact frame _ _ _ _ _ _ (.require (.requireSome fun t => .requireSome fun d => s.setSeq_only _)) (by decide)
  | clearTemplate h t => exact frame _ _ _ _ _ _ (.require (.requireSome fun t => s.setSeq_only _)) (by decide)
  | loadSteps h k f xs =>
    exact frame _ _ _ _ _ _ (.require (.requireSome fun k => .guardWith (.require (.requireSome fun xs =>
      s.setSlot_only _ _)))) (by decide)
  | finishSequence h k c r =>
    refine frame (l := [.seq]) _ _ _ _ _ _ (.require (.requireSome fun k => .guardWith (.guardWith ?_))) (by decide)
    split
    · trivial
    · exact s.setSlot_only _ _
  | clearSequence h k =>
    exact frame _ _ _ _ _ _ (.require (.requireSome fun k => .guardWith (s.setSlot_only _ _))) (by decide)
  | startSequence h k =>
    refine frame (l := engineFields) _ _ _ _ _ _ (.require (.requireSome fun k => .guardWith ?_)) (by decide)
    cases e : s.startSlot k (.client h.client) with
    | error x => trivial
    | ok x => exact State.startSlot_only e
  | abortSequence h k =>
    refine frame (l := engineFields) _ _ _ _ _ _ (.require (.requireSome fun k => ?_)) (by decide)
    split
    · exact .guardWith (s.abortRunner_only _ _).mono
    · trivial
  | readSequence h k f =>
    exact frame (l := []) _ _ _ _ _ _ (.require (.requireSome fun k => .refl _ _)) (by decide)
  | goDormant h =>
    refine frame (l := powerFields) _ _ _ _ _ _ ?_ (by decide)
    split
    · split
      · trivial
      · trivial
      · trivial
      · exact s.enterDormant_only.mono
      · exact (s.enterDimming_only _).mono
      · exact (s.setPower_only _).mono
    · trivial
  | goStandby h =>
    refine frame (l := powerFields) _ _ _ _ _ _ ?_ (by decide)
    split
    · split
      · exact OnlyChanges.refl _ _
      · exact OnlyChanges.refl _ _
      · exact (s.setPower_only _).mono
      · exact s.abandonPowering_only.mono
      · exact (s.enterDimming_only _).mono
      · exact (s.setPower_only _).mono
    · trivial
  | goLit h =>
    refine frame (l := powerFields) _ _ _ _ _ _ ?_ (by decide)
    split
    · split
      · exact OnlyChanges.refl _ _
      · exact OnlyChanges.refl _ _
      · exact OnlyChanges.refl _ _
      · exact (s.setPower_only _).mono
      · exact (s.enterPowering_only _).mono
      · exact s.reverseDimming_only.mono
    · trivial
  | setPowerTimes h m a b c => exact frame _ _ _ _ _ _ (.require (s.setPower_only _)) (by decide)
  | setDarkInterval h x =>
    exact frame _ _ _ _ _ _ (.require ((s.setPower_only _).trans (State.reloadDark_only _))) (by decide)
  | armWelcome h x => exact frame _ _ _ _ _ _ (.require (.requireSome fun a => s.setPower_only _)) (by decide)
  | _ => exact ⟨s, rfl, .refl _ _⟩

theorem execCommandFrame_only (bytes p) (s : State) :
    ∃ t, execCommandFrame bytes p s = .next t ∧ OnlyChanges effectFields s t := by
  have away : ∀ n x t, ∃ u, (Host.Outcome.next (s.turnAway n x t) : Result) = .next u ∧ OnlyChanges effectFields s u :=
    fun n x t => ⟨_, rfl, (s.turnAway_only n x t).mono⟩
  unfold execCommandFrame
  split
  · exact ⟨_, rfl, (s.unheard_only _).mono⟩
  split
  · exact ⟨_, rfl, (s.wakeByChipSelect_only _).mono⟩
  unfold State.takeBytes
  dsimp only
  split
  · exact away _ _ _
  split
  · exact away _ _ _
  split
  · exact away _ _ _
  unfold State.takeCommand
  split
  · exact away _ _ _
  split
  · exact away _ _ _
  split
  · exact away _ _ _
  · exact handOver_only _ _

end Sys2Proof.Machine
end

