-- ==== Sys2Proof/Laws/PerInstr.lean ====
section
/-! SUPPORT. One lemma for each command about its class: what the port tests of a command it tests by a header (R185, R187). -/

set_option Elab.async false

namespace Sys2Proof.Laws

open Sys2Proof Sys2Proof.Machine

/-- A command without a header is no configuring command, and the three GO commands are configuring (R187). -/
def HeaderClass.Statement (i : Instr) : Prop :=
  (headerOfCommand i = none → isConfiguring i = false) ∧ (isGo i = true → isConfiguring i = true)

theorem HeaderClass.commandFrame (bytes : List Byte) (period : Period) :
    HeaderClass.Statement (.commandFrame bytes period) :=
  ⟨fun _ => rfl, fun h => absurd h Bool.false_ne_true⟩

theorem HeaderClass.nop (h : Header) : HeaderClass.Statement (.nop h) :=
  ⟨fun h => absurd h (Option.some_ne_none _), fun h => absurd h Bool.false_ne_true⟩

theorem HeaderClass.identify (h : Header) : HeaderClass.Statement (.identify h) :=
  ⟨fun h => absurd h (Option.some_ne_none _), fun h => absurd h Bool.false_ne_true⟩

theorem HeaderClass.softReset (h : Header) : HeaderClass.Statement (.softReset h) :=
  ⟨fun h => absurd h (Option.some_ne_none _), fun _ => rfl⟩

theorem HeaderClass.readNotices (h : Header) : HeaderClass.Statement (.readNotices h) :=
  ⟨fun h => absurd h (Option.some_ne_none _), fun h => absurd h Bool.false_ne_true⟩

theorem HeaderClass.ackOldest (h : Header) : HeaderClass.Statement (.ackOldest h) :=
  ⟨fun h => absurd h (Option.some_ne_none _), fun h => absurd h Bool.false_ne_true⟩

theorem HeaderClass.ackMatch (h : Header) (kind : Byte) (subject : BitVec 16) :
    HeaderClass.Statement (.ackMatch h kind subject) :=
  ⟨fun h => absurd h (Option.some_ne_none _), fun h => absurd h Bool.false_ne_true⟩

theorem HeaderClass.ackAll (h : Header) : HeaderClass.Statement (.ackAll h) :=
  ⟨fun h => absurd h (Option.some_ne_none _), fun h => absurd h Bool.false_ne_true⟩

theorem HeaderClass.setNoticeMask (h : Header) (mask : BitVec 16) :
    HeaderClass.Statement (.setNoticeMask h mask) :=
  ⟨fun h => absurd h (Option.some_ne_none _), fun _ => rfl⟩

theorem HeaderClass.postCue (h : Header) (d : RawDescriptor) : HeaderClass.Statement (.postCue h d) :=
  ⟨fun h => absurd h (Option.some_ne_none _), fun h => absurd h Bool.false_ne_true⟩

theorem HeaderClass.placeCue (h : Header) (slot : Byte) (d : RawDescriptor) :
    HeaderClass.Statement (.placeCue h slot d) :=
  ⟨fun h => absurd h (Option.some_ne_none _), fun _ => rfl⟩

theorem HeaderClass.modifyCue (h : Header) (handle : BitVec 16) (mask : BitVec 16) (d : RawDescriptor) :
    HeaderClass.Statement (.modifyCue h handle mask d) :=
  ⟨fun h => absurd h (Option.some_ne_none _), fun h => absurd h Bool.false_ne_true⟩

theorem HeaderClass.retireCue (h : Header) (handle : BitVec 16) (mode : Byte) :
    HeaderClass.Statement (.retireCue h handle mode) :=
  ⟨fun h => absurd h (Option.some_ne_none _), fun h => absurd h Bool.false_ne_true⟩

theorem HeaderClass.retireOwner (h : Header) (owner : Byte) (mode : Byte) :
    HeaderClass.Statement (.retireOwner h owner mode) :=
  ⟨fun h => absurd h (Option.some_ne_none _), fun _ => rfl⟩

theorem HeaderClass.refreshCue (h : Header) (handle : BitVec 16) (lifetime : Option (BitVec 16)) :
    HeaderClass.Statement (.refreshCue h handle lifetime) :=
  ⟨fun h => absurd h (Option.some_ne_none _), fun h => absurd h Bool.false_ne_true⟩

theorem HeaderClass.readCue (h : Header) (handle : BitVec 16) : HeaderClass.Statement (.readCue h handle) :=
  ⟨fun h => absurd h (Option.some_ne_none _), fun h => absurd h Bool.false_ne_true⟩

theorem HeaderClass.setPalette (h : Header) (entry : Byte) (r g b : BitVec 16) (mode : Byte) :
    HeaderClass.Statement (.setPalette h entry r g b mode) :=
  ⟨fun h => absurd h (Option.some_ne_none _), fun h => absurd h Bool.false_ne_true⟩

theorem HeaderClass.clearPalette (h : Header) (entry : Byte) :
    HeaderClass.Statement (.clearPalette h entry) :=
  ⟨fun h => absurd h (Option.some_ne_none _), fun h => absurd h Bool.false_ne_true⟩

theorem HeaderClass.setSignals (h : Header) (mask values : BitVec 16) :
    HeaderClass.Statement (.setSignals h mask values) :=
  ⟨fun h => absurd h (Option.some_ne_none _), fun _ => rfl⟩

theorem HeaderClass.mapZone (h : Header) (zone : Byte) (nodes : List RawNodeRef) :
    HeaderClass.Statement (.mapZone h zone nodes) :=
  ⟨fun h => absurd h (Option.some_ne_none _), fun _ => rfl⟩

theorem HeaderClass.setZoneTrim (h : Header) (zone : Byte) (trim : BitVec 16) :
    HeaderClass.Statement (.setZoneTrim h zone trim) :=
  ⟨fun h => absurd h (Option.some_ne_none _), fun _ => rfl⟩

theorem HeaderClass.holdZone (h : Header) (zones : BitVec 16) : HeaderClass.Statement (.holdZone h zones) :=
  ⟨fun h => absurd h (Option.some_ne_none _), fun _ => rfl⟩

theorem HeaderClass.releaseZone (h : Header) (zones : BitVec 16) :
    HeaderClass.Statement (.releaseZone h zones) :=
  ⟨fun h => absurd h (Option.some_ne_none _), fun _ => rfl⟩

theorem HeaderClass.readZone (h : Header) (zone : Byte) (watch : Byte) :
    HeaderClass.Statement (.readZone h zone watch) :=
  ⟨fun h => absurd h (Option.some_ne_none _), fun h => absurd h Bool.false_ne_true⟩

theorem HeaderClass.dropWatch (h : Header) (slot gen : Byte) :
    HeaderClass.Statement (.dropWatch h slot gen) :=
  ⟨fun h => absurd h (Option.some_ne_none _), fun h => absurd h Bool.false_ne_true⟩

theorem HeaderClass.setFramePeriod (h : Header) (period : Byte) :
    HeaderClass.Statement (.setFramePeriod h period) :=
  ⟨fun h => absurd h (Option.some_ne_none _), fun _ => rfl⟩

theorem HeaderClass.setLux (h : Header) (lux : BitVec 16) : HeaderClass.Statement (.setLux h lux) :=
  ⟨fun h => absurd h (Option.some_ne_none _), fun h => absurd h Bool.false_ne_true⟩

theorem HeaderClass.setMaster (h : Header) (level : BitVec 16) :
    HeaderClass.Statement (.setMaster h level) :=
  ⟨fun h => absurd h (Option.some_ne_none _), fun h => absurd h Bool.false_ne_true⟩

theorem HeaderClass.setCurve (h : Header) (count : Byte) (points : List RawPoint) :
    HeaderClass.Statement (.setCurve h count points) :=
  ⟨fun h => absurd h (Option.some_ne_none _), fun _ => rfl⟩

theorem HeaderClass.setSlew (h : Header) (slew : BitVec 16) : HeaderClass.Statement (.setSlew h slew) :=
  ⟨fun h => absurd h (Option.some_ne_none _), fun _ => rfl⟩

theorem HeaderClass.setBin (h : Header) (bin : Byte) (b : RawBin) :
    HeaderClass.Statement (.setBin h bin b) :=
  ⟨fun h => absurd h (Option.some_ne_none _), fun _ => rfl⟩

theorem HeaderClass.setThermal (h : Header) (knee limit : BitVec 16) :
    HeaderClass.Statement (.setThermal h knee limit) :=
  ⟨fun h => absurd h (Option.some_ne_none _), fun _ => rfl⟩

theorem HeaderClass.configureChain (h : Header) (chain : Byte) (cfg : RawChainConfig) :
    HeaderClass.Statement (.configureChain h chain cfg) :=
  ⟨fun h => absurd h (Option.some_ne_none _), fun _ => rfl⟩

theorem HeaderClass.startChain (h : Header) (chain : Byte) : HeaderClass.Statement (.startChain h chain) :=
  ⟨fun h => absurd h (Option.some_ne_none _), fun _ => rfl⟩

theorem HeaderClass.stopChain (h : Header) (chain : Byte) : HeaderClass.Statement (.stopChain h chain) :=
  ⟨fun h => absurd h (Option.some_ne_none _), fun _ => rfl⟩

theorem HeaderClass.restartChain (h : Header) (chain : Byte) :
    HeaderClass.Statement (.restartChain h chain) :=
  ⟨fun h => absurd h (Option.some_ne_none _), fun _ => rfl⟩

theorem HeaderClass.rejoinNode (h : Header) (chain position : Byte) :
    HeaderClass.Statement (.rejoinNode h chain position) :=
  ⟨fun h => absurd h (Option.some_ne_none _), fun _ => rfl⟩

theorem HeaderClass.readChain (h : Header) (chain position : Byte) :
    HeaderClass.Statement (.readChain h chain position) :=
  ⟨fun h => absurd h (Option.some_ne_none _), fun h => absurd h Bool.false_ne_true⟩

theorem HeaderClass.loadTemplate (h : Header) (template : Byte) (d : RawDescriptor) :
    HeaderClass.Statement (.loadTemplate h template d) :=
  ⟨fun h => absurd h (Option.some_ne_none _), fun _ => rfl⟩

theorem HeaderClass.clearTemplate (h : Header) (template : Byte) :
    HeaderClass.Statement (.clearTemplate h template) :=
  ⟨fun h => absurd h (Option.some_ne_none _), fun _ => rfl⟩

theorem HeaderClass.loadSteps (h : Header) (slot first : Byte) (steps : List RawStep) :
    HeaderClass.Statement (.loadSteps h slot first steps) :=
  ⟨fun h => absurd h (Option.some_ne_none _), fun _ => rfl⟩

theorem HeaderClass.finishSequence (h : Header) (slot count rank : Byte) :
    HeaderClass.Statement (.finishSequence h slot count rank) :=
  ⟨fun h => absurd h (Option.some_ne_none _), fun _ => rfl⟩

theorem HeaderClass.clearSequence (h : Header) (slot : Byte) :
    HeaderClass.Statement (.clearSequence h slot) :=
  ⟨fun h => absurd h (Option.some_ne_none _), fun _ => rfl⟩

theorem HeaderClass.startSequence (h : Header) (slot : Byte) :
    HeaderClass.Statement (.startSequence h slot) :=
  ⟨fun h => absurd h (Option.some_ne_none _), fun h => absurd h Bool.false_ne_true⟩

theorem HeaderClass.abortSequence (h : Header) (slot : Byte) :
    HeaderClass.Statement (.abortSequence h slot) :=
  ⟨fun h => absurd h (Option.some_ne_none _), fun h => absurd h Bool.false_ne_true⟩

theorem HeaderClass.readSequence (h : Header) (slot first : Byte) :
    HeaderClass.Statement (.readSequence h slot first) :=
  ⟨fun h => absurd h (Option.some_ne_none _), fun h => absurd h Bool.false_ne_true⟩

theorem HeaderClass.goDormant (h : Header) : HeaderClass.Statement (.goDormant h) :=
  ⟨fun h => absurd h (Option.some_ne_none _), fun _ => rfl⟩

theorem HeaderClass.goStandby (h : Header) : HeaderClass.Statement (.goStandby h) :=
  ⟨fun h => absurd h (Option.some_ne_none _), fun _ => rfl⟩

theorem HeaderClass.goLit (h : Header) : HeaderClass.Statement (.goLit h) :=
  ⟨fun h => absurd h (Option.some_ne_none _), fun _ => rfl⟩

theorem HeaderClass.setPowerTimes (h : Header) (mask : Byte) (wakeDelay settleTime fadeTime : BitVec 16) :
    HeaderClass.Statement (.setPowerTimes h mask wakeDelay settleTime fadeTime) :=
  ⟨fun h => absurd h (Option.some_ne_none _), fun _ => rfl⟩

theorem HeaderClass.setDarkInterval (h : Header) (seconds : BitVec 16) :
    HeaderClass.Statement (.setDarkInterval h seconds) :=
  ⟨fun h => absurd h (Option.some_ne_none _), fun _ => rfl⟩

theorem HeaderClass.armWelcome (h : Header) (slot : Byte) : HeaderClass.Statement (.armWelcome h slot) :=
  ⟨fun h => absurd h (Option.some_ne_none _), fun _ => rfl⟩

theorem HeaderClass.csNFallInDormant : HeaderClass.Statement .csNFallInDormant :=
  ⟨fun _ => rfl, fun h => absurd h Bool.false_ne_true⟩

theorem HeaderClass.wakeRisingEdge : HeaderClass.Statement .wakeRisingEdge :=
  ⟨fun _ => rfl, fun h => absurd h Bool.false_ne_true⟩

theorem HeaderClass.resetNLow : HeaderClass.Statement .resetNLow :=
  ⟨fun _ => rfl, fun h => absurd h Bool.false_ne_true⟩

theorem HeaderClass.deviceReset : HeaderClass.Statement .deviceReset :=
  ⟨fun _ => rfl, fun h => absurd h Bool.false_ne_true⟩

theorem HeaderClass.timeBaseMillisecond : HeaderClass.Statement .timeBaseMillisecond :=
  ⟨fun _ => rfl, fun h => absurd h Bool.false_ne_true⟩

theorem HeaderClass.fadeInCompletion (slot : Fin 48) : HeaderClass.Statement (.fadeInCompletion slot) :=
  ⟨fun _ => rfl, fun h => absurd h Bool.false_ne_true⟩

theorem HeaderClass.lifetimeExpiry (slot : Fin 48) : HeaderClass.Statement (.lifetimeExpiry slot) :=
  ⟨fun _ => rfl, fun h => absurd h Bool.false_ne_true⟩

theorem HeaderClass.fadeOutCompletion (slot : Fin 48) : HeaderClass.Statement (.fadeOutCompletion slot) :=
  ⟨fun _ => rfl, fun h => absurd h Bool.false_ne_true⟩

theorem HeaderClass.waitExpiry (runner : Fin 2) : HeaderClass.Statement (.waitExpiry runner) :=
  ⟨fun _ => rfl, fun h => absurd h Bool.false_ne_true⟩

theorem HeaderClass.waitSignalTimeout (runner : Fin 2) : HeaderClass.Statement (.waitSignalTimeout runner) :=
  ⟨fun _ => rfl, fun h => absurd h Bool.false_ne_true⟩

theorem HeaderClass.frameTimerExpiry : HeaderClass.Statement .frameTimerExpiry :=
  ⟨fun _ => rfl, fun h => absurd h Bool.false_ne_true⟩

theorem HeaderClass.frameCompletion : HeaderClass.Statement .frameCompletion :=
  ⟨fun _ => rfl, fun h => absurd h Bool.false_ne_true⟩

theorem HeaderClass.wakeDelayExpiry : HeaderClass.Statement .wakeDelayExpiry :=
  ⟨fun _ => rfl, fun h => absurd h Bool.false_ne_true⟩

theorem HeaderClass.supplySettleExpiry : HeaderClass.Statement .supplySettleExpiry :=
  ⟨fun _ => rfl, fun h => absurd h Bool.false_ne_true⟩

theorem HeaderClass.endOfDimming : HeaderClass.Statement .endOfDimming :=
  ⟨fun _ => rfl, fun h => absurd h Bool.false_ne_true⟩

theorem HeaderClass.darkIntervalExpiry : HeaderClass.Statement .darkIntervalExpiry :=
  ⟨fun _ => rfl, fun h => absurd h Bool.false_ne_true⟩

theorem HeaderClass.restoreTimerExpiry (chain : Fin 4) : HeaderClass.Statement (.restoreTimerExpiry chain) :=
  ⟨fun _ => rfl, fun h => absurd h Bool.false_ne_true⟩

theorem HeaderClass.restoreAttempt (chain : Fin 4) : HeaderClass.Statement (.restoreAttempt chain) :=
  ⟨fun _ => rfl, fun h => absurd h Bool.false_ne_true⟩

theorem HeaderClass.dutyFrameSend (chain : Fin 4) : HeaderClass.Statement (.dutyFrameSend chain) :=
  ⟨fun _ => rfl, fun h => absurd h Bool.false_ne_true⟩

theorem HeaderClass.countReturned (chain : Fin 4) (frame : RingFrame) :
    HeaderClass.Statement (.countReturned chain frame) :=
  ⟨fun _ => rfl, fun h => absurd h Bool.false_ne_true⟩

theorem HeaderClass.countLost (chain : Fin 4) : HeaderClass.Statement (.countLost chain) :=
  ⟨fun _ => rfl, fun h => absurd h Bool.false_ne_true⟩

theorem HeaderClass.identReturned (chain : Fin 4) (frame : RingFrame) :
    HeaderClass.Statement (.identReturned chain frame) :=
  ⟨fun _ => rfl, fun h => absurd h Bool.false_ne_true⟩

theorem HeaderClass.identLost (chain : Fin 4) : HeaderClass.Statement (.identLost chain) :=
  ⟨fun _ => rfl, fun h => absurd h Bool.false_ne_true⟩

theorem HeaderClass.dutyReturned (chain : Fin 4) (sender : End) (frame : RingFrame) :
    HeaderClass.Statement (.dutyReturned chain sender frame) :=
  ⟨fun _ => rfl, fun h => absurd h Bool.false_ne_true⟩

theorem HeaderClass.dutyLost (chain : Fin 4) (sender : End) :
    HeaderClass.Statement (.dutyLost chain sender) :=
  ⟨fun _ => rfl, fun h => absurd h Bool.false_ne_true⟩

theorem HeaderClass.probeReturned (chain : Fin 4) (sender : End) (frame : RingFrame) :
    HeaderClass.Statement (.probeReturned chain sender frame) :=
  ⟨fun _ => rfl, fun h => absurd h Bool.false_ne_true⟩

theorem HeaderClass.probeLost (chain : Fin 4) (sender : End) :
    HeaderClass.Statement (.probeLost chain sender) :=
  ⟨fun _ => rfl, fun h => absurd h Bool.false_ne_true⟩

end Sys2Proof.Laws
end

