-- ==== Sys2Proof/Laws/Tables.lean ====
section
/-! SUPPORT. What the shared operations do: reading a table after an update, a notice, zone change events and holds. -/

set_option Elab.async false

namespace Sys2Proof

theorem getElem_modifyAt {α : Type} {n : Nat} (v : Vector α n) (i j : Fin n) (f : α → α) :
    (modifyAt v i f)[j] = if j = i then f v[i] else v[j] := by
  simp only [modifyAt, Fin.getElem_fin, Vector.getElem_set, Fin.ext_iff]
  by_cases h : j.val = i.val
  · simp [h]
  · simp [h, Ne.symm h]

theorem getElem_modifyAt_self {α : Type} {n : Nat} (v : Vector α n) (i : Fin n) (f : α → α) :
    (modifyAt v i f)[i] = f v[i] := by rw [getElem_modifyAt, if_pos rfl]

theorem getElem_modifyAt_ne {α : Type} {n : Nat} (v : Vector α n) {i j : Fin n} (f : α → α) (h : j ≠ i) :
    (modifyAt v i f)[j] = v[j] := by rw [getElem_modifyAt, if_neg h]

theorem getElem_setFin {α : Type} {n : Nat} (v : Vector α n) (i j : Fin n) (x : α) :
    (v.set i x)[j] = if j = i then x else v[j] := by
  simp only [Fin.getElem_fin, Vector.getElem_set, Fin.ext_iff]
  by_cases h : j.val = i.val
  · simp [h]
  · simp [h, Ne.symm h]

theorem mem_members {n : Nat} (set : BitVec n) (i : Fin n) : i ∈ members set ↔ set.getLsbD i = true := by
  simp [members, indices]

theorem members_nodup {n : Nat} (set : BitVec n) : (members set).Nodup := (List.nodup_finRange n).filter _

/-- The index of a table that a number in its range names. -/
theorem index?_eq {n x : Nat} (k : Fin n) (h : x = k.val) : index? n x = some k := by
  subst h; simp [index?]

theorem index?_none {n x : Nat} (h : n ≤ x) : index? n x = none := by simp [index?]; omega

end Sys2Proof

namespace Sys2Proof.Machine

open Sys2Proof

/-! ## Notices (R193, R196) -/

/-- R193: merging, appending and missing, for a list of at most eight. -/
theorem Notices.raise_eq (n : Notices) (h : n.list.length ≤ 8) (k x d) : n.raise k x d = n.after k x d := by
  have e : (n.list.any fun y => y.isOf k x) = true ↔ (k, x) ∈ n.list.map fun y => (y.kind, y.subject) := by
    simp only [List.any_eq_true, Notice.isOf, Bool.and_eq_true, beq_iff_eq, List.mem_map, Prod.mk.injEq]
  unfold Notices.raise Notices.after
  by_cases h1 : (n.list.any fun y => y.isOf k x) = true
  · rw [if_pos h1, if_pos (e.1 h1)]
    simp [Notice.isOf]
  · rw [if_neg h1, if_neg (fun h' => h1 (e.2 h'))]
    by_cases h2 : n.list.length = 8
    · simp [h2]
    · rw [if_pos (by omega), if_neg h2]

theorem Notices.drivesLine_iff (n : Notices) : n.drivesLine = true ↔ lineLow n := by
  simp [Notices.drivesLine, lineLow]

@[simp] theorem State.raise_notices (s : State) (k x d) : (s.raise k x d).notices = s.notices.raise k x d := rfl

theorem State.raise_line (s : State) (k x d) :
    (s.raise k x d).noticeLow = true ↔ lineLow (s.notices.raise k x d) := Notices.drivesLine_iff _

theorem Notices.raise_length (n : Notices) (h : n.list.length ≤ 8) (k x d) : (n.raise k x d).list.length ≤ 8 := by
  unfold Notices.raise
  split_ifs <;> simp <;> omega

/-! ## Zone change events (R67, R72) -/

theorem WatchTable.invalidate_slot (t : WatchTable) (g z) (w : Fin 8) :
    (t.invalidate g z).slots[w] =
      { t.slots[w] with entry := t.slots[w].entry.filter fun e => !(e.zone == z && g != some w) } := by
  simp [WatchTable.invalidate, WatchTable.freeWhere]

/-- What one event for each zone of a list leaves. -/
theorem State.foldl_zoneEvent (g : Option (Fin 8)) (zs : List (Fin 16)) (hd : zs.Nodup) : ∀ s : State,
    (∀ z : Fin 16, (zs.foldl (State.zoneEvent g) s).zones[z] =
      if z ∈ zs then { s.zones[z] with count := s.zones[z].count + 1 } else s.zones[z]) ∧
    (∀ w : Fin 8, (zs.foldl (State.zoneEvent g) s).watches.slots[w] =
      { s.watches.slots[w] with
        entry := s.watches.slots[w].entry.filter fun e => !(decide (e.zone ∈ zs) && g != some w) }) ∧
    (zs.foldl (State.zoneEvent g) s).watches.order =
      s.watches.order.filter fun w =>
        !(s.watches.slots[w].entry.any fun e => decide (e.zone ∈ zs) && g != some w) := by
  induction zs with
  | nil =>
    intro s
    refine ⟨by simp, fun w => ?_, by simp⟩
    rcases hs : s.watches.slots[w] with ⟨gen, _ | e⟩ <;> simp [-Fin.getElem_fin, hs, Option.filter]
  | cons z zs ih =>
    intro s
    obtain ⟨hz, hzs⟩ := List.nodup_cons.1 hd
    obtain ⟨h1, h2, h3⟩ := ih hzs (s.zoneEvent g z)
    have hw : ∀ w : Fin 8, (s.zoneEvent g z).watches.slots[w] =
        { s.watches.slots[w] with entry := s.watches.slots[w].entry.filter fun e => !(e.zone == z && g != some w) } :=
      fun w => WatchTable.invalidate_slot _ _ _ _
    have ho : (s.zoneEvent g z).watches.order =
        s.watches.order.filter fun w => !s.watches.slots[w].entry.any fun e => e.zone == z && g != some w := rfl
    refine ⟨?_, ?_, ?_⟩
    · intro y
      rw [List.foldl_cons, h1 y]
      have : (s.zoneEvent g z).zones[y] = if y = z then { s.zones[z] with count := s.zones[z].count + 1 } else s.zones[y] :=
        getElem_modifyAt _ _ _ _
      rw [this]
      by_cases hy : y = z
      · subst hy; simp [hz]
      · simp [hy]
    · intro w
      rw [List.foldl_cons, h2 w, hw w]
      cases s.watches.slots[w].entry with
      | none => rfl
      | some e =>
        simp only [Option.filter_some, List.mem_cons]
        by_cases h : e.zone = z <;> by_cases h' : g = some w <;> simp [h, h', Option.filter, bne]
    · rw [List.foldl_cons, h3, ho, List.filter_filter]
      congr 1
      funext w
      rw [hw w]
      cases s.watches.slots[w].entry with
      | none => rfl
      | some e =>
        simp only [Option.filter_some, List.mem_cons]
        by_cases h : e.zone = z <;> by_cases h' : g = some w <;> simp [h, h', bne]

/-- R67, R72: one event for each zone of a set. -/
theorem State.zoneEvents_raises (g) (s : State) (zones) : RaisesEvents zones g s (s.zoneEvents g zones) := by
  obtain ⟨h1, h2, h3⟩ := State.foldl_zoneEvent g (members zones) (members_nodup _) s
  have f : ∀ w : Fin 8, freedByEvents s zones g w =
      s.watches.slots[w].entry.any fun e => decide (e.zone ∈ members zones) && g != some w := by
    intro w
    unfold freedByEvents
    cases s.watches.slots[w].entry with
    | none => simp
    | some e => simp [mem_members]
  refine ⟨?_, ?_, ?_⟩
  · intro z
    have := h1 z
    simp only [mem_members] at this
    exact this
  · intro w
    refine (h2 w).trans ?_
    rw [f w]
    rcases s.watches.slots[w] with ⟨gen, _ | e⟩
    · simp
    · by_cases h : e.zone ∈ members zones <;> by_cases h' : g = some w <;> simp [h, h', bne]
  · refine h3.trans ?_
    congr 1
    funext w
    rw [f w]

@[simp] theorem State.zoneEvents_cues (g) (s : State) (zs) : (s.zoneEvents g zs).cues = s.cues :=
  (s.zoneEvents_only g zs).field .cues

@[simp] theorem State.zoneEvents_seq (g) (s : State) (zs) : (s.zoneEvents g zs).seq = s.seq :=
  (s.zoneEvents_only g zs).field .seq

@[simp] theorem State.zoneEvents_power (g) (s : State) (zs) : (s.zoneEvents g zs).power = s.power :=
  (s.zoneEvents_only g zs).field .power

@[simp] theorem State.reportFreed_cues (s : State) (t h) : (s.reportFreed t h).cues = s.cues :=
  (s.reportFreed_only t h).field .cues

@[simp] theorem State.reportFreed_zones (s : State) (t h) : (s.reportFreed t h).zones = s.zones :=
  (s.reportFreed_only t h).field .zones

@[simp] theorem State.reportFreed_watches (s : State) (t h) : (s.reportFreed t h).watches = s.watches :=
  (s.reportFreed_only t h).field .watches

/-! ## Handles (R2) -/

theorem extractLsb'_append (a : BitVec 6) (g : BitVec 10) :
    BitVec.extractLsb' 10 6 (a ++ g : BitVec (6 + 10)) = a ∧
      BitVec.extractLsb' 0 10 (a ++ g : BitVec (6 + 10)) = g := by
  constructor <;>
    (apply BitVec.eq_of_getLsbD_eq; intro i hi; rw [BitVec.getLsbD_extractLsb', BitVec.getLsbD_append]; simp [hi])

theorem handleOf_handleBits (k : Fin 48) (gen : BitVec 10) :
    handleOf (handleBits k gen) = some { slot := k, gen := gen } := by
  have h := extractLsb'_append (BitVec.ofNat 6 k) gen
  have hs : (BitVec.extractLsb' 10 6 (handleBits k gen)).toNat = k.val := by
    refine (congrArg BitVec.toNat h.1).trans ?_
    simp
    omega
  simp only [handleOf, index?_eq k hs, Option.map_some, Option.some.injEq, Handle.mk.injEq, true_and]
  exact h.2

/-- A handle that names a cue resolves to it (R2). -/
theorem State.resolve_names {s : State} {raw : BitVec 16} {k : Fin 48} {c : Cue} (h : Names s raw k c) :
    s.resolve raw = some (k, c) := by
  obtain ⟨rfl, h2⟩ := h
  simp only [State.resolve, handleOf_handleBits, Option.bind_some, if_true, State.cueAt, h2, Option.map_some]

/-- A command that carries no guard is its block's affair alone (R73). -/
theorem guarded_none {h : Header} {s : State} (hg : h.guard = none) (b) : guarded h s b = b none := by
  simp only [guarded, checkGuard, hg, Option.map_none]
  cases b none <;> rfl

/-! ## Freeing and fading a cue (R10, R12) -/

/-- R12: freeing a slot that holds a cue. -/
theorem State.freeSlot_some {g} {s : State} {k : Fin 48} {c : Cue} (h : s.cues.slots[k].cue = some c) :
    (s.freeSlot g k).cues = s.cues.remove k ∧ RaisesEvents c.desc.zones g s (s.freeSlot g k) ∧
      (c.tag = none → (s.freeSlot g k).seq = s.seq) := by
  have e : s.freeSlot g k =
      ((s.setCues (s.cues.remove k)).zoneEvents g c.desc.zones).reportFreed c.tag (s.handleAt k) := by
    simp only [State.freeSlot, State.cueAt, h]
  rw [e]
  refine ⟨by simp, ?_, ?_⟩
  · have := State.zoneEvents_raises g (s.setCues (s.cues.remove k)) c.desc.zones
    simpa [RaisesEvents, freedByEvents] using this
  · intro ht; simp [ht, State.reportFreed]

/-- A slot that holds no cue is freed already. -/
theorem State.freeSlot_none {g} {s : State} {k : Fin 48} (h : s.cues.slots[k].cue = none) : s.freeSlot g k = s := by
  simp only [State.freeSlot, State.cueAt, h]

theorem CueTable.remove_self (t : CueTable) (k : Fin 48) :
    (t.remove k).slots[k] = { gen := t.slots[k].gen, cue := none } :=
  getElem_modifyAt_self _ _ _

theorem CueTable.remove_other (t : CueTable) {j k : Fin 48} (h : j ≠ k) : (t.remove k).slots[j] = t.slots[j] :=
  getElem_modifyAt_ne _ _ h

/-- The Cue Table after a slot is freed, whatever it held. -/
theorem State.freeSlot_slots (g) (s : State) (k j : Fin 48) :
    (s.freeSlot g k).cues.slots[j] = if j = k then { gen := s.cues.slots[k].gen, cue := none } else s.cues.slots[j] := by
  cases h : s.cues.slots[k].cue with
  | none =>
    rw [State.freeSlot_none h]
    split
    · next e => subst e; rcases hs : s.cues.slots[j] with ⟨gen, cue⟩; simp_all
    · rfl
  | some c =>
    rw [(State.freeSlot_some h).1]
    split
    · next e => subst e; exact CueTable.remove_self _ _
    · next e => exact CueTable.remove_other _ e

/-- A cue whose fade-out begins (R10). -/
def Cue.fading (c : Cue) (exit : Nat) : Cue := { c with phase := .fadingOut 0 exit c.fadeEnvelope }

/-- R10: a fade-out of some length begins. -/
theorem State.beginFade_some {g exit} {s : State} {k : Fin 48} {c : Cue} (h : s.cues.slots[k].cue = some c)
    (hf : c.phase.isFadingOut = false) (he : exit c ≠ 0) :
    (s.beginFade g exit k).cues =
        { s.cues with slots := modifyAt s.cues.slots k fun x => { x with cue := some (c.fading (exit c)) }
                      retiring := s.cues.retiring ++ [k] } ∧
      RaisesEvents c.desc.zones g s (s.beginFade g exit k) ∧
      OnlyChanges [.cues, .zones, .watches] s (s.beginFade g exit k) := by
  have e : s.beginFade g exit k =
      ((s.putCue k (c.fading (exit c))).setCues
        { (s.putCue k (c.fading (exit c))).cues with
          retiring := (s.putCue k (c.fading (exit c))).cues.retiring ++ [k] }).zoneEvents g c.desc.zones := by
    simp only [State.beginFade, State.cueAt, h, hf, if_neg he, Bool.false_eq_true, if_false]
    rfl
  rw [e]
  refine ⟨by simp [State.putCue], ?_, ?_⟩
  · have := State.zoneEvents_raises g ((s.putCue k (c.fading (exit c))).setCues
        { (s.putCue k (c.fading (exit c))).cues with
          retiring := (s.putCue k (c.fading (exit c))).cues.retiring ++ [k] }) c.desc.zones
    simpa [RaisesEvents, freedByEvents, State.putCue] using this
  · exact (((OnlyChanges.refl _ s).then (s.putCue_only _ _)).then (State.setCues_only _ _)).then
      (State.zoneEvents_only _ _ _)

/-- A cue that fades out already is left as it is (R10). -/
theorem State.beginFade_fading {g exit} {s : State} {k : Fin 48} {c : Cue} (h : s.cues.slots[k].cue = some c)
    (hf : c.phase.isFadingOut = true) : s.beginFade g exit k = s := by
  simp only [State.beginFade, State.cueAt, h, hf, if_true]

/-- The Cue Table's slots after a fade-out with an exit fade time of 0 (R10). -/
theorem State.beginFade_zero {g exit} {s : State} {k : Fin 48} {c : Cue} (h : s.cues.slots[k].cue = some c)
    (hf : c.phase.isFadingOut = false) (he : exit c = 0) (j : Fin 48) :
    (s.beginFade g exit k).cues.slots[j] =
      if j = k then { gen := s.cues.slots[k].gen, cue := none } else s.cues.slots[j] := by
  have e : ∃ u : State, s.beginFade g exit k = u.freeSlot g k ∧
      u.cues.slots = modifyAt s.cues.slots k fun x => { x with cue := some (c.fading (exit c)) } := by
    refine ⟨((s.putCue k (c.fading (exit c))).setCues
        { (s.putCue k (c.fading (exit c))).cues with
          retiring := (s.putCue k (c.fading (exit c))).cues.retiring ++ [k] }).zoneEvents g c.desc.zones, ?_, ?_⟩
    · simp only [State.beginFade, State.cueAt, h, hf, if_pos he, Bool.false_eq_true, if_false]
      rfl
    · simp [State.putCue]
  obtain ⟨u, e, hu⟩ := e
  rw [e, State.freeSlot_slots, hu]
  split
  · rw [getElem_modifyAt_self]
  · next hj => exact getElem_modifyAt_ne _ _ hj

/-! ## Chain records -/

@[simp] theorem State.setChain_chains (s : State) (i c) : (s.setChain i c).chains = s.chains.set i c := by
  unfold State.setChain
  dsimp only
  split <;> rfl

theorem State.setChain_other (s : State) (i c) : OnlyChain i s (s.setChain i c) := by
  intro j hj
  rw [State.setChain_chains, getElem_setFin, if_neg hj]

/-- A change of a record that keeps the chain's state leaves the Composer alone (R117). -/
theorem State.setChain_same_state (s : State) (i) (c : Chain) (h : s.chains[i].mode.state = c.mode.state) :
    s.setChain i c = s.setChains (s.chains.set i c) := by
  simp only [State.setChain, h, if_true]

/-- A change of a record that changes the chain's state marks the frame in flight (R117). -/
theorem State.setChain_new_state (s : State) (i) (c : Chain) (h : s.chains[i].mode.state ≠ c.mode.state) :
    s.setChain i c = (s.setChains (s.chains.set i c)).setComposer (s.composer.markLeft i) := by
  simp only [State.setChain, if_neg h]

end Sys2Proof.Machine
end

