-- ==== Sys2Proof/Tests/Slice0.lean ====
section
/-! SUPPORT. Tests: ill-formed commands, figures of the spec's worked examples and tables, single steps, and for every
statement that has hypotheses a state and operands that meet them, clause by clause. -/

namespace Sys2Proof.Tests

open Sys2Proof Sys2Proof.Machine

set_option Elab.async false
set_option maxRecDepth 4000

/-! ## Small states -/

/-- A frame of a client with a tag of 9 that is not guarded. -/
def from_ (client : BitVec 3) : Header := { client := client, reserved := 0, tag := 9, guard := none }

def host : Header := from_ 0

/-- Whether a command answers a next state that satisfies `p`. -/
def after (c : Instr) (s : State) (p : State → Bool) : Bool :=
  match exec c s with
  | .next t => p t
  | _ => false

def inPower (p : PowerState) (s : State) : State := s.setPower { s.power with state := p }

def lit : State := (inPower .lit State.reset).setComposer { State.reset.composer with timer := some 20 }

def setC (i : Fin 4) (c : Chain) (s : State) : State := s.setChains (s.chains.set i c)

/-- A chain after device reset in a mode, with a found count. -/
def chainIn (mode : ChainMode) (found : Nat) : Chain := { Chain.reset with mode := mode, found := found, expected := 3 }

/-- A descriptor as a frame carries it: THEME, priority 16, zones 0 and 15, DIRECT (4096, 0, 4095), no B, SOLID,
intensity 1001, fade-in 40, fade-out 100, lifetime 60001, gate absent. -/
def raw : RawDescriptor :=
  { layer := 1, priority := 16, zones := 0x8001, intensity := 1001, aKind := 0, a0 := 4096, a1 := 0, a2 := 4095,
    bKind := 2, b0 := 0, b1 := 0, b2 := 0, effect := 0, p0 := 0, p1 := 0, p2 := 0, fadeIn := 40, fadeOut := 100,
    lifetime := 60001, gate := 0 }

/-- The same as stored (R27). -/
def stored : Descriptor :=
  { layer := .theme, priority := 15, zones := 0x8001, a := .direct { r := 4095, g := 0, b := 4095 }, b := none,
    effect := .solid, intensity := 1000, fadeIn := 400, fadeOut := 1000, lifetime := some 600000, gate := none }

/-- A STEADY cue of client 1. -/
def cue : Cue :=
  { owner := 1, tag := none, desc := stored, phase := .steady, clock := 0, remaining := some 600000, gateRun := none }

/-- The state with one cue in a slot. -/
def withCue (k : Fin 48) (c : Cue) (s : State) : State :=
  s.setCues { s.cues with slots := s.cues.slots.set k { gen := 1023, cue := some c }, postOrder := [k],
                          retiring := if c.phase.isFadingOut then [k] else [] }

/-! ## Ill-formed commands -/

theorem test_mapZone_124_nodes : mapZoneLengthOk (List.replicate 124 { chain := 0, position := 1 }) = false := by decide

theorem test_mapZone_guarded_123_nodes :
    Instr.wellFormed (.mapZone { host with guard := some { slot := 0, gen := 0, mode := 0 } } 0
      (List.replicate 123 { chain := 0, position := 1 })) = false := by decide

theorem test_mapZone_123_nodes : Instr.wellFormed (.mapZone host 0 (List.replicate 123 { chain := 0, position := 1 })) =
    true := by decide

theorem test_setCurve_62_points : setCurveLengthOk (List.replicate 62 { lux := 0, level := 0 }) = false := by decide

theorem test_setCurve_guarded_61_points :
    Instr.wellFormed (.setCurve { host with guard := some { slot := 0, gen := 0, mode := 0 } } 8
      (List.replicate 61 { lux := 0, level := 0 })) = true ∧
    Instr.wellFormed (.setCurve host 8 (List.replicate 62 { lux := 0, level := 0 })) = false := by decide

theorem test_loadSteps_17_steps :
    loadStepsLengthOk (List.replicate 17 { kind := 3, b1 := 0, b2 := 1, b3 := 0, b4 := 0, b5 := 0 }) = false ∧
    Instr.wellFormed (.loadSteps host 0 0
      (List.replicate 17 { kind := 3, b1 := 0, b2 := 1, b3 := 0, b4 := 0, b5 := 0 })) = false := by decide

theorem test_returned_frame_short_of_slots :
    Instr.wellFormed (.countReturned 0 { header := headerOf .count .out 0 1, slots := [] }) = false := by decide

/-! ## Formats (chapter 11) -/

/-- 11.1: the check of the five bytes of NOP, client 0, tag 9, from a separate calculation with the polynomial. -/
theorem test_crc_of_nop : crc8 [0x00, 0x00, 0x09, 0x00] = 0x6C := by decide

/-- 11.2: the descriptor's 34 bytes, written out. -/
def rawBytes : List Byte :=
  [1, 16, 0x80, 0x01, 0x03, 0xE9, 0, 0x10, 0x00, 0, 0, 0x0F, 0xFF, 2, 0, 0, 0, 0, 0, 0, 0, 0, 0, 0, 0, 0, 0, 0, 40, 0,
    100, 0xEA, 0x61, 0]

/-- The command that a frame of a code, client 1, tag 9 and this payload spells (11.6). -/
def spells (code : Byte) (payload : List Byte) : Option Instr :=
  (commandRow code).bind fun row => commandOf row 0x01 9 payload

theorem test_spells_identify : spells 0x01 [] = some (.identify (from_ 1)) := by decide
theorem test_spells_ackMatch : spells 0x0A [3, 2, 60] = some (.ackMatch (from_ 1) 3 0x023C) := by decide
theorem test_spells_postCue : spells 0x10 rawBytes = some (.postCue (from_ 1) raw) := by decide
theorem test_spells_modifyCue :
    spells 0x12 ([0xBF, 0xFF, 0x1F, 0x3F] ++ rawBytes) = some (.modifyCue (from_ 1) 0xBFFF 0x1F3F raw) := by decide
theorem test_spells_refreshCue :
    spells 0x15 [0x20, 0x01] = some (.refreshCue (from_ 1) 0x2001 none) ∧
      spells 0x15 [0x20, 0x01, 0, 5] = some (.refreshCue (from_ 1) 0x2001 (some 5)) ∧ spells 0x15 [1, 2, 3] = none := by
  decide
theorem test_spells_setPalette :
    spells 0x20 [31, 0x0F, 0xFF, 0, 1, 2, 3, 1] = some (.setPalette (from_ 1) 31 0x0FFF 0x0001 0x0203 1) := by decide
theorem test_spells_mapZone :
    spells 0x28 [15, 0, 1, 3, 60] =
      some (.mapZone (from_ 1) 15 [{ chain := 0, position := 1 }, { chain := 3, position := 60 }]) := by decide
theorem test_spells_setCurve :
    spells 0x33 [2, 0, 1, 2, 3, 4, 5, 6, 7] =
      some (.setCurve (from_ 1) 2 [{ lux := 0x0001, level := 0x0203 }, { lux := 0x0405, level := 0x0607 }]) := by decide
theorem test_spells_configureChain :
    spells 0x40 [3, 0x7F, 1, 60, 1, 2, 12, 0x0B, 0xB8, 0x13, 0x88] =
      some (.configureChain (from_ 1) 3
        { mask := 0x7F, enabled := 1, expected := 60, ratePolicy := 1, rejoin := 2, retryLimit := 12, budget := 3000
          restoreInterval := 5000 }) := by decide
theorem test_spells_loadSteps :
    spells 0x52 [5, 31, 3, 0x17, 0x70, 0, 0, 0] =
      some (.loadSteps (from_ 1) 5 31 [{ kind := 3, b1 := 0x17, b2 := 0x70, b3 := 0, b4 := 0, b5 := 0 }]) := by decide
theorem test_spells_setPowerTimes :
    spells 0x63 [7, 0, 1, 0, 2, 1, 0x2C] = some (.setPowerTimes (from_ 1) 7 1 2 300) := by decide
theorem test_spells_nothing : commandRow 0x17 = none ∧ spells 0x10 (rawBytes ++ [0]) = none := by decide

/-- R27: priority, intensity, components and lifetime are clamped, and the reply will be CLAMPED. -/
theorem test_descriptor_is_clamped : descriptorOf raw = some (stored, true) := by decide

/-- 11.5: the header of a DUTY frame from IN with hop count 5 and 60 slots. -/
theorem test_header_fields : (headerOf .duty .inn 5 60).extractLsb' 8 16 = 0x517C#16 := by decide

/-- 11.5: a LIVE slot, a blank slot, a COUNT slot from IN. -/
theorem test_slot_fields :
    (dutySlot (.live 0xABC 0xDEF 0x123)).extractLsb' 8 40 = 0xABCDEF1238#40 ∧
      (dutySlot .blank).extractLsb' 8 40 = 0#40 ∧ (countSlot 61 .inn).extractLsb' 8 40 = 0x3D80000000#40 := by decide

/-- R198: a temperature code above 190 is recorded as 150. -/
theorem test_temperature : slotTemperature (0xBF#8 ++ 0#40) = 150 ∧ slotTemperature (0#48) = -40 := by decide

/-- 11.4: a SPLIT detail with the break between OUT 3 and IN 8. -/
theorem test_split_detail : (Detail.chain (.split { lastOut := 3, firstIn := 8 })).bits = 0x8308#16 := by decide

/-! ## Worked examples of chapters 2, 5 and 6 -/

/-- 2.7: the sweep along a door strip, at 0 and at 500 ms, and under REVERSE. -/
theorem test_sweep :
    ((List.range 6).map fun i => (Effect.sweep 1200 2 .forward).factor 0 6 i) = [750, 250, 0, 0, 0, 0] ∧
      ((List.range 6).map fun i => (Effect.sweep 1200 2 .forward).factor 500 6 i) = [1000, 1000, 1000, 500, 0, 0] ∧
      ((List.range 6).map fun i => (Effect.sweep 1200 2 .reverse).factor 500 6 i) = [0, 0, 500, 1000, 1000, 1000] := by
  decide

/-- 2.7: the gradient across the dash, index 1 and 4. -/
theorem test_gradient :
    (Effect.gradient .forward).colour { r := 4000, g := 0, b := 800 } { r := 0, g := 2000, b := 800 } 5 1 =
        { r := 3000, g := 500, b := 800 } ∧
      (Effect.gradient .forward).colour { r := 4000, g := 0, b := 800 } { r := 0, g := 2000, b := 800 } 5 4 =
        { r := 0, g := 2000, b := 800 } := by decide

/-- 2.7: a pulse fading out has weight 241, and 193 from a start envelope of 800. -/
theorem test_pulse_fading_out :
    ({ cue with desc := { stored with effect := .pulse 1500 100 300, intensity := 700 }, clock := 900
                phase := .fadingOut 125 500 1000 } : Cue).weight 1 0 = 241 ∧
      ({ cue with desc := { stored with effect := .pulse 1500 100 300, intensity := 700 }, clock := 900
                  phase := .fadingOut 125 500 800 } : Cue).weight 1 0 = 193 := by decide

/-- 2.7: the gate of a gated door cue, at 2100, 2800 and 3050 ms, and its eligibility at 400, 2800 and 3050. -/
theorem test_gate :
    (let c (opened : Bool) (start elapsed : Nat) : Cue :=
       { cue with gateRun := some { opened := opened, start := start, elapsed := elapsed } }
     (c true 0 100).gateEnvelope = 250 ∧ (c false 750 500).gateEnvelope = 250 ∧ (c false 750 750).gateEnvelope = 0 ∧
       (c false 0 400).eligible = false ∧ (c false 750 500).eligible = true ∧ (c false 750 750).eligible = false) := by
  decide

/-- 5.7: the crossfade at 100 ms: the layer, and its stacking over the foundation. -/
theorem test_crossfade :
    (let layer := ({ colour := { r := 0, g := 0, b := 1000 }, coverage := 250 } : Comp).over
       { colour := { r := 3000, g := 0, b := 0 }, coverage := 750 }
     layer = { colour := { r := 2250, g := 0, b := 1000 }, coverage := 812 } ∧
       layer.over { colour := { r := 400, g := 400, b := 400 }, coverage := 1000 } =
         { colour := { r := 2325, g := 75, b := 1075 }, coverage := 1000 }) := by decide

/-- 6.2: the curve level at 313 and at 20 lux, and the slew at the tunnel entrance. -/
theorem test_tunnel :
    (let curve : List CurvePoint := [⟨0, 150⟩, ⟨50, 300⟩, ⟨400, 700⟩, ⟨2000, 1000⟩]
     curveLevelOf curve 313 = 600 ∧ curveLevelOf curve 20 = 210) ∧
      moveLevel 600 210 20 = 580 ∧ moveLevel 220 210 20 = 210 ∧ moveLevel 0 210 1000 = 210 := by decide

/-- 6.7: stage 7 of the colour case, and stage 8. -/
theorem test_calibration :
    ({ red := (1100, -60, 0), green := (-30, 1050, -20), blue := (0, -40, 1080), current := (200, 200, 200) } :
        Bin).calibrate { r := 1101, g := 757, b := 544 } = { r := 1138, g := 733, b := 544 } ∧
      thermalFactor 70 100 (some 82) = 720 ∧ thermalFactor 70 100 (some 118) = 300 ∧
      thermalFactor 70 100 (some 95) = 417 := by decide

/-- R108: drive values of (4600, 2300, 0) are brought to (4095, 2047, 0). -/
theorem test_gamut : Rgb.gamut { r := 4600, g := 2300, b := 0 } = { r := 4095, g := 2047, b := 0 } := by decide

/-- 6.7 and 6.8: the budget factors, and the scaled duties and estimate of chain D. -/
theorem test_budget :
    budgetFactor 60687900 1200 = 809 ∧ budgetFactor 3057000 50 = 669 ∧ budgetFactor 2238000 50 = 914 ∧
      budgetFactor 2047500 50 = 1000 ∧
      (let ds : List Drive := [⟨1, 0, ⟨4095, 4095, 4095⟩⟩, ⟨2, 0, ⟨2000, 1000, 0⟩⟩]
       let bins := State.reset.cond.bins
       totalLoad bins ds = 3057000 ∧
         (ds.map (Drive.scaled 669)).map (·.duty) = [⟨2739, 2739, 2739⟩, ⟨1338, 669, 0⟩] ∧
         totalLoad bins (ds.map (Drive.scaled 669)) / 4095 = 499) := by decide +kernel

/-- 6.9: the OVERHEAT flag is set at 126, stays at 115 and clears at 109. -/
theorem test_overheat :
    overheatAfter false 126 = true ∧ overheatAfter true 115 = true ∧ overheatAfter true 109 = false ∧
      overheatAfter false 124 = false := by decide

/-! ## Witnesses: the port -/

/-- A frame of client 0 reaches its block in any state that receives. -/
theorem host_reaches (cls : CommandClass) (s : State) (hr : s.resetLow = false)
    (hp : s.power.state.receives = true) : Reaches cls host s := ⟨hr, hp, by decide, fun _ => rfl⟩

/-- A frame of client 6 reaches the block of an open command. -/
theorem client_reaches (s : State) (hr : s.resetLow = false) (hp : s.power.state.receives = true) :
    Reaches .open_ (from_ 6) s := ⟨hr, hp, by decide, by decide⟩

theorem witness_StepTakesFrontCommand :
    (State.reset.setPending [.nop host, .deviceReset]).pending = .nop host :: [.deviceReset] ∧
      State.reset.pending = [] := ⟨rfl, rfl⟩

theorem witness_RefusalLeavesEveryBlock :
    (headerOfCommand (.setZoneTrim host 16 0) ≠ none ∧ State.reset.resetLow = false ∧
      State.reset.power.state ≠ .dormant ∧
      ∃ t, exec (.setZoneTrim host 16 0) State.reset = .next t ∧ t.reply.status.refusal = true) ∧
    ∃ t, exec (.commandFrame [] .partialByte) State.reset = .next t ∧ t.reply.status.refusal = true :=
  ⟨⟨by decide, rfl, by decide, _, rfl, rfl⟩, _, rfl, rfl⟩

theorem witness_PortRefusals :
    (headerOfCommand (.softReset host) = some host ∧ (Instr.softReset host).wellFormed = true ∧
      (inPower .waking State.reset).resetLow = false ∧ (inPower .waking State.reset).power.state = .waking ∧
      isGo (.softReset host) = false) ∧
    (State.reset.power.state.receives = true ∧ (from_ 7).client = 7) ∧
    ((from_ 1).client ≠ 7 ∧ (from_ 1).client ≠ 0 ∧ (from_ 6).client ≠ 7 ∧ isConfiguring (.softReset (from_ 1)) = true) := by
  decide

/-- A reserved bit on GO_DORMANT in WAKING, which it would find BUSY, and a guard on ACK_OLDEST in STANDBY. -/
theorem witness_PortRefusals_flags :
    (let h : Header := { host with reserved := 1 }
     headerOfCommand (.goDormant h) = some h ∧ (Instr.goDormant h).wellFormed = true ∧ isGo (.goDormant h) = true ∧
       (inPower .waking State.reset).power.state = .waking ∧ isCueCommand (.goDormant h) = false ∧ h.client = 0 ∧
       h.client ≠ 7 ∧ h.reserved ≠ 0) ∧
    (let h : Header := { from_ 6 with guard := some { slot := 0, gen := 0, mode := 0 } }
     headerOfCommand (.ackOldest h) = some h ∧ (Instr.ackOldest h).wellFormed = true ∧ isConfiguring (.ackOldest h) = false ∧
       isCueCommand (.ackOldest h) = false ∧ h.client ≠ 7 ∧ h.guard ≠ none) := by decide

/-- The NOP frame of client 0 with tag 9, and the same with the code 0x03, which names no command. -/
def nopFrame : List Byte := [0x00, 0x00, 0x09, 0x00, 0x6C]

theorem witness_CommandFrameIsTestedAndHandedOver :
    (Period.whole ≠ .resetRose ∧ Period.partialByte ≠ .resetRose ∧ State.reset.resetLow = false ∧
      State.reset.power.state.receives = true) ∧ nopFrame.dropLast.length < 5 ∧
    (frameLengthOk [0, 0, 9, 0, 0] .whole = true ∧ crc8 [0, 0, 9, 0] ≠ 0) ∧
    (frameLengthOk [3, 0, 9, 0, crc8 [3, 0, 9, 0]] .whole = true ∧ commandRow 3 = none) ∧
    (frameLengthOk nopFrame .whole = true ∧ crc8 nopFrame.dropLast = byteAt nopFrame (nopFrame.length - 1) ∧
      (commandRow (byteAt nopFrame 0)).isSome = true ∧ clientOf (byteAt nopFrame 1) ≠ 7 ∧
      ((commandRow 0).bind fun row => commandOf row 0 9 []) = some (.nop host)) := by decide

/-- A NOP of client 7, a NOP with a payload byte, and a guarded POST_CUE of two bytes, which do not hold a guard. -/
theorem witness_CommandFrame_refused_after_its_code :
    (let checked (bytes : List Byte) : List Byte := bytes ++ [crc8 bytes]
     (frameLengthOk (checked [0, 7, 9, 0]) .whole = true ∧ clientOf 7 = 7) ∧
       (frameLengthOk (checked [0, 0, 9, 1, 0]) .whole = true ∧ clientOf 0 ≠ 7 ∧
         (commandRow 0).map (fun row => row.accepts (1 - 0)) = some false) ∧
       (frameLengthOk (checked [0x10, 0x08, 9, 2, 0, 0]) .whole = true ∧ clientOf 0x08 ≠ 7 ∧
         (commandRow 0x10).isSome = true ∧ (0x08 : Byte).getLsbD 3 = true ∧ 2 < 3)) := by decide

theorem witness_OpenHostCommands : Reaches .open_ host State.reset ∧ host.plain = true ∧
    Reaches .open_ (from_ 6) (inPower .dimming State.reset) ∧ (from_ 6).plain = true :=
  ⟨host_reaches _ _ rfl rfl, rfl, client_reaches _ rfl rfl, rfl⟩

/-- A reply of eight notices, and a period of one byte that cuts the first reply short. -/
theorem witness_RepliesAndPeriods :
    (Payload.notices 0 0 (List.replicate 8
      { kind := .restarted, subject := .none, detail := .device, count := 1 })).records.length ≤ 8 ∧
      ({ frame := none, clocked := 3 } : Shift).frame = none ∧
      (({ frame := some State.reset.reply, clocked := 1 } : Shift).frame = some State.reset.reply ∧ 0 < 1) := by decide

/-- Subjects and details at the ends of their ranges, with their bits from the layout of 11.4 by hand. -/
theorem witness_NoticeFormats :
    (Subject.node { chain := 3, position := 60 }).bits = 0x033C#16 ∧ (Detail.number 65535).bits = 0xFFFF#16 ∧
      (Detail.chain (.split { lastOut := 60, firstIn := 61 })).bits = 0xBC3D#16 ∧ MayConcern .nodeFault (.node ⟨0, 1⟩) :=
  ⟨by decide, by decide, by decide, ⟨0, 1⟩, rfl, by decide, by decide⟩

theorem witness_ConfiguringHostCommands : Reaches .configuring host State.reset ∧ host.plain = true ∧
    Reaches .configuring host lit := ⟨host_reaches _ _ rfl rfl, rfl, host_reaches _ _ rfl rfl⟩

/-- Two notices: RESTARTED and CHAIN_STATE of chain D. -/
def twoNotices : State :=
  State.reset.setNotices
    { list := [{ kind := .restarted, subject := .none, detail := .device, count := 1 },
               { kind := .chainState, subject := .chain 3, detail := .chain .failed, count := 255 }]
      missed := 255, mask := 4 }

theorem witness_AcknowledgementsRemoveNotices :
    twoNotices.notices.list =
        { kind := .restarted, subject := .none, detail := .device, count := 1 } ::
          [{ kind := .chainState, subject := .chain 3, detail := .chain .failed, count := 255 }] ∧
      (State.reset.setNotices { list := [], missed := 0, mask := 0 }).notices.list = [] ∧ noticeKindOf 10 = none ∧
      (noticeKindOf 2 = some .chainState ∧ subjectOf .chainState 4 = none) ∧
      (noticeKindOf 2 = some .chainState ∧ subjectOf .chainState 3 = some (.chain 3) ∧
        (twoNotices.notices.list.map Notice.key).Nodup ∧
        ((NoticeKind.chainState, Subject.chain 2) ∉ twoNotices.notices.list.map Notice.key) ∧
        ∃ n before rest, twoNotices.notices.list = before ++ n :: rest ∧ n.key = (.chainState, .chain 3)) :=
  ⟨rfl, rfl, by decide, by decide, by decide, by decide, by decide, by decide, _, [_], [], rfl, rfl⟩

theorem witness_NoticeMaskIsReplaced :
    (∀ n : Fin 16, 10 ≤ n.val → (0x03FF#16).getLsbD n = false) ∧
      ∃ n : Fin 16, 10 ≤ n.val ∧ (0x0400#16).getLsbD n = true := by decide

theorem witness_DeviceResetHolds :
    (State.reset.setResetLow true).resetLow = true ∧ Instr.timeBaseMillisecond ≠ .resetNLow ∧
      Instr.timeBaseMillisecond ≠ .deviceReset ∧
      (Period.resetRose = .resetRose ∨ State.reset.resetLow = true) := by decide

/-- The invariants hold after device reset, and a step from there answers a next state. -/
theorem witness_StepKeepsInvariants :
    NoticeInv State.reset ∧ CueInv State.reset ∧ WatchInv State.reset ∧ LevelInv State.reset ∧ RunnerInv State.reset ∧
      PowerInv State.reset :=
  ⟨by decide +kernel, by decide +kernel, by decide +kernel, by decide +kernel, by decide +kernel, by decide +kernel⟩

theorem witness_StepKeepsZonesAndChains : ZoneInv State.reset ∧ ChainInv State.reset :=
  ⟨by decide +kernel, by decide +kernel⟩

theorem witness_a_step_from_reset :
    ∃ t, step (State.reset.setPending [.goLit host]) = .next t := ⟨_, rfl⟩

/-! ## Witnesses: cues -/

/-- The cues of client 5 in slots 8 to 46. -/
def fullBut47 : State :=
  State.reset.setCues { State.reset.cues with slots := Vector.ofFn fun i : Fin 48 =>
    if 8 ≤ i.val ∧ i.val < 47 then { gen := 7, cue := some { cue with owner := 5 } } else { gen := 1023, cue := none } }

theorem witness_PostCueInTheLowestFreeSlot :
    Reaches .open_ (from_ 1) State.reset ∧ descriptorOf raw = some (stored, true) ∧
      State.reset.cues.slots[(8 : Fin 48)].cue = none ∧
      (∀ j : Fin 48, 8 ≤ j.val → j < (8 : Fin 48) → State.reset.cues.slots[j].cue ≠ none) ∧
      (fullBut47.cues.slots[(47 : Fin 48)].cue = none ∧
        (∀ j : Fin 48, 8 ≤ j.val → j < (47 : Fin 48) → fullBut47.cues.slots[j].cue ≠ none) ∧
        ∀ j : Fin 48, ∀ c ∈ fullBut47.cues.slots[j].cue,
          c.owner ≠ (from_ 1).client ∨ c.desc.layer ≠ stored.layer ∨ c.desc.zones &&& stored.zones = 0 ∨ j.val < 8 ∨
            c.phase.isFadingOut = true) :=
  ⟨⟨rfl, rfl, by decide, by decide⟩, by decide, by decide +kernel, by decide +kernel, by decide +kernel,
    by decide +kernel, by decide +kernel⟩

/-- A cue of client 1 in slot 47 with generation 1023, whose handle is 0xBFFF. -/
def oneCue : State := withCue 47 cue State.reset

/-- Every transient slot is live: THEME cues of client 5 but for the cues in slots 8 and 47. -/
def fullTable (c8 c47 : Cue) : State :=
  State.reset.setCues { State.reset.cues with
    slots := Vector.ofFn fun i : Fin 48 =>
      if i.val < 8 then { gen := 0, cue := none }
      else { gen := 1023, cue := some (if i.val = 8 then c8 else if i.val = 47 then c47 else { cue with owner := 5 }) }
    postOrder := (List.finRange 48).drop 8
    retiring := ((List.finRange 48).drop 8).filter fun k =>
      (k == 8 && c8.phase.isFadingOut) || (k == 47 && c47.phase.isFadingOut) }

/-- A purge with a slot free: by a fade over 400 ms, and at once into the slot that it frees (R15). -/
theorem witness_PostCue_purges :
    (CueInv oneCue ∧ oneCue.cues.slots[(8 : Fin 48)].cue = none ∧ stored.fadeIn ≠ 0 ∧ isPurged oneCue 1 stored 47 = true) ∧
      (let s := fullTable { cue with owner := 5 } cue
       descriptorOf { raw with fadeIn := 0 } = some ({ stored with fadeIn := 0 }, true) ∧ CueInv s ∧
         isPurged s 1 { stored with fadeIn := 0 } 47 = true ∧
         ∀ j : Fin 48, 8 ≤ j.val → j < 47 →
           s.cues.slots[j].cue ≠ none ∧ isPurged s 1 { stored with fadeIn := 0 } j = false) :=
  ⟨by decide +kernel, by decide +kernel⟩

/-- An eviction of a cue on the retiring list, and one of the lowest cue (R16). -/
theorem witness_PostCue_evicts :
    (let s := fullTable { cue with owner := 5, phase := .fadingOut 0 100 1000 } cue
     CueInv s ∧ (∀ j : Fin 48, 8 ≤ j.val → s.cues.slots[j].cue ≠ none) ∧ s.notices.list.length ≤ 8 ∧
       stored.fadeIn ≠ 0 ∧
       (s.cues.retiring ++ purgedCues s 1 stored).find? (fun j => decide (8 ≤ j.val)) = some 8) ∧
    (let s := fullTable { cue with owner := 5 } { cue with owner := 5 }
     let d : Descriptor := { stored with layer := .accent, priority := 0 }
     CueInv s ∧ purgedCues s 1 d = [] ∧ s.cues.retiring = [] ∧ stored.layer.rank < d.layer.rank ∧
       s.cues.slots[(8 : Fin 48)].cue = some { cue with owner := 5 } ∧
       ∀ j : Fin 48, ∀ e ∈ s.cues.slots[j].cue, 8 ≤ j.val → j ≠ 8 →
         e.desc.layer = stored.layer ∧ e.desc.priority = stored.priority ∧
           s.cues.postOrder.idxOf 8 < s.cues.postOrder.idxOf j) :=
  ⟨by decide +kernel, by decide +kernel⟩

/-- No room: a new cue of the same rank as every transient cue (R17). -/
theorem witness_PostCue_no_room :
    (let s := fullTable { cue with owner := 5 } { cue with owner := 5 }
     CueInv s ∧ (∀ j : Fin 48, 8 ≤ j.val → s.cues.slots[j].cue ≠ none) ∧ purgedCues s 1 stored = [] ∧
       s.cues.retiring = [] ∧ ∀ j : Fin 48, ∀ e ∈ s.cues.slots[j].cue, 8 ≤ j.val →
         ¬ (e.desc.layer.rank < stored.layer.rank ∨
           (stored.layer = e.desc.layer ∧ e.desc.priority < stored.priority))) := by decide +kernel

theorem witness_PlaceCueFillsPinnedSlot :
    Reaches .configuring host State.reset ∧ host.reserved = 0 ∧ host.guard = none ∧
      (7 : Byte).toNat = (7 : Fin 48).val ∧ descriptorOf raw = some (stored, true) ∧ CueInv State.reset ∧
      State.reset.cues.slots[(7 : Fin 48)].cue = none :=
  ⟨host_reaches _ _ rfl rfl, rfl, rfl, rfl, by decide, by decide +kernel, by decide +kernel⟩

/-- A descriptor that is refused for each of its fields (R28, R197). -/
theorem witness_RefusedDescriptor :
    (let g : RawDescriptor := { raw with effect := 3, p0 := 0x0100, bKind := 0 }
     ∀ d ∈ [{ raw with zones := 0 }, { raw with layer := 4 }, { raw with aKind := 2 },
         { raw with aKind := 1, a0 := 32, a2 := 0 }, { raw with aKind := 1, a0 := 31 }, { raw with bKind := 3 },
         { raw with b2 := 1 }, { raw with effect := 4 }, { raw with p1 := 1 }, { raw with effect := 2, p1 := 0x1100 },
         { raw with effect := 2, p1 := 0x0002 }, { g with p0 := 0x0200 }, { g with bKind := 2 }, { raw with gate := 0x90 },
         { raw with gate := 0xA0 }, { raw with gate := 0x01 }], RefusedDescriptor d) := by
  decide +kernel

/-- A descriptor with every value altered or at its edge: a PALETTE, a GRADIENT, a PULSE, a SWEEP and a gate. -/
theorem witness_StoredDescriptor :
    ∀ d ∈ [raw, { raw with aKind := 1, a0 := 31, a2 := 0 }, { raw with effect := 3, p0 := 0x0100, bKind := 1, b0 := 31 },
        { raw with effect := 1, p0 := 9, p1 := 1001, p2 := 10 }, { raw with effect := 2, p0 := 0, p1 := 0x1001 },
        { raw with gate := 0xCF }], (descriptorOf d).isSome = true := by decide

/-- A pinned slot that holds a cue, a runner's and one of no runner, and the slot number 8. -/
theorem witness_PlaceCue_on_a_cue :
    (let s (tag : Option RunnerTag) := withCue 7 { cue with tag := tag } State.reset
     (CueInv (s none) ∧ (s none).cues.slots[(7 : Fin 48)].cue = some { cue with tag := none }) ∧
       CueInv (s (some ⟨1, 7⟩)) ∧ (s (some ⟨1, 7⟩)).cues.slots[(7 : Fin 48)].cue = some { cue with tag := some ⟨1, 7⟩ } ∧
       7 < (8 : Byte).toNat) := by decide +kernel

theorem witness_Names : Names oneCue 0xBFFF 47 cue := ⟨by decide +kernel, by decide +kernel⟩

theorem witness_ModifyCueReplacesNamedFields :
    Reaches .open_ (from_ 1) oneCue ∧ cue.owner = (from_ 1).client ∧ cue.phase.isFadingOut = false ∧
      cue.desc.modified 0x003F raw = some (stored, true) ∧
      (∃ n : Fin 16, 6 ≤ n.val ∧ (0x0040#16).getLsbD n = true) ∧
      ∃ n : Fin 16, 6 ≤ n.val ∧ (0x8000#16).getLsbD n = true :=
  ⟨⟨rfl, rfl, by decide, by decide⟩, rfl, rfl, by decide, by decide, by decide⟩

/-- Every form of a named source, effect and gate (R20): PALETTE 31, a GRADIENT with B direct and from the palette, PULSE,
SWEEP, and a gate that opens when signal 15 is FALSE. -/
theorem witness_ModifyCue_forms :
    (let g : RawDescriptor := { raw with effect := 3, p0 := 0x0100 }
     (cue.desc.modified 0x0004 { raw with aKind := 1, a0 := 31, a2 := 0 }).isSome = true ∧
       (cue.desc.modified 0x0018 { g with bKind := 0 }).any (fun x => x.1.effect.isGradient) = true ∧
       (cue.desc.modified 0x0018 { g with bKind := 1, b0 := 31 }).any (fun x => x.1.effect.isGradient) = true ∧
       (({ stored with effect := .gradient .forward, b := some (.palette 0) } : Descriptor).modified 0x0001 raw).any
         (fun x => x.1.effect.isGradient) = true ∧
       (cue.desc.modified 0x0010 { raw with effect := 1, p0 := 9, p1 := 1000, p2 := 65535 }).isSome = true ∧
       (cue.desc.modified 0x0010 { raw with effect := 2, p0 := 1, p1 := 0x1001 }).isSome = true ∧
       (cue.desc.modified 0x0010 raw).isSome = true ∧
       (cue.desc.modified 0x0020 { raw with gate := 0xCF }).isSome = true ∧
       (cue.desc.modified 0x0020 raw).isSome = true ∧ (cue.desc.modified 0 raw).isSome = true) := by decide

/-- A change mask that names no field, or one that R20 refuses, is BAD_VALUE (R20, R197, 11.2). -/
theorem test_changeMask_refused :
    cue.desc.modified 0x0040 raw = none ∧ cue.desc.modified 0x0080 raw = none ∧ cue.desc.modified 0x0100 raw = none ∧
      cue.desc.modified 0x2000 raw = none := by decide

/-- A change that is refused for each named field, and for a GRADIENT that is left without colour source B (R28). -/
theorem witness_RefusedModify :
    ∀ x ∈ ([(stored, 0x0040, raw), (stored, 0x8000, raw), (stored, 0x0004, { raw with aKind := 2 }),
        (stored, 0x0008, { raw with bKind := 3 }), (stored, 0x0010, { raw with effect := 4 }),
        (stored, 0x0020, { raw with gate := 0x90 }), (stored, 0x0010, { raw with effect := 3 }),
        ({ stored with effect := .gradient .forward, b := some (.palette 0) }, 0x0008, raw)] :
          List (Descriptor × BitVec 16 × RawDescriptor)), RefusedModify x.1 x.2.1 x.2.2 := by decide +kernel

theorem witness_RetireCueFadesOrFrees :
    (cue.owner = (from_ 1).client ∨ (from_ 1).client = 0) ∧ cue.phase.isFadingOut = false ∧ cue.desc.fadeOut ≠ 0 ∧
      Names (withCue 47 { cue with desc := { stored with fadeOut := 0 } } State.reset) 0xBFFF 47
        { cue with desc := { stored with fadeOut := 0 } } ∧
      Names (withCue 47 { cue with phase := .fadingOut 1 100 1000 } State.reset) 0xBFFF 47
        { cue with phase := .fadingOut 1 100 1000 } :=
  ⟨by decide, rfl, by decide, ⟨by decide +kernel, by decide +kernel⟩, by decide +kernel, by decide +kernel⟩

/-- A watch of client 1 on zone 15 in slot 7, with generation 255. -/
def oneWatch : State :=
  oneCue.setWatches { slots := oneCue.watches.slots.set 7 { gen := 255, entry := some { client := 1, zone := 15 } }
                      order := [7] }

/-- A posting of client 1 guarded by a watch id, with KEEP or CONSUME. -/
def guardedBy (slot gen mode : Byte) : Header := { from_ 1 with guard := some { slot := slot, gen := gen, mode := mode } }

/-- Handles that name no cue: two of another generation, one of a free slot, and slot fields of 48 and 63. -/
theorem witness_NamesNoCue :
    NamesNoCue oneCue 0xBFFE ∧ NamesNoCue oneCue 0xBC00 ∧ NamesNoCue oneCue 0xBBFF ∧ NamesNoCue oneCue 0xC000 ∧
      NamesNoCue oneCue 0xFFFF := by decide +kernel

/-- A cue that fades. -/
def fadingCue : Cue := { cue with phase := .fadingOut 1 100 1000 }

/-- A cue of client 1 for client 0 and for client 6, one that fades, a reserved bit, a guard and a mode of 2. -/
theorem witness_RefusedCueCommands :
    (Reaches .open_ host oneCue ∧ Reaches .open_ (from_ 6) oneCue ∧ Reaches .open_ (from_ 1) oneCue) ∧
      (cue.owner ≠ host.client ∧ cue.owner ≠ (from_ 6).client ∧ (from_ 6).client ≠ 0) ∧
      (fadingCue.owner = (from_ 1).client ∧ fadingCue.phase.isFadingOut = true ∧
        Names (withCue 47 fadingCue State.reset) 0xBFFF 47 fadingCue) ∧
      Reaches .open_ { from_ 1 with reserved := 8 } oneCue ∧ ({ from_ 1 with reserved := 8 } : Header).reserved ≠ 0 ∧
      (guardedBy 7 255 0).guard ≠ none ∧ 1 < (2 : Byte).toNat :=
  ⟨⟨host_reaches _ _ rfl rfl, client_reaches _ rfl rfl, ⟨rfl, rfl, by decide, by decide⟩⟩, by decide,
    ⟨rfl, rfl, by decide +kernel, by decide +kernel⟩, ⟨rfl, rfl, by decide, by decide⟩, by decide, by decide, by decide⟩

/-- The watch check passes without a guard, and with one of either mode. -/
theorem witness_PassesWatchCheck :
    PassesWatchCheck oneCue (from_ 6) ∧ PassesWatchCheck oneWatch (guardedBy 7 255 0) ∧
      PassesWatchCheck oneWatch (guardedBy 7 255 1) := by
  have hw : oneWatch.watches.slots[(7 : Fin 8)] = { gen := 255, entry := some { client := 1, zone := 15 } } := by
    decide +kernel
  have h (mode : Byte) (hm : mode.toNat ≤ 1) : PassesWatchCheck oneWatch (guardedBy 7 255 mode) := by
    intro g hg
    obtain rfl := Option.some.inj hg
    exact ⟨hm, 7, _, hw, rfl, rfl⟩
  exact ⟨fun _ hg => (nomatch hg), h 0 (by decide), h 1 (by decide)⟩

/-- R2, R14: the generation and the slot field of a handle are tested, and a free slot is NOT_FOUND. -/
theorem test_handles_not_found :
    (let status (c : Instr) : Bool := after c oneCue fun t => t.reply.status == .notFound && t.cues == oneCue.cues
     status (.modifyCue (from_ 1) 0xBFFE 1 raw) && status (.modifyCue (from_ 1) 0xC000 1 raw) &&
       status (.retireCue host 0xBC00 9) && status (.refreshCue (from_ 1) 0xBBFF none) &&
       status (.readCue (guardedBy 7 255 0) 0xFFFF)) = true := by decide +kernel

/-- R13, R14: DENIED, then WRONG_STATE, then BAD_VALUE. -/
theorem test_owners_and_fades :
    (let status (c : Instr) (x : Cue) : Option Status :=
       match exec c (withCue 47 x State.reset) with
       | .next t => some t.reply.status
       | _ => none
     [status (.modifyCue host 0xBFFF 0x0040 raw) fadingCue, status (.refreshCue host 0xBFFF none) fadingCue,
       status (.retireCue (from_ 6) 0xBFFF 2) cue, status (.modifyCue (from_ 1) 0xBFFF 0x0040 raw) fadingCue,
       status (.refreshCue { from_ 1 with reserved := 1 } 0xBFFF none) fadingCue, status (.retireCue host 0xBFFF 2) cue,
       status (.modifyCue (from_ 1) 0xBFFF 0x0040 raw) cue]) =
      [some .denied, some .denied, some .denied, some .wrongState, some .wrongState, some .badValue,
        some .badValue] := by decide +kernel

theorem witness_RetireOwnerActsOnEveryCue : Reaches .configuring host oneCue ∧ CueInv oneCue ∧
    (7 < (8 : Byte).toNat ∧ 1 < (2 : Byte).toNat) := ⟨host_reaches _ _ rfl rfl, by decide +kernel, by decide⟩

/-- The same watch held by client 0. -/
def hostWatch : State :=
  oneCue.setWatches { slots := oneCue.watches.slots.set 7 { gen := 255, entry := some { client := 0, zone := 15 } }
                      order := [7] }

theorem witness_GuardKeepsOrConsumesTheWatch :
    Reaches .open_ (guardedBy 7 255 1) oneWatch ∧ (guardedBy 7 255 1).reserved = 0 ∧ (1 : Byte).toNat ≤ 1 ∧
      (0 : Byte).toNat ≤ 1 ∧ 1 < (2 : Byte).toNat ∧
      (∀ w : Fin 8, ∀ e ∈ oneWatch.watches.slots[w].entry,
        (8 : Byte).toNat ≠ w.val ∨ (255 : Byte) ≠ oneWatch.watches.slots[w].gen ∨ e.client ≠ 1) ∧
      (∀ w : Fin 8, ∀ e ∈ oneWatch.watches.slots[w].entry,
        (7 : Byte).toNat ≠ w.val ∨ (0 : Byte) ≠ oneWatch.watches.slots[w].gen ∨ e.client ≠ 1) ∧
      oneWatch.watches.slots[(7 : Fin 8)] = { gen := 255, entry := some { client := 1, zone := 15 } } :=
  ⟨⟨rfl, rfl, by decide, by decide⟩, rfl, by decide, by decide, by decide, by decide +kernel, by decide +kernel,
    by decide +kernel⟩

/-- What the four commands need beside the guard, of client 1 and, for PLACE_CUE, of client 0. -/
theorem witness_GuardedCommandsComplete :
    (descriptorOf { raw with layer := 2 } = some ({ stored with layer := .accent }, true) ∧
      oneWatch.cues.slots[(8 : Fin 48)].cue = none ∧
      ∀ j : Fin 48, isPurged oneWatch 1 { stored with layer := .accent } j = false) ∧
    (Names oneWatch 0xBFFF 47 cue ∧ cue.owner = (guardedBy 7 255 0).client ∧ cue.phase.isFadingOut = false ∧
      cue.desc.modified 0x003F raw = some (stored, true)) ∧
    (Reaches .open_ { guardedBy 7 255 1 with client := 0 } hostWatch ∧ Names hostWatch 0xBFFF 47 cue ∧
      hostWatch.watches.slots[(7 : Fin 8)] = { gen := 255, entry := some { client := 0, zone := 15 } } ∧
      (7 : Byte).toNat = (7 : Fin 48).val ∧ descriptorOf raw = some (stored, true)) :=
  ⟨by decide +kernel, ⟨⟨by decide +kernel, by decide +kernel⟩, rfl, rfl, by decide⟩,
    ⟨rfl, rfl, by decide, by decide⟩, ⟨by decide +kernel, by decide +kernel⟩, by decide +kernel, rfl, by decide⟩

theorem witness_CueLifecycleEvents :
    (oneCue.resetLow = false ∧ oneCue.power.state.timeRuns = true ∧ oneCue.cues.slots[(47 : Fin 48)].cue = some cue) ∧
      ((inPower .dormant oneCue).power.state = .dormant ∧ (inPower .waking oneCue).power.state = .waking) ∧
      (({ cue with phase := .fadingIn 400 } : Cue).phase = .fadingIn 400 ∧ stored.fadeIn ≤ 400) ∧
      (({ cue with remaining := some 0 } : Cue).phase.isFadingOut = false ∧ stored.fadeOut ≠ 0) ∧
      ({ stored with fadeOut := 0 } : Descriptor).fadeOut = 0 ∧
      ({ cue with phase := .fadingOut 1000 1000 0 } : Cue).phase = .fadingOut 1000 1000 0 := by decide +kernel

/-! ## Witnesses: palette, zones, watches -/

theorem witness_PaletteAndSignalsAreWritten :
    (31 : Byte).toNat = (31 : Fin 32).val ∧ (0 : Byte).toNat = (0 : Fin 32).val ∧
      (31 < (32 : Byte).toNat ∧ 1 < (2 : Byte).toNat) ∧
      (∀ r : Fin 2, State.reset.seq.runners[r].state ≠ .signalWait) ∧
      ({ host with reserved := 1 } : Header).plain = false ∧
      ({ host with guard := some { slot := 0, gen := 0, mode := 0 } } : Header).plain = false := by decide +kernel

/-- Zone 0 lists A1; zones 14 and 15 are held. -/
def zoned : State :=
  State.reset.setZones (((State.reset.zones.set 0 { Zone.reset with nodes := [⟨0, 1⟩] }).set 14
    { Zone.reset with hold := .pending }).set 15 { Zone.reset with hold := .captured [] })

theorem witness_MapZoneReplacesTheList :
    (15 : Byte).toNat = (15 : Fin 16).val ∧ State.reset.zones[(15 : Fin 16)].hold = .clear ∧
      ([⟨0, 1⟩, ⟨3, 60⟩] : List NodeRef).Nodup ∧
      (∀ n ∈ ([⟨0, 1⟩, ⟨3, 60⟩] : List NodeRef), 1 ≤ n.position ∧ n.position ≤ 60) ∧
      (∀ y : Fin 16, y ≠ 15 → ∀ n ∈ ([⟨0, 1⟩, ⟨3, 60⟩] : List NodeRef), n ∉ State.reset.zones[y].nodes) ∧
      ((0 : Fin 16) ≠ 13 ∧ zoned.zones[(13 : Fin 16)].hold = .clear ∧
        (⟨0, 1⟩ : NodeRef) ∈ zoned.zones[(0 : Fin 16)].nodes ∧
        ∀ x : Fin 16, x ≠ 13 → (⟨0, 1⟩ : NodeRef) ∈ zoned.zones[x].nodes → x = 0) := by decide +kernel

/-- The second entry of a list is the first that another zone lists. -/
theorem witness_MapZone_in_use :
    ([⟨1, 1⟩, ⟨0, 1⟩, ⟨3, 60⟩] : List NodeRef) = [⟨1, 1⟩] ++ ⟨0, 1⟩ :: [⟨3, 60⟩] ∧
      (∀ m ∈ ([⟨1, 1⟩] : List NodeRef), ∀ x : Fin 16, x ≠ 13 → m ∉ zoned.zones[x].nodes) := by decide +kernel

/-- The longest list that a zone takes: the 60 nodes of chain A and 4 of chain B. -/
def longList : List NodeRef := (List.range' 1 60).map (⟨0, ·⟩) ++ (List.range' 1 4).map (⟨1, ·⟩)

theorem witness_MapZone_64_nodes :
    longList.length = 64 ∧ longList.Nodup ∧ (∀ n ∈ longList, 1 ≤ n.position ∧ n.position ≤ 60) := by decide +kernel

/-- Each way in which R56 refuses a zone number or a list, and a list that only a held zone refuses. -/
theorem witness_MapZone_refused :
    (let bad (raw : List RawNodeRef) : Prop := 64 < raw.length ∨ ¬ raw.Nodup ∨
       ∃ n ∈ raw, 3 < n.chain.toNat ∨ n.position.toNat = 0 ∨ 60 < n.position.toNat
     15 < (16 : Byte).toNat ∧
       (bad (List.replicate 65 ⟨0, 1⟩) ∧ bad [⟨3, 60⟩, ⟨0, 1⟩, ⟨3, 60⟩] ∧ bad [⟨4, 1⟩] ∧ bad [⟨0, 0⟩] ∧ bad [⟨0, 61⟩]) ∧
       ((15 : Byte).toNat = (15 : Fin 16).val ∧ ¬ bad [⟨3, 60⟩] ∧ zoned.zones[(15 : Fin 16)].hold ≠ .clear ∧
         zoned.zones[(14 : Fin 16)].hold ≠ .clear)) := by decide +kernel

theorem witness_ZoneTrimIsReplaced :
    (15 : Byte).toNat = (15 : Fin 16).val ∧ 15 < (16 : Byte).toNat ∧
      (Reaches .open_ (from_ 6) State.reset ∧ (from_ 6).client ≠ 0) ∧
      (let s := zoned.setComposer { lit.composer with latest := lit.composer.latest.set 14 (some []) }
       s.composer.timer = some 20 ∧ s.composer.frame = none ∧ s.zones[(15 : Fin 16)].hold = .captured [] ∧
         s.zones[(14 : Fin 16)].hold = .pending ∧ s.composer.latest[(14 : Fin 16)] = some [] ∧
         s.zones[(0 : Fin 16)].nodes[0]? = some ⟨0, 1⟩) :=
  ⟨by decide, by decide, ⟨client_reaches _ rfl rfl, by decide⟩, by decide +kernel⟩

theorem witness_HoldAndReleaseZones :
    Reaches .configuring host zoned ∧ (0x8001 : BitVec 16) ≠ 0 ∧ zoned.zones[(15 : Fin 16)].hold ≠ .clear ∧
      zoned.zones[(0 : Fin 16)].hold = .clear := ⟨host_reaches _ _ rfl rfl, by decide, by decide +kernel, by decide +kernel⟩

theorem witness_ReadZoneAndWatches :
    Reaches .open_ (from_ 1) oneWatch ∧
      (oneWatch.watches.slots[(7 : Fin 8)].entry = some { client := (from_ 1).client, zone := 15 } ∧
        ∀ v : Fin 8, v < 7 → oneWatch.watches.slots[v].entry ≠ some { client := (from_ 1).client, zone := 15 }) ∧
      (oneWatch.watches.slots[(0 : Fin 8)].entry = none ∧
        (∀ v : Fin 8, v < 0 → oneWatch.watches.slots[v].entry ≠ none) ∧
        ∀ v : Fin 8, oneWatch.watches.slots[v].entry ≠ some { client := (from_ 1).client, zone := 0 }) ∧
      (let s := State.reset.setWatches
         { slots := Vector.replicate 8 { gen := 2, entry := some { client := 5, zone := 3 } }
           order := [7, 0, 3, 2, 4, 5, 6, 1] }
       (∀ v : Fin 8, s.watches.slots[v].entry ≠ none ∧
         s.watches.slots[v].entry ≠ some { client := (from_ 1).client, zone := 3 }) ∧ s.watches.order.head? = some 7) :=
  ⟨⟨rfl, rfl, by decide, by decide⟩, by decide +kernel, by decide +kernel, by decide +kernel⟩

/-- A zone with a captured frozen composite, one with a latest composite and one with none; a zone number of 16 and a watch flag of
2; a watch id beyond the table and one of another client's entry. -/
theorem witness_ReadZone_forms :
    (zoned.zones[(15 : Fin 16)].hold = .captured [] ∧ zoned.zones[(14 : Fin 16)].hold = .pending ∧
      zoned.zones[(0 : Fin 16)].hold = .clear ∧ zoned.composer.latest[(0 : Fin 16)] = none) ∧
    (15 < (16 : Byte).toNat ∧ 1 < (2 : Byte).toNat) ∧
    (∀ w : Fin 8, ∀ e ∈ oneWatch.watches.slots[w].entry, (8 : Byte).toNat = w.val → e.client ≠ 1) ∧
    ∀ w : Fin 8, ∀ e ∈ oneWatch.watches.slots[w].entry,
      (7 : Byte).toNat = w.val → (255 : Byte) = oneWatch.watches.slots[w].gen → e.client ≠ 6 := by decide +kernel

/-! ## Witnesses: composer and conditioner -/

theorem witness_OutputSettingsAreReplaced :
    ((2 : Byte).toNat = ([⟨0, 1001⟩, ⟨1, 0⟩] : List RawPoint).length ∧
        (([⟨0, 1001⟩, ⟨1, 0⟩] : List RawPoint).map (·.lux.toNat)).IsChain (· < ·)) ∧
      ¬ (([⟨5, 1⟩, ⟨5, 2⟩] : List RawPoint).map (·.lux.toNat)).IsChain (· < ·) ∧
      (([⟨0, 0⟩, ⟨1, 0⟩, ⟨2, 0⟩, ⟨3, 0⟩, ⟨4, 0⟩, ⟨5, 0⟩, ⟨6, 0⟩, ⟨65535, 0⟩] : List RawPoint).map
        (·.lux.toNat)).IsChain (· < ·) ∧
      ((1 : Byte).toNat < 2 ∧ 8 < (9 : Byte).toNat ∧ (2 : Byte).toNat ≠ ([⟨0, 0⟩, ⟨1, 0⟩, ⟨2, 0⟩] : List RawPoint).length ∧
        (List.replicate 61 (⟨0, 0⟩ : RawPoint)).length ≤ 61) ∧
      (15 : Byte).toNat = (15 : Fin 16).val ∧
      (max (-40) (min 150 (0xFFD8#16).toInt) < max (-40) (min 150 (0xFFD9#16).toInt)) ∧
      max (-40) (min 150 (151#16).toInt) ≤ max (-40) (min 150 (150#16).toInt) := by decide

/-- A header that is not plain, and a curve with a rising and a falling segment at its points and between them. -/
theorem witness_OutputSettings_refused_and_curve :
    (({ host with reserved := 1 } : Header).plain = false ∧
        Reaches .configuring { host with reserved := 1 } State.reset ∧ 15 < (16 : Byte).toNat) ∧
      (let curve : List CurvePoint := [⟨0, 150⟩, ⟨50, 300⟩, ⟨2000, 0⟩]
       (curve.map (·.lux)).IsChain (· < ·) ∧ curve = [⟨0, 150⟩] ++ ⟨50, 300⟩ :: ⟨2000, 0⟩ :: [] ∧
         curve = [⟨0, 150⟩, ⟨50, 300⟩] ++ [⟨2000, 0⟩] ∧ 50 ≤ 1999 ∧ 1999 < 2000 ∧ 0 < 300 ∧ 150 ≤ 300) :=
  ⟨⟨by decide, ⟨rfl, rfl, by decide, fun _ => rfl⟩, by decide⟩, by decide⟩

theorem witness_FrameTimerBeginsAFrame :
    lit.resetLow = false ∧ lit.composer.timer = some 20 ∧ lit.composer.frame = none ∧
      (lit.power.state = .lit → lit.power.pendingWake = false) := ⟨rfl, rfl, rfl, fun _ => rfl⟩

/-- The frame that the timer of `lit` begins. -/
theorem witness_FrameCompletion :
    ∃ t f, exec .frameTimerExpiry lit = .next t ∧ t.resetLow = false ∧ t.composer.frame = some f :=
  ⟨_, _, rfl, rfl, rfl⟩

/-- The conditions on the parts of a composition: the winner among two cues, an outgoing cue, effects at their ends, a cue of
weight 1000, a full cover, and a table whose colours and levels are in range. -/
theorem witness_DutySetIsInRange :
    (oneCue.cues.postOrder.Nodup ∧ oneCue.cues.retiring.Nodup ∧ oneCue.cues.winner 15 .theme = some 47) ∧
      ((withCue 47 { cue with phase := .fadingOut 1 100 1000 } State.reset).cues.outgoing 15 .theme = some 47) ∧
      (0 ≤ 1000 ∧ 2 ≤ 20 ∧ 20 % 2 = 0 ∧ (15 + 5) % 20 = 0 ∧ (5 + 5) % 20 = 20 / 2) ∧
      (5 < 6 ∧ 0 < 10 ∧ 10 ≤ 10 ∧ (16 * 0 + 8 ≤ 16 * 6 * 1 / 10) ∧ (16 * 6 * 1 / 10 + 16 * 1 ≤ 16 * 2 + 8) ∧
        (16 * 6 * 1 / 10 < 16 * 1 + 8 ∧ 16 * 1 + 8 < 16 * 6 * 1 / 10 + 16 * 1)) ∧
      (0 + 1 < 2 ∧ 1 + 1 = 2) ∧ cue.levelsOk = true ∧ cue.void State.reset.palette = false ∧
      ({ cue with desc := { stored with a := .palette 31 } } : Cue).void State.reset.palette = true ∧
      1000 * 4095 ≤ 4095 * 1000 := by decide +kernel

/-- The phases of the envelopes, the ends of a gate's ramps, sources with and without a colour, and a half cover. -/
theorem witness_DutySetIsInRange_envelopes :
    (({ cue with phase := .fadingIn 399 } : Cue).phase = .fadingIn 399 ∧ cue.phase = .steady ∧
        ({ cue with phase := .fadingOut 1000 1000 500 } : Cue).phase = .fadingOut 1000 1000 500 ∧ cue.gateRun = none) ∧
      (∀ opened ∈ [true, false],
        (({ cue with gateRun := some { opened := opened, start := 750, elapsed := 3 } } : Cue).gateRun.map (·.opened)) =
          some opened) ∧
      SourceGives (.direct ⟨4095, 0, 0⟩) State.reset.palette ⟨4095, 0, 0⟩ ∧
      SourceGives (.palette 31) (State.reset.palette.set 31 { colour := some ⟨0, 1, 2⟩, staged := none }) ⟨0, 1, 2⟩ ∧
      NamesUndefined (.palette 31) State.reset.palette ∧ 500 ≤ 1000 ∧
      State.reset.snapshot.zones[(3 : Fin 16)].hold = .clear ∧ zoned.snapshot.zones[(15 : Fin 16)].hold = .captured [] ∧
      oneCue.cues.slots[(47 : Fin 48)].cue = some cue :=
  ⟨by decide, by decide, .inl rfl, .inr ⟨31, rfl, by decide +kernel⟩, ⟨31, rfl, by decide +kernel⟩, by decide,
    by decide +kernel, by decide +kernel, by decide +kernel⟩

/-- White cues on zone 0: a FOUNDATION, and in the THEME layer a winner of weight 500 and an outgoing cue of weight 1. -/
def overshoot : Snapshot :=
  let base : Descriptor := { stored with a := .direct ⟨4095, 4095, 4095⟩, zones := 1, lifetime := none }
  let c (d : Descriptor) (phase : Phase) : Cue := { cue with desc := d, phase := phase }
  let slots := ((State.reset.cues.slots.set 0 { gen := 0, cue := some (c { base with layer := .foundation } .steady) }).set 8
    { gen := 0, cue := some (c { base with intensity := 500 } .steady) }).set 9
    { gen := 0, cue := some (c { base with intensity := 1 } (.fadingOut 0 100 1000)) }
  { State.reset.snapshot with
    cues := { State.reset.cues with slots := slots, postOrder := [0, 8, 9], retiring := [9] }
    zones := State.reset.zones.set 0 { Zone.reset with nodes := [⟨0, 1⟩] } }

/-- R91, log 44: a white winner of weight 500 over a white outgoing cue of weight 1 over a white FOUNDATION gives 4096. -/
theorem test_composite_above_4095 :
    (overshoot.composite 0)[0]? = some { colour := ⟨4096, 4096, 4096⟩, coverage := 1000 } := by decide +kernel

/-- Chain D of 6.8 at 50 mA: D1 at 82 °C, D2, D3 flagged OVERHEAT, D4 listed by no zone and D5 OFFLINE, with a white cue on
zone 12, which lists D1 to D3. -/
def case68 : Snapshot :=
  let base : Descriptor := { stored with a := .direct ⟨4095, 4095, 4095⟩, zones := 0x1000, lifetime := none }
  let node (state : NodeState) (temperature : Int) (overheat : Bool) : Node :=
    { Node.cleared with state := state, temperature := temperature
                        flags := { Node.cleared.flags with overheat := overheat } }
  let nodes := ((((Chain.reset.nodes.set 0 (node .online 82 false)).set 1 (node .suspect 45 false)).set 2
    (node .online 118 true)).set 3 (node .online 45 false)).set 4 (node .offline 20 false)
  { State.reset.snapshot with
    level := 1000, envelope := 1000
    cues := { State.reset.cues with
      slots := State.reset.cues.slots.set 8 { gen := 0, cue := some { cue with desc := base } }, postOrder := [8] }
    zones := State.reset.zones.set 12 { Zone.reset with nodes := [⟨3, 1⟩, ⟨3, 2⟩, ⟨3, 3⟩] }
    chains := State.reset.snapshot.chains.set 3 { state := .ring, budget := 50, nodes := nodes } }

/-- R110 to R116 by hand: H is 1000 − 280 = 720, each duty of D1 and D2 is 2948 after stage 8, S is 3537600, k is
2047500000 / 3537600 = 578, and the duties are 1703. -/
theorem test_duty_set :
    case68.thermal 3 = 720 ∧ (case68.output 3).budget = 578 ∧
      case68.dutySet 3 = [⟨1, .live 1703 1703 1703⟩, ⟨2, .live 1703 1703 1703⟩, ⟨3, .blank⟩, ⟨4, .blank⟩, ⟨5, .blank⟩] := by
  decide +kernel

theorem witness_DutySetStaysWithinBudget :
    case68.chains[(3 : Fin 4)].state = .ring ∧ 40950 * 50 < ((case68.drives 3).map (drawOf case68)).sum ∧
      (case68.allRecords.map (·.node)).Nodup ∧ 50 ≤ case68.chains[(3 : Fin 4)].budget ∧
      (∀ b : Fin 16, case68.bins[b].current.1 ≤ 1000 ∧ case68.bins[b].current.2.1 ≤ 1000 ∧
        case68.bins[b].current.2.2 ≤ 1000) ∧
      (∀ r ∈ case68.allRecords.filter fun r => r.node.chain == 0, case68.deliverable r = none) ∧
      ((State.reset.snapshot.drives 3).map (drawOf State.reset.snapshot)).sum ≤ 40950 * 50 := by decide +kernel

theorem witness_DutySetIsInRange_stages :
    (let d1 : Record := { node := ⟨3, 1⟩, colour := ⟨4095, 4095, 4095⟩ }
     d1 ∈ case68.allRecords ∧ case68.chains[(3 : Fin 4)].nodes[(0 : Fin 60)].burns ∧ (case68.drive d1).isSome = true) ∧
      (∀ j : Fin 60, case68.chains[(3 : Fin 4)].nodes[j].burns →
        case68.chains[(3 : Fin 4)].nodes[j].temperature ≤ case68.chains[(3 : Fin 4)].nodes[(0 : Fin 60)].temperature) ∧
      (case68.knee < 82 ∧ 82 < case68.limit ∧ case68.knee < case68.limit) ∧
      (¬ case68.chains[(3 : Fin 4)].nodes[(2 : Fin 60)].burns ∧
        case68.chains[(3 : Fin 4)].nodes[(2 : Fin 60)].flags.overheat = true) ∧
      (∀ r ∈ case68.allRecords, r.node ≠ ⟨3, 4⟩) ∧ case68.chains[(3 : Fin 4)].nodes[(4 : Fin 60)].state = .offline ∧
      (∀ k : Fin 60, ¬ State.reset.snapshot.chains[(0 : Fin 4)].nodes[k].burns) ∧
      4095 < rowValue (2047, 2047, -2048) ⟨4095, 4095, 0⟩ ∧ rowValue (-2048, 0, 0) ⟨4095, 0, 0⟩ = 0 := by
  unfold Node.burns
  decide +kernel

theorem witness_FrameCompletion_factors :
    (let s := lit.setCond { lit.cond with perChain := Vector.replicate 4 { thermal := 999, budget := 0, estimate := 0 } }
     s.resetLow = false ∧ s.notices.list.length ≤ 8 ∧
       ∀ i : Fin 4, s.cond.perChain[i].thermal ≠ 1000 ∧ s.cond.perChain[i].budget ≠ 1000) ∧
    (let s := setC 3 (chainIn (.ring none) 60) lit
     s.chains[(3 : Fin 4)].snapshot.state = .ring ∧ State.reset.chains[(0 : Fin 4)].snapshot.state ≠ .ring) := by
  decide +kernel

/-! ## Witnesses: chains -/

/-- A mask that names every field, with every value beyond its range. -/
def everything : RawChainConfig :=
  { mask := 0x7F, enabled := 1, expected := 61, ratePolicy := 1, rejoin := 2, retryLimit := 13, budget := 49,
    restoreInterval := 5001 }

/-- Chain D is SPLIT between reaches 60 and 0, with its restore timer running. -/
def splitD (phase : SplitPhase) (restore : RestoreTimer) (o n : Nat) : State :=
  setC 3 { chainIn (.split { outReach := o, inReach := n, phase := phase, restore := restore }) 60 with
    mailbox := some [{ position := 1, duty := .live 4095 0 0 }, { position := 60, duty := .blank }] } lit

theorem witness_ConfigureChainReplacesNamedFields :
    Reaches .configuring host (splitD .restoreProbe (.running 250) 60 0) ∧ (3 : Byte).toNat = (3 : Fin 4).val ∧
      everything.mask.getLsbD 7 = false ∧ boolOf everything.enabled = some true ∧
      ratePolicyOf everything.ratePolicy = some .slowOnly ∧ rejoinOf everything.rejoin = some .halt ∧
      (splitD .restoreProbe (.running 250) 60 0).chains[(3 : Fin 4)].mode ≠ .off ∧
      State.reset.chains[(3 : Fin 4)].mode = .off ∧ min 60 everything.expected.toNat ≠ 0 ∧
      ({ everything with mask := 0x78 } : RawChainConfig).mask.getLsbD 0 = false ∧
      (splitD .restoreProbe (.running 250) 60 0).chains[(3 : Fin 4)].rejoin = .auto :=
  ⟨host_reaches _ _ rfl rfl, rfl, by decide, by decide, by decide, by decide, by decide +kernel, by decide +kernel,
    by decide, by decide, by decide +kernel⟩

/-- Chain D in SPLIT under HALT, which a change to AUTO concerns. -/
theorem witness_ConfigureChain_to_auto :
    (setC 3 { chainIn (.split { outReach := 1, inReach := 1, phase := .restoreProbe, restore := .stopped }) 60 with
      rejoin := .halt } lit).chains[(3 : Fin 4)].rejoin ≠ .auto := by decide +kernel

/-- A chain code of 4, the mask bit that names no field, each code that names no value, and a chain left enabled with an expected
count of 0. -/
theorem witness_ConfigureChain_refused :
    3 < (4 : Byte).toNat ∧ ({ everything with mask := 0x80 } : RawChainConfig).mask.getLsbD 7 = true ∧
      (everything.mask.getLsbD 0 = true ∧ 1 < (2 : Byte).toNat) ∧ (everything.mask.getLsbD 2 = true ∧ 1 < (2 : Byte).toNat) ∧
      (everything.mask.getLsbD 3 = true ∧ 2 < (3 : Byte).toNat) ∧
      (State.reset.chains[(3 : Fin 4)].mode = .off ∧ State.reset.chains[(3 : Fin 4)].expected = 0 ∧
        (0x01 : Byte).getLsbD 0 = true ∧ (0x01 : Byte).getLsbD 1 = false ∧ (1 : Byte).toNat = 1) := by decide +kernel

/-- A chain code of 4, an expected count of 0 in LIT, and positions 0 and 61. -/
theorem witness_ChainCommands_refused :
    3 < (4 : Byte).toNat ∧ (lit.power.state = .lit ∧ lit.chains[(0 : Fin 4)].expected = 0 ∧
      lit.chains[(0 : Fin 4)].mode = .off) ∧ (0 : Byte).toNat = 0 ∧ 60 < (61 : Byte).toNat := by decide +kernel

theorem witness_StartStopAndRestartChain :
    Reaches .configuring host (setC 3 (chainIn .off 0) lit) ∧ (setC 3 (chainIn .off 0) lit).power.state = .lit ∧
      (setC 3 (chainIn .off 0) lit).chains[(3 : Fin 4)].mode = .off ∧
      (setC 3 (chainIn .off 0) lit).chains[(3 : Fin 4)].expected ≠ 0 ∧
      (setC 3 (chainIn .failed 60) lit).chains[(3 : Fin 4)].mode ≠ .off ∧
      (setC 3 (chainIn .failed 60) lit).chains[(3 : Fin 4)].expected ≠ 0 ∧ State.reset.power.state ≠ .lit :=
  ⟨host_reaches _ _ rfl rfl, rfl, by decide +kernel, by decide +kernel, by decide +kernel, by decide +kernel, by decide⟩

/-- Chain D in RING under MANUAL, with node 60 OFFLINE. -/
def manual : State :=
  setC 3 { chainIn (.ring none) 60 with
    rejoin := .manual, nodes := Chain.reset.nodes.set 59 { Node.cleared with state := .offline } } lit

theorem witness_RejoinNodeAndReadChain :
    (60 : Byte).toNat = (59 : Fin 60).val + 1 ∧ manual.chains[(3 : Fin 4)].mode.state = .ring ∧
      manual.chains[(3 : Fin 4)].rejoin = .manual ∧ manual.chains[(3 : Fin 4)].nodes[(59 : Fin 60)].state = .offline ∧
      State.reset.chains[(3 : Fin 4)].rejoin ≠ .manual := by decide +kernel

theorem witness_CountAtAStart :
    (setC 3 (chainIn (.counting 2) 0) lit).resetLow = false ∧
      (setC 3 (chainIn (.counting 2) 0) lit).chains[(3 : Fin 4)].mode = .counting 2 ∧
      lit.notices.list.length ≤ 8 ∧ (1 ≤ 60 ∧ 60 ≤ 60) ∧
      (setC 3 (chainIn (.counting 2) 0) lit).chains[(3 : Fin 4)].rate = .fast ∧ 1 < 2 ∧
      (setC 3 (chainIn (.counting 2) 0) lit).chains[(3 : Fin 4)].expected = 3 := by decide +kernel

/-- The third lost COUNT at SLOW, an unclean COUNT, an empty loop and one of too many nodes, outside POWERING. -/
theorem witness_CountAtAStart_ends :
    (let s (rejoin : Rejoin) := setC 3 { chainIn (.counting 2) 0 with rate := .slow, rejoin := rejoin } lit
     (∀ r : Rejoin, (s r).chains[(3 : Fin 4)].mode = .counting 2 ∧ (s r).chains[(3 : Fin 4)].rate = .slow ∧
       (s r).chains[(3 : Fin 4)].rejoin = r) ∧ Rejoin.manual ≠ .halt ∧ lit.power.state ≠ .powering ∧ (61 ≤ 61 ∧ 254 ≤ 254) ∧
       frameClean { countFrame .out 0 5 with slots := [0] } .count .out 1 = true ∧ slotHolds 1 = false) := by
  refine ⟨fun r => ?_, by decide, by decide, by decide, by decide +kernel, by decide +kernel⟩
  cases r <;> decide +kernel

/-- A reply of a node of bin 15 at 10 °C to an IDENT slot. -/
def identReply : BitVec 48 := slotOf ((50#8 ++ 0#9) ++ (15#4 ++ 0#19))

theorem witness_IdentAtAStart :
    (setC 3 (chainIn (.identifying 3 2 [3]) 3) lit).chains[(3 : Fin 4)].mode = .identifying 3 2 [3] ∧ 2 < 3 ∧
      (∀ p ∈ [3], 1 ≤ p ∧ p ≤ (setC 3 (chainIn (.identifying 3 2 [3]) 3) lit).chains[(3 : Fin 4)].found) ∧
      frameClean { identFrame .out 9 3 with slots := List.replicate 3 identReply } .ident .out 3 = true ∧
      (List.replicate 3 identReply).all goodIdentReply = true ∧ lit.power.state ≠ .powering ∧
      (setC 3 (chainIn (.identifying 2 1 [3]) 3) lit).chains[(3 : Fin 4)].mode = .identifying 2 1 [3] := by
  decide +kernel

/-- An IDENT that leaves node 3 unread, as the second and as the third, three lost ones, and the third lost after a clean one.
-/
theorem witness_IdentAtAStart_unread :
    (let s (sent lost : Nat) (rejoin : Rejoin) :=
       setC 3 { chainIn (.identifying sent lost [1, 3]) 3 with rejoin := rejoin } lit
     let f : RingFrame := { identFrame .out 9 3 with slots := [identReply, identReply, identSlot] }
     (s 2 0 .auto).chains[(3 : Fin 4)].mode = .identifying 2 0 [1, 3] ∧ frameClean f .ident .out 3 = true ∧
       unreadAfter [1, 3] f = [3] ∧ frameClean { f with header := 0 } .ident .out 3 = false ∧
       (s 3 2 .halt).chains[(3 : Fin 4)].mode = .identifying 3 2 [1, 3] ∧ (s 3 2 .halt).chains[(3 : Fin 4)].rejoin = .halt ∧
       (s 3 1 .manual).chains[(3 : Fin 4)].mode = .identifying 3 1 [1, 3] ∧
       (s 3 1 .manual).chains[(3 : Fin 4)].rejoin ≠ .halt ∧ lit.power.state ≠ .powering ∧ lit.notices.list.length ≤ 8) := by
  decide +kernel

/-- The header of a COUNT from IN by hand, a frame that is clean and one whose header check fails. -/
theorem witness_ChainFormats :
    (60 ≤ 60 ∧ (headerOf .count .inn 60 1).extractLsb' 8 16 = 0x1F01#16) ∧
      frameClean { header := headerOf .sleep .inn 60 60, slots := List.replicate 60 0 } .sleep .inn 60 = true ∧
      frameClean { header := headerOf .count .out 0 1 ^^^ 1, slots := [0] } .count .out 1 = false := by decide

/-- Chain D, which expects 3 nodes, counts an empty loop in POWERING, and is the last that is awaited. -/
def lastOne : State :=
  setC 3 (chainIn (.counting 2) 0)
    (State.reset.setPower { State.reset.power with state := .powering, awaited := 8, cause := some .wake })

theorem witness_LastArrivalEntersLit :
    lastOne.resetLow = false ∧ lastOne.chains[(3 : Fin 4)].mode = .counting 2 ∧
      lastOne.chains[(3 : Fin 4)].expected ≠ 0 ∧ lastOne.power.state = .powering ∧
      lastOne.power.awaited.getLsbD (3 : Fin 4) = true ∧
      lastOne.power.awaited = BitVec.twoPow 4 (3 : Fin 4) ∧ lastOne.power.cause = some .wake ∧
      lastOne.power.pendingWake = false ∧ lastOne.notices.list.length ≤ 8 ∧
      ((8 ||| 1 : BitVec 4).getLsbD (3 : Fin 4) = true ∧ (8 ||| 1 : BitVec 4) ≠ BitVec.twoPow 4 (3 : Fin 4)) := by
  decide +kernel

/-- Chain D arrives in FAILED, through its IDENT, and through the IDENT of its last side. -/
theorem witness_Arrivals :
    (let failing := setC 3 { chainIn (.counting 2) 0 with rate := .slow, rejoin := .halt } lastOne
     failing.chains[(3 : Fin 4)].mode = .counting 2 ∧ failing.chains[(3 : Fin 4)].rate = .slow ∧
       failing.chains[(3 : Fin 4)].rejoin = .halt) ∧
    (let identified := setC 3 (chainIn (.identifying 3 2 [3]) 3) lastOne
     identified.chains[(3 : Fin 4)].mode = .identifying 3 2 [3] ∧ identified.power = lastOne.power ∧
       frameClean { identFrame .out 9 3 with slots := List.replicate 3 identReply } .ident .out 3 = true) ∧
    (let x : Split := { outReach := 1, inReach := 2, phase := .identifying .inn 3 2 [60], restore := .stopped }
     (setC 3 (chainIn (.split x) 60) lastOne).chains[(3 : Fin 4)].mode = .split x ∧ 1 + 2 ≤ 60 ∧
       (60 - 2 + 1 ≤ 60 ∧ 60 < 60 - 2 + 1 + 2) ∧
       frameClean { identFrame .inn 9 2 with slots := List.replicate 2 identReply } .ident .inn 2 = true ∧
       (List.replicate 2 identReply).all goodIdentReply = true) := by decide +kernel

/-- A reply of node 60 at 84 °C with no flag to a LIVE slot. -/
def liveSlot : BitVec 48 := dutySlot (.live 4095 0 0)
def dutyReply : BitVec 48 := slotOf (((124#8 ++ 0#4) ++ (0#1 ++ liveSlot.extractLsb' 0 8)) ++ 0#19)

/-- Chain D in RING with a DUTY frame of one slot on the loop, after `lost` losses in a row. -/
def ringD (lost : Nat) (rejoin : Rejoin) : State :=
  setC 3 { chainIn (.ring (some { set := [], slots := [{ position := 60, bits := liveSlot }] })) 60 with
    runOut := lost, rejoin := rejoin, nodes := Chain.reset.nodes.set 59 { Node.cleared with state := .suspect } } lit

theorem witness_DutyFramesInRing :
    ((setC 3 { chainIn (.ring none) 60 with mailbox := some [] } lit).chains[(3 : Fin 4)].mode = .ring none ∧
        (setC 3 { chainIn (.ring none) 60 with mailbox := some [] } lit).chains[(3 : Fin 4)].mailbox = some []) ∧
      ((ringD 3 .auto).chains[(3 : Fin 4)].mode =
          .ring (some { set := [], slots := [{ position := 60, bits := liveSlot }] }) ∧
        frameClean { dutyFrame .out 60 [{ position := 60, bits := liveSlot }] with slots := [dutyReply] } .duty .out 1 =
          true ∧
        goodDutyReply liveSlot dutyReply = true ∧ 60 = (59 : Fin 60).val + 1 ∧
        (ringD 3 .auto).chains[(3 : Fin 4)].nodes[(59 : Fin 60)].state = .suspect ∧
        dutyReply.extractLsb' 36 4 = 0 ∧ slotTemperature dutyReply < 125) ∧
      (ringD 2 .auto).chains[(3 : Fin 4)].runOut + 1 ≤ (ringD 2 .auto).chains[(3 : Fin 4)].retryLimit ∧
      ((ringD 3 .auto).chains[(3 : Fin 4)].retryLimit < (ringD 3 .auto).chains[(3 : Fin 4)].runOut + 1 ∧
        (ringD 3 .auto).chains[(3 : Fin 4)].rejoin ≠ .halt) ∧
      (ringD 3 .halt).chains[(3 : Fin 4)].rejoin = .halt := by decide +kernel

/-- A reply of node 60 at 125 °C with OPEN_RED and SHORT to a LIVE slot. -/
def faultReply : BitVec 48 := slotOf (((165#8 ++ 9#4) ++ (0#1 ++ liveSlot.extractLsb' 0 8)) ++ 0#19)

/-- The flags that a good reply newly sets, in RING and in the half of the IN side. -/
theorem witness_RepliesWithFlags :
    (goodDutyReply liveSlot faultReply = true ∧ slotTemperature faultReply = 125 ∧
      flagsAfter Node.cleared.flags faultReply =
        { openRed := true, openGreen := false, openBlue := false, short := true, overheat := true } ∧
      frameClean { dutyFrame .out 60 [⟨60, liveSlot⟩] with slots := [faultReply] } .duty .out 1 = true ∧
      frameClean { dutyFrame .inn 59 [⟨60, liveSlot⟩] with slots := [faultReply] } .duty .inn 1 = true ∧
      (ringD 3 .auto).chains[(3 : Fin 4)].nodes[(59 : Fin 60)].state = .suspect ∧ lit.notices.list.length ≤ 8) := by
  decide +kernel

/-- The three faults of one reply merge into one notice, whose detail is OVERHEAT (R134, R193). -/
theorem test_faults_merge :
    after (.dutyReturned 3 .out { dutyFrame .out 60 [⟨60, liveSlot⟩] with slots := [faultReply] }) (ringD 3 .auto)
      (fun t => t.notices.list.getLast? == some { kind := .nodeFault, subject := .node { chain := 3, position := 60 }
                                                  detail := .node .overheat, count := 3 }) = true := by decide +kernel

/-- Chain D in RING with two slots on the loop, for its nodes 1 and 60, which are SUSPECT. -/
def ringTwo : State :=
  setC 3 { chainIn (.ring (some { set := [], slots := [{ position := 1, bits := liveSlot },
                                                       { position := 60, bits := liveSlot }] })) 60 with
    nodes := Vector.replicate 60 { Node.cleared with state := .suspect } } lit

/-- Node 60 of chain D in a state, with its bad replies and its good run, and one slot of it on the loop. -/
def nodeD (state : NodeState) (badReplies goodRun : Nat) (rejoin : Rejoin) : State :=
  setC 3 { (ringD 0 rejoin).chains[(3 : Fin 4)] with
    nodes := Chain.reset.nodes.set 59 { Node.cleared with state := state, badReplies := badReplies, goodRun := goodRun } } lit

theorem witness_DutyFramesInRing_replies :
    ((ringTwo.chains[(3 : Fin 4)].nodes[(0 : Fin 60)].state = .suspect ∧
        ringTwo.chains[(3 : Fin 4)].nodes[(59 : Fin 60)].state = .suspect) ∧
      frameClean { dutyFrame .out 0 [⟨1, liveSlot⟩, ⟨60, liveSlot⟩] with slots := [dutyReply, dutyReply] } .duty .out 2 =
        true) ∧
    ((nodeD .offline 13 2 .auto).chains[(3 : Fin 4)].nodes[(59 : Fin 60)].state = .offline ∧
      (nodeD .offline 13 255 .manual).chains[(3 : Fin 4)].rejoin ≠ .auto) ∧
    (goodDutyReply liveSlot liveSlot = false ∧
      frameClean { dutyFrame .out 0 [⟨60, liveSlot⟩] with slots := [liveSlot] } .duty .out 1 = true ∧
      (nodeD .online 2 0 .auto).chains[(3 : Fin 4)].nodes[(59 : Fin 60)].state = .online ∧
      2 + 1 ≤ (nodeD .online 2 0 .auto).chains[(3 : Fin 4)].retryLimit ∧
      (nodeD .suspect 3 0 .auto).chains[(3 : Fin 4)].retryLimit < 3 + 1 ∧
      (nodeD .suspect 3 0 .auto).chains[(3 : Fin 4)].rejoin ≠ .halt ∧
      (nodeD .suspect 3 0 .halt).chains[(3 : Fin 4)].rejoin = .halt ∧ lit.power.state ≠ .powering ∧
      lit.notices.list.length ≤ 8) := by decide +kernel

/-- A DUTY frame in RING that comes back with a bad header check. -/
theorem witness_DutyFrame_unclean :
    (ringD 3 .auto).chains[(3 : Fin 4)].mode = .ring (some { set := [], slots := [{ position := 60, bits := liveSlot }] }) ∧
      frameClean { (dutyFrame .out 60 [⟨60, liveSlot⟩]) with header := 0 } .duty .out 1 = false := by decide +kernel

theorem witness_ProbesOfALocate :
    (setC 3 (chainIn (.locating .whole true true) 60) lit).chains[(3 : Fin 4)].mode = .locating .whole true true ∧
      (setC 3 (chainIn (.locating .whole false false) 60) lit).chains[(3 : Fin 4)].mode =
        .locating .whole false false ∧
      ((setC 3 (chainIn (.locating (.fromOut 59) true true) 60) lit).chains[(3 : Fin 4)].mode =
        .locating (.fromOut 59) true true ∧ 1 ≤ 59 ∧ 59 < 60) ∧
      (setC 3 (chainIn (.locating (.fromOut 1) true true) 60) lit).chains[(3 : Fin 4)].mode =
        .locating (.fromOut 1) true true ∧
      (∀ second : Fin 2, (setC 3 (chainIn (.locating .whole (second == 1) true) 60) lit).chains[(3 : Fin 4)].mode =
        .locating .whole (second == 1) true) ∧
      (setC 3 (chainIn (.locating (.fromOut 60) false true) 60) lit).chains[(3 : Fin 4)].mode =
        .locating (.fromOut 60) false true ∧
      (setC 3 (chainIn (.locating (.fromIn 59 59) false true) 60) lit).chains[(3 : Fin 4)].mode =
        .locating (.fromIn 59 59) false true ∧
      (setC 3 (chainIn (.locating (.fromIn 0 1) true true) 60) lit).chains[(3 : Fin 4)].mode =
        .locating (.fromIn 0 1) true true ∧ 0 + (1 - 1) = 0 ∧
      ((setC 3 (chainIn (.locating (.fromIn 60 2) true true) 60) lit).chains[(3 : Fin 4)].mode =
        .locating (.fromIn 60 2) true true ∧ 60 < 60 + (2 - 1)) ∧
      lit.power.state ≠ .powering ∧ lit.notices.list.length ≤ 8 := by decide +kernel

/-- Hop count 60 is returned from IN with a node reached from OUT; and a probe with a bad header check. -/
theorem witness_ProbesOfALocate_last :
    (setC 3 (chainIn (.locating (.fromIn 1 60) true false) 60) lit).chains[(3 : Fin 4)].mode =
        .locating (.fromIn 1 60) true false ∧ 0 < 1 ∧
      frameClean { probeFrame .inn 0 with header := 0 } .probe .inn 0 = false := by decide +kernel

/-- Chain D has been reached at 20 nodes from OUT and 40 from IN, and was enumerated. -/
def located : State := setC 3 { chainIn (.locating (.fromIn 20 41) true true) 60 with ringDone := true } lit

/-- The last probe, lost and returned, of a LOCATE whose reaches fit the found count of an enumerated chain. -/
theorem witness_LocateEntersSplit :
    (located.resetLow = false ∧ LastProbe 3 20 40 true (.probeLost 3 .inn) located ∧ 0 < 20 + 40 ∧
      20 + 40 ≤ located.chains[(3 : Fin 4)].found ∧ located.chains[(3 : Fin 4)].found ≤ 60 ∧
      located.chains[(3 : Fin 4)].ringDone = true ∧ located.power.state ≠ .powering ∧ located.notices.list.length ≤ 8) ∧
    (let s := setC 3 { chainIn (.locating (.fromIn 0 60) false true) 60 with ringDone := true } lit
     LastProbe 3 0 60 true (.probeReturned 3 .inn (probeFrame .inn 0)) s ∧ 0 + 60 ≤ s.chains[(3 : Fin 4)].found ∧
       s.chains[(3 : Fin 4)].ringDone = true) :=
  ⟨⟨rfl, .inl ⟨rfl, by decide +kernel⟩, by decide, by decide +kernel, by decide +kernel, by decide +kernel,
    by decide +kernel, by decide +kernel⟩, .inr ⟨rfl, rfl, false, by decide +kernel⟩, by decide +kernel, by decide +kernel⟩

/-- Reaches of 1 and 2 of a chain that was never enumerated fit its expected count of 3; reaches of 1 and 3 exceed it, and exceed
the found count of 3 of a chain that was. -/
theorem witness_LocateEntersSplit_by_reference :
    (let s (hop : Nat) (done : Bool) := setC 3 { chainIn (.locating (.fromIn 1 hop) true done) 3 with ringDone := done } lit
     LastProbe 3 1 2 false (.probeLost 3 .inn) (s 3 false) ∧ LastProbe 3 1 3 false (.probeLost 3 .inn) (s 4 false) ∧
       LastProbe 3 1 3 true (.probeLost 3 .inn) (s 4 true) ∧ 1 + 2 ≤ (s 3 false).chains[(3 : Fin 4)].expected ∧
       (s 4 false).chains[(3 : Fin 4)].expected < 1 + 3 ∧ (s 4 true).chains[(3 : Fin 4)].found < 1 + 3 ∧
       (s 3 false).chains[(3 : Fin 4)].ringDone = false ∧ (s 4 true).chains[(3 : Fin 4)].ringDone = true) :=
  ⟨.inl ⟨rfl, by decide +kernel⟩, .inl ⟨rfl, by decide +kernel⟩, .inl ⟨rfl, by decide +kernel⟩, by decide +kernel,
    by decide +kernel, by decide +kernel, by decide +kernel, by decide +kernel⟩

/-- The COUNT and the IDENT of a side: at each loss, with every slot good, and with node 2 left unread. -/
theorem witness_LocateEntersSplit_by_sides :
    (let s (phase : SplitPhase) := splitD phase .stopped 3 57
     let f : RingFrame := { identFrame .out 3 3 with slots := [identReply, identSlot, identReply] }
     (∀ phase ∈ [SplitPhase.counting .inn 0, .counting .inn 1, .counting .inn 2, .counting .out 2,
         .identifying .out 2 1 [2], .identifying .out 3 0 [2], .identifying .out 3 1 [2], .identifying .out 3 2 [3]],
       (s phase).chains[(3 : Fin 4)].mode = .split { outReach := 3, inReach := 57, phase := phase, restore := .stopped }) ∧
       2 < 3 ∧ 3 + 57 ≤ 60 ∧ 0 < 57 ∧
       (let x : Split := { outReach := 3, inReach := 57, phase := .restoreProbe, restore := .stopped }
        (∀ q ∈ [2, 3], q ∈ sidePositions (s x.phase).chains[(3 : Fin 4)] x .out) ∧
          unreadOfSide (sidePositions (s x.phase).chains[(3 : Fin 4)] x .out) [2] f = [2]) ∧
       frameClean f .ident .out 3 = true ∧ frameClean { f with header := 0 } .ident .out 3 = false ∧
       frameClean { countFrame .out 0 5 with slots := [countSlot 5 .out] } .count .out 1 = true ∧
       (splitD (.identifying .out 1 0 [1]) .stopped 3 0).chains[(3 : Fin 4)].found = 60 ∧
       frameClean { identFrame .out 3 3 with slots := List.replicate 3 identReply } .ident .out 3 = true ∧
       frameClean { identFrame .inn 9 57 with slots := List.replicate 57 identReply } .ident .inn 57 = true) := by
  decide +kernel

/-- The two halves on the loop, a side that is re-located, and a loss within and beyond the retry limit, at either end. -/
theorem witness_SplitSendsTwoHalves_losses :
    (let s (a b : Side) (lost : Nat) (rejoin : Rejoin) :=
       setC 3 { (splitD (.driving a b []) .stopped 1 59).chains[(3 : Fin 4)] with
         runOut := lost, runIn := lost, rejoin := rejoin } lit
     (s (.half []) (.half []) 2 .auto).chains[(3 : Fin 4)].runIn + 1 ≤
         (s (.half []) (.half []) 2 .auto).chains[(3 : Fin 4)].retryLimit ∧
       (s (.half []) .idle 3 .auto).chains[(3 : Fin 4)].retryLimit <
         (s (.half []) .idle 3 .auto).chains[(3 : Fin 4)].runOut + 1 ∧
       (s (.half []) .idle 3 .auto).chains[(3 : Fin 4)].rejoin ≠ .halt ∧
       (s (.half []) .idle 3 .halt).chains[(3 : Fin 4)].rejoin = .halt ∧
       (s .idle (.relocating 58 false) 4 .auto).chains[(3 : Fin 4)].mode =
         .split { outReach := 1, inReach := 59, phase := .driving .idle (.relocating 58 false) [], restore := .stopped } ∧
       (s .idle (.relocating 59 true) 4 .auto).chains[(3 : Fin 4)].mode =
         .split { outReach := 1, inReach := 59, phase := .driving .idle (.relocating 59 true) [], restore := .stopped } ∧
       58 < 59 ∧ 1 + 59 ≤ (s .idle (.relocating 59 true) 4 .auto).chains[(3 : Fin 4)].found ∧
       (s (.relocating 1 true) .idle 4 .auto).chains[(3 : Fin 4)].mode =
         .split { outReach := 1, inReach := 59, phase := .driving (.relocating 1 true) .idle [], restore := .stopped } ∧
       lit.power.state ≠ .powering ∧ lit.notices.list.length ≤ 8) := by decide +kernel

/-- The half of the IN side with one slot comes back answered well, and as it was sent, within and beyond the retry limit. -/
theorem witness_SplitSendsTwoHalves_replies :
    (let slot : SentSlot := { position := 60, bits := liveSlot }
     let s (limit : Nat) (rejoin : Rejoin) :=
       setC 3 { (splitD (.driving .idle (.half [slot]) []) .stopped 1 59).chains[(3 : Fin 4)] with
         retryLimit := limit, rejoin := rejoin, nodes := Chain.reset.nodes.set 59 { Node.cleared with state := .suspect } } lit
     (s 0 .halt).chains[(3 : Fin 4)].mode =
         .split { outReach := 1, inReach := 59, phase := .driving .idle (.half [slot]) [], restore := .stopped } ∧
       frameClean { dutyFrame .inn 59 [slot] with slots := [dutyReply] } .duty .inn 1 = true ∧
       frameClean { dutyFrame .inn 59 [slot] with slots := [liveSlot] } .duty .inn 1 = true ∧
       goodDutyReply liveSlot dutyReply = true ∧ dutyReply.extractLsb' 36 4 = 0 ∧ slotTemperature dutyReply < 125 ∧
       goodDutyReply liveSlot liveSlot = false ∧ slot.position = (59 : Fin 60).val + 1 ∧
       (s 0 .halt).chains[(3 : Fin 4)].nodes[(59 : Fin 60)].state = .suspect ∧
       0 + 1 ≤ (s 1 .auto).chains[(3 : Fin 4)].retryLimit ∧ (s 0 .halt).chains[(3 : Fin 4)].retryLimit < 0 + 1 ∧
       (s 0 .auto).chains[(3 : Fin 4)].rejoin ≠ .halt ∧ (s 0 .halt).chains[(3 : Fin 4)].rejoin = .halt) := by
  decide +kernel

/-- A set is taken with both sides idle, with a reach of 0, and with a side that is re-located; it waits while a half is on the
loop, from the expiry of the restore timer, and where no side can send. -/
theorem witness_SplitSendsTwoHalves :
    (∀ x ∈ [(⟨1, 59, .driving .idle .idle [], .stopped⟩ : Split), ⟨60, 0, .driving .idle .idle [], .running 1⟩,
        ⟨0, 60, .driving .idle .idle [], .stopped⟩, ⟨1, 59, .driving (.relocating 1 false) .idle [], .stopped⟩,
        ⟨1, 59, .driving .idle (.half []) [], .stopped⟩, ⟨1, 59, .driving .idle .idle [], .expired⟩,
        ⟨1, 0, .driving (.relocating 1 true) .idle [], .stopped⟩],
      (splitD x.phase x.restore x.outReach x.inReach).chains[(3 : Fin 4)].mode = .split x ∧
        (splitD x.phase x.restore x.outReach x.inReach).chains[(3 : Fin 4)].mailbox =
          some [{ position := 1, duty := .live 4095 0 0 }, { position := 60, duty := .blank }]) := by decide +kernel

/-- The last side that had a reach is re-located and reaches no node, at either end. -/
theorem witness_SplitSendsTwoHalves_no_reach :
    (∀ x ∈ [(⟨1, 0, .driving (.relocating 1 true) .idle [], .stopped⟩ : Split),
        ⟨0, 60, .driving .idle (.relocating 1 true) [], .stopped⟩],
      (splitD x.phase x.restore x.outReach x.inReach).chains[(3 : Fin 4)].mode = .split x) ∧
      1 ≤ (splitD .restoreProbe .stopped 1 0).chains[(3 : Fin 4)].found ∧
      60 ≤ (splitD .restoreProbe .stopped 0 60).chains[(3 : Fin 4)].found ∧ lit.power.state ≠ .powering ∧
      lit.notices.list.length ≤ 8 := by decide +kernel

theorem witness_RestoreReturnsToRing :
    (splitD (.driving .idle .idle []) (.running 250) 60 0).chains[(3 : Fin 4)].mode =
        .split { outReach := 60, inReach := 0, phase := .driving .idle .idle [], restore := .running 250 } ∧
      (splitD (.driving .idle .idle []) .expired 60 0).chains[(3 : Fin 4)].mode =
        .split { outReach := 60, inReach := 0, phase := .driving .idle .idle [], restore := .expired } ∧
      (splitD .restoreIdent .stopped 60 0).chains[(3 : Fin 4)].mode =
        .split { outReach := 60, inReach := 0, phase := .restoreIdent, restore := .stopped } ∧
      (∀ phase ∈ [SplitPhase.restoreProbe, .restoreCount], (splitD phase .stopped 60 0).chains[(3 : Fin 4)].mode =
        .split { outReach := 60, inReach := 0, phase := phase, restore := .stopped }) ∧
      61 ≤ 254 ∧ 61 ≠ (splitD .restoreCount .stopped 60 0).chains[(3 : Fin 4)].found ∧
      (splitD .restoreIdent .stopped 60 0).chains[(3 : Fin 4)].found ≤ 60 ∧
      frameClean { identFrame .out 0 60 with slots := List.replicate 60 identReply } .ident .out 60 = true ∧
      (List.replicate 60 identReply).all goodIdentReply = true := by decide +kernel

/-- The frames of a restore attempt that fail: a PROBE and a COUNT with a bad header check, a COUNT whose slot check fails, and an
IDENT with a bad slot. -/
theorem witness_Restore_failed_steps :
    frameClean { probeFrame .out 0 with header := 0 } .probe .out 0 = false ∧
      (frameClean { countFrame .out 0 5 with slots := [1] } .count .out 1 = true ∧ slotHolds 1 = false) ∧
      frameClean { identFrame .out 0 2 with slots := [identReply, identSlot] } .ident .out 2 = true ∧
      goodIdentReply identSlot = false ∧
      (setC 3 (chainIn (.split ⟨1, 1, .restoreIdent, .stopped⟩) 2) lit).chains[(3 : Fin 4)].found = 2 := by decide +kernel

/-! ## Witnesses: sequences -/

/-- Slot 5 with a WAIT first, then END, in a state. -/
def slotIn (state : SlotState) (s : State) : State :=
  let q : SeqSlot :=
    { state := state, rank := 7, count := 2, written := 3
      steps := ((Vector.replicate 32 none).set 0 (some (.wait 10))).set 1 (some (.finish .hold)) }
  s.setSeq { s.seq with slots := s.seq.slots.set 5 q }

/-- Runner 1 steps through slot 5, started by client 6. -/
def run1 (state : RunnerState) (index : Nat) (s : State) : State :=
  let r : Runner :=
    { Runner.idle with state := state, slot := some 5, startedBy := some (.client 6), order := some 0, index := index
                       wait := some 0 }
  s.setSeq { s.seq with runners := s.seq.runners.set 1 r }

theorem witness_TemplatesAndSequenceSlotsAreLoaded :
    (23 : Byte).toNat = (23 : Fin 24).val ∧ descriptorOf raw = some (stored, true) ∧
      (5 : Byte).toNat = (5 : Fin 6).val ∧ (∀ r, State.reset.seq.slots[(5 : Fin 6)].state ≠ .running r) ∧
      (let step : RawStep := { kind := 3, b1 := 0xFF, b2 := 0xFF, b3 := 0, b4 := 0, b5 := 0 }
       let raws := List.replicate 16 step
       (16 : Byte).toNat + raws.length ≤ 32 ∧ raws.length ≤ 16 ∧ (∀ x ∈ raws, stepReservedOk x = true) ∧
         raws.map stepOf = (List.replicate 16 (Step.wait 60000, true)).map some) ∧
      (slotIn .loading State.reset).seq.slots[(5 : Fin 6)].state = .loading ∧
      (slotIn (.running 1) State.reset).seq.slots[(5 : Fin 6)].state = .running 1 ∧
      (slotIn .ready State.reset).seq.slots[(5 : Fin 6)].state = .ready := by decide +kernel

/-- A step of each kind that is refused or has a reserved byte set, and one of each that is stored (R148). -/
theorem witness_RawSteps :
    (∀ r ∈ [(⟨7, 0, 0, 0, 0, 0⟩ : RawStep), ⟨0, 24, 0, 0, 0, 0⟩, ⟨0, 0, 8, 0, 0, 0⟩, ⟨1, 8, 0, 0, 0, 0⟩, ⟨1, 0, 2, 0, 0, 0⟩,
        ⟨2, 8, 0, 0, 0, 0⟩, ⟨4, 16, 0, 0, 0, 0⟩, ⟨4, 0, 2, 0, 0, 0⟩, ⟨4, 0, 0, 0, 0, 192⟩, ⟨4, 0, 0, 0, 0, 160⟩,
        ⟨5, 32, 1, 0, 0, 0⟩, ⟨5, 0, 0, 0, 0, 0⟩, ⟨6, 3, 0, 0, 0, 0⟩], RefusedStep r) ∧
      (∀ r ∈ [(⟨0, 0, 0, 1, 0, 0⟩ : RawStep), ⟨2, 0, 0, 0, 1, 0⟩, ⟨3, 0, 1, 0, 0, 1⟩, ⟨6, 0, 1, 0, 0, 0⟩], ReservedStep r) ∧
      ∀ r ∈ [(⟨0, 23, 7, 0, 0, 0⟩ : RawStep), ⟨1, 7, 1, 0, 0, 0⟩, ⟨2, 7, 3, 0xE9, 0, 0⟩, ⟨3, 0, 0, 0, 0, 0⟩,
        ⟨4, 15, 1, 0x17, 0x71, 159⟩, ⟨5, 31, 255, 0, 0, 0⟩, ⟨6, 2, 0, 0, 0, 0⟩], (stepOf r).isSome = true := by
  decide +kernel

/-- Numbers of no template and of no slot, a step count of 0 and of 33, a rank of 8, and a list that passes index 31. -/
theorem witness_SequenceCommands_refused :
    23 < (24 : Byte).toNat ∧ 5 < (6 : Byte).toNat ∧ (0 : Byte).toNat = 0 ∧ 32 < (33 : Byte).toNat ∧ 7 < (8 : Byte).toNat ∧
      32 < (31 : Byte).toNat + 2 := by decide

/-- Slot 5 in LOADING with these steps, all written. -/
def loaded (steps : List Step) : SeqSlot :=
  { state := .loading, rank := 0, count := 0, written := BitVec.allOnes 32
    steps := Vector.ofFn fun i : Fin 32 => steps[i.val]? }

/-- R149: a sequence that meets every condition, and for each condition one that fails it and none before it. -/
theorem test_conditions_of_finish :
    (loaded [.post 0 0, .wait 10, .repeatFrom 0 2, .finish .keep]).validate 4 = none ∧
      ({ loaded [.wait 10, .finish .keep] with written := 1 } : SeqSlot).validate 2 = some (.notWritten, 1) ∧
      (loaded [.wait 10, .wait 10]).validate 2 = some (.finalNotEnd, 1) ∧
      (loaded [.repeatFrom 0 1, .finish .keep]).validate 2 = some (.targetNotBelow, 0) ∧
      (loaded [.wait 10, .repeatFrom 0 1, .repeatFrom 0 1, .finish .keep]).validate 4 = some (.nestedRepeat, 2) ∧
      (loaded [.post 0 0, .repeatFrom 0 1, .finish .keep]).validate 3 = some (.rangeWithoutWait, 1) ∧
      (loaded [.waitSignal 0 true 10 (.goto 2), .finish .keep]).validate 2 = some (.gotoBeyond, 0) := by decide +kernel

/-- The conditions of R149 as the statement has them: every one of them fails on no index of the first sequence, and the
second breaks the first. -/
theorem witness_FinishSequence_conditions :
    (∀ fault i, i < 1 → ¬ breaksRule (loaded [.finish .keep]) 1 fault i) ∧
      breaksRule { loaded [.finish .keep] with written := 0 } 1 .notWritten 0 ∧
      ∀ other, ¬ sequenceFaults.idxOf other < sequenceFaults.idxOf SequenceFault.notWritten := by
  refine ⟨fun fault i hi => ?_, rfl, fun other => by cases other <;> decide⟩
  obtain rfl : i = 0 := by omega
  cases fault
  · exact fun h => Bool.noConfusion h
  · exact fun h => h.2 ⟨0, .finish .keep, rfl, rfl, .keep, rfl⟩
  all_goals
    rintro ⟨j, x, hj, hx, h⟩
    obtain rfl : j = 0 := Fin.ext hj
    obtain rfl : Step.finish .keep = x := Option.some.inj hx
    simp at h

theorem witness_StartSequenceTakesARunner :
    Reaches .open_ (from_ 6) (slotIn .ready lit) ∧ lit.power.state ≠ .dimming ∧
      (slotIn .ready lit).seq.slots[(5 : Fin 6)].state = .ready ∧
      (slotIn .ready lit).seq.slots[(5 : Fin 6)].steps[(0 : Fin 32)] = some (.wait 10) ∧
      (∀ (j : Fin 32) t l, (slotIn .ready lit).seq.slots[(5 : Fin 6)].steps[j] ≠ some (.post t l)) ∧
      (slotIn .ready lit).seq.runners[(0 : Fin 2)].state = .idle ∧
      (slotIn (.running 1) lit).seq.slots[(5 : Fin 6)].state = .running 1 ∧
      (slotIn .loading lit).seq.slots[(5 : Fin 6)].state = .loading ∧ (inPower .dimming lit).power.state = .dimming ∧
      (31 : Byte).toNat = (31 : Fin 32).val ∧ 5 < (6 : Byte).toNat ∧ 31 < (32 : Byte).toNat :=
  ⟨client_reaches _ rfl rfl, by decide, by decide +kernel, by decide +kernel, by decide +kernel, by decide +kernel,
    by decide +kernel, by decide +kernel, by decide, by decide, by decide, by decide⟩

/-- R152: a slot above 5 is BAD_VALUE before the test of DIMMING. -/
theorem test_slot_above_5 :
    (let bad (c : Instr) : Bool := after c (inPower .dimming lit) fun t => t.reply.status == .badValue
     bad (.startSequence (from_ 6) 6) && bad (.abortSequence (from_ 6) 6) && bad (.readSequence (from_ 6) 6 0) &&
       bad (.readSequence (from_ 6) 5 32)) = true := by decide +kernel

/-- Slot 0 holds a POST to template 0, which names zones 0 and 15, after a WAIT; zones 14 and 15 are held, and zone 15 is
watched. -/
def holding : State :=
  let q : SeqSlot := { state := .ready, rank := 1, count := 3, written := 7
                       steps := Vector.ofFn fun i : Fin 32 =>
                         [Step.wait 10, .post 0 0, .finish .keep][i.val]? }
  let s := zoned.setSeq { zoned.seq with slots := zoned.seq.slots.set 0 q
                                         templates := zoned.seq.templates.set 0 (some stored) }
  (s.setPower lit.power).setWatches oneWatch.watches

/-- Runner `r` steps through slot `k`, of this rank, as the `order`-th that was started. -/
def runs (r : Fin 2) (k : Fin 6) (rank order : Nat) (s : State) : State :=
  s.setSeq { s.seq with
    runners := s.seq.runners.set r
      { Runner.idle with state := .timedWait, slot := some k, startedBy := some .wake, order := some order, wait := some 3 }
    slots := s.seq.slots.set k { s.seq.slots[k] with state := .running r, rank := rank } }

theorem witness_StartSequence_holds_and_runner_1 :
    (holding.power.state ≠ .dimming ∧ holding.seq.slots[(0 : Fin 6)].state = .ready ∧ HasStep 0 0 (.wait 10) holding ∧
      (∀ r : Fin 2, holding.seq.runners[r].state = .idle) ∧ PostsTo 0 15 holding ∧
      holding.zones[(15 : Fin 16)].hold ≠ .clear ∧
      holding.watches.slots[(7 : Fin 8)].entry.map (·.zone) = some 15 ∧ holding.zones[(0 : Fin 16)].hold = .clear) ∧
    (runs 0 2 1 0 holding).seq.runners[(0 : Fin 2)].state ≠ .idle ∧
      (runs 0 2 1 0 holding).seq.runners[(1 : Fin 2)].state = .idle :=
  ⟨⟨by decide, by decide +kernel, ⟨0, rfl, by decide +kernel⟩, by decide +kernel,
    ⟨1, 0, 0, stored, by decide +kernel, by decide +kernel, by decide⟩, by decide +kernel, by decide +kernel,
    by decide +kernel⟩, by decide +kernel, by decide +kernel⟩

/-- Both runners are active at rank 6, runner 1 the older one, and slot 5 of rank 7 is started; then at rank 7, where it is
BUSY. -/
def bothRun (rank : Nat) : State := runs 0 2 rank 9 (runs 1 3 rank 8 (slotIn .ready lit))

theorem witness_StartSequence_preempts :
    (bothRun 6).seq.slots[(5 : Fin 6)].state = .ready ∧ HasStep 5 0 (.wait 10) (bothRun 6) ∧ CueInv (bothRun 6) ∧
      (∀ q : Fin 2, (bothRun 6).seq.runners[q].state ≠ .idle) ∧ (bothRun 6).seq.runners[(1 : Fin 2)].slot = some 3 ∧
      (bothRun 6).seq.runners[(1 : Fin 2)].order = some 8 ∧
      (bothRun 6).seq.slots[(3 : Fin 6)].rank < (bothRun 6).seq.slots[(5 : Fin 6)].rank ∧
      ((bothRun 6).seq.runners[(0 : Fin 2)].slot = some 2 ∧ (bothRun 6).seq.runners[(0 : Fin 2)].order = some 9 ∧
        (bothRun 6).seq.slots[(3 : Fin 6)].rank = (bothRun 6).seq.slots[(2 : Fin 6)].rank ∧ 8 < 9) ∧
      (bothRun 6).notices.list.length ≤ 8 ∧
      (bothRun 7).seq.slots[(5 : Fin 6)].rank ≤ (bothRun 7).seq.slots[(2 : Fin 6)].rank ∧
      (bothRun 7).seq.slots[(5 : Fin 6)].rank ≤ (bothRun 7).seq.slots[(3 : Fin 6)].rank :=
  ⟨by decide +kernel, ⟨0, rfl, by decide +kernel⟩, by decide +kernel, by decide +kernel, by decide +kernel,
    by decide +kernel, by decide +kernel, by decide +kernel, by decide, by decide +kernel, by decide +kernel⟩

/-- No POST step of slot 5 in `bothRun`, so no hold is released. -/
theorem witness_StartSequence_posts_nothing : ∀ z, ¬ PostsTo 5 z (bothRun 6) := by
  rintro z ⟨j, t, l, d, h, -, -⟩
  have key : ∀ j : Fin 32, (bothRun 6).seq.slots[(5 : Fin 6)].steps[j].all (fun x => match x with
    | .post _ _ => false
    | _ => true) = true := by decide +kernel
  have := key j
  rw [h] at this
  cases this

theorem witness_AbortSequenceStopsTheRunner :
    (run1 .timedWait 0 (slotIn (.running 1) lit)).seq.slots[(5 : Fin 6)].state = .running 1 ∧
      (run1 .timedWait 0 (slotIn (.running 1) lit)).seq.runners[(1 : Fin 2)].slot = some 5 ∧
      (run1 .timedWait 0 (slotIn (.running 1) lit)).seq.runners[(1 : Fin 2)].startedBy =
        some (.client (from_ 6).client) ∧
      (∀ j : Fin 48, (run1 .timedWait 0 (slotIn (.running 1) lit)).cues.slots[j].cue = none) ∧
      lit.notices.list.length ≤ 8 ∧ (from_ 5).client ≠ 0 ∧ (6 : BitVec 3) ≠ (from_ 5).client ∧
      (∀ r, (slotIn .ready lit).seq.slots[(5 : Fin 6)].state ≠ .running r) := by decide +kernel

/-- A run with a live cue of the runner is aborted by client 0. -/
theorem witness_AbortSequence_with_cues :
    (let s := run1 .timedWait 0 (slotIn (.running 1) (withCue 47 { cue with tag := some { runner := 1, label := 7 } } lit))
     CueInv s ∧ host.client = 0 ∧ s.notices.list.length ≤ 8 ∧ s.seq.slots[(5 : Fin 6)].state = .running 1 ∧
       s.seq.runners[(1 : Fin 2)].slot = some 5) := by decide +kernel

/-- Slot 5 with a WAIT_SIGNAL at 30 and a WAIT at 31. -/
def lateSteps : State :=
  let q : SeqSlot :=
    { state := .running 1, rank := 0, count := 32, written := 0
      steps := ((Vector.replicate 32 none).set 30 (some (.waitSignal 15 true 10 .goOn))).set 31 (some (.wait 60000)) }
  lit.setSeq { lit.seq with slots := lit.seq.slots.set 5 q }

theorem witness_RunnerWaitsEnd :
    (let s := run1 .timedWait 30 lateSteps
     s.resetLow = false ∧ s.power.state.timeRuns = true ∧ s.seq.runners[(1 : Fin 2)].slot = some 5 ∧
       s.seq.runners[(1 : Fin 2)].index = (30 : Fin 32).val ∧
       s.seq.runners[(1 : Fin 2)].wait = some 0 ∧ (31 : Fin 32).val = (30 : Fin 32).val + 1 ∧
       s.seq.slots[(5 : Fin 6)].steps[(31 : Fin 32)] = some (.wait 60000) ∧
       s.seq.runners[(1 : Fin 2)].state = .timedWait) ∧
    (let s := run1 .signalWait 30 lateSteps
     s.seq.runners[(1 : Fin 2)].state = .signalWait ∧
       s.seq.slots[(5 : Fin 6)].steps[(30 : Fin 32)] = some (.waitSignal 15 true 10 .goOn) ∧
       s.notices.list.length ≤ 8) ∧
    ((inPower .dormant State.reset).power.state = .dormant ∧ (inPower .waking State.reset).power.state = .waking) := by
  decide +kernel

/-- Runner 1 waits at index 29 of slot 5 in LIT, with this step at 30 and a WAIT at 31; its label 7 names the cue in slot 47,
and template 23 posts to an ACCENT. -/
def beforeStep (step : Step) (c : Cue) (label : Bool) (state : RunnerState) : State :=
  let signal := Step.waitSignal 15 true 10 .abort
  let steps := (((Vector.replicate 32 none).set 0 (some (.wait 9))).set 29 (some signal)).set 30 (some step)
  let q : SeqSlot := { state := .running 1, rank := 0, count := 32, written := 0, steps := steps.set 31 (some (.wait 60000)) }
  let s := withCue 47 { c with owner := 7, tag := some { runner := 1, label := 7 } } lit
  let accent : Descriptor := { stored with layer := .accent }
  let s := s.setSeq { s.seq with slots := s.seq.slots.set 5 q, templates := s.seq.templates.set 23 (some accent) }
  let s := run1 state 29 s
  let x := s.seq.runners[1]
  let labels := if label then x.labels.set 7 (some { slot := 47, gen := 1023 }) else x.labels
  s.setSeq { s.seq with runners := s.seq.runners.set 1 { x with labels := labels, posted := 0x8001 } }

/-- What is common to every step after a WAIT. -/
theorem witness_RunnerSteps (step : Step) (hs : step = .retire 7 .fade ∨ step = .retire 7 .now ∨ step = .modify 7 1000 ∨
    step = .post 23 7 ∨ step = .repeatFrom 0 255 ∨ step = .finish .keep ∨ step = .finish .hold) :
    (let s := beforeStep step cue true .timedWait
     s.resetLow = false ∧ s.power.state.timeRuns = true ∧ RunsAt 1 5 29 s ∧ s.seq.runners[(1 : Fin 2)].wait = some 0 ∧
       s.seq.runners[(1 : Fin 2)].state = .timedWait ∧ HasStep 5 30 step s ∧ HasStep 5 31 (.wait 60000) s ∧
       HasStep 5 0 (.wait 9) s ∧ CueInv s ∧ s.notices.list.length ≤ 8) := by
  have hi : CueInv (withCue 47 { cue with owner := 7, tag := some { runner := 1, label := 7 } } lit) := by decide +kernel
  rcases hs with rfl | rfl | rfl | rfl | rfl | rfl | rfl <;>
    exact ⟨rfl, rfl, ⟨by decide +kernel, by decide +kernel⟩, by decide +kernel, by decide +kernel,
      ⟨30, rfl, by decide +kernel⟩, ⟨31, rfl, by decide +kernel⟩, ⟨0, rfl, by decide +kernel⟩, hi, by decide⟩

theorem witness_RunnerSteps_labels :
    (let s := beforeStep (.retire 7 .fade) cue true .timedWait
     let c : Cue := { cue with owner := 7, tag := some { runner := 1, label := 7 } }
     s.seq.runners[(1 : Fin 2)].labels[(7 : Fin 8)] = some { slot := 47, gen := s.cues.slots[(47 : Fin 48)].gen } ∧
       s.cues.slots[(47 : Fin 48)].cue = some c ∧ c.phase.isFadingOut = false ∧ c.desc.fadeOut ≠ 0 ∧
       (beforeStep (.retire 7 .fade) cue false .timedWait).seq.runners[(1 : Fin 2)].labels[(7 : Fin 8)] = none ∧
       ((beforeStep (.retire 7 .fade) { cue with phase := .fadingOut 0 100 1000 } true .timedWait).cues.slots[
         (47 : Fin 48)].cue.any fun c => c.phase.isFadingOut) = true) ∧
    (let s := beforeStep (.post 23 7) cue true .timedWait
     s.seq.templates[(23 : Fin 24)] = some { stored with layer := .accent } ∧ s.seq.templates[(22 : Fin 24)] = none ∧
       s.cues.slots[(8 : Fin 48)].cue = none ∧ ∀ j : Fin 48, isPurged s 7 { stored with layer := .accent } j = false) ∧
    (let s := beforeStep (.repeatFrom 0 255) cue true .timedWait
     s.seq.runners[(1 : Fin 2)].loop = none ∧ 255 = 254 + 1) := by decide +kernel

/-- A WAIT_SIGNAL after the WAIT, whose signal is FALSE; a RETIRE FADE of a cue with fade-out time 0; and a MODIFY of a fading
cue. -/
theorem witness_RunnerSteps_signal :
    (let s := beforeStep (.waitSignal 15 true 10 .abort) cue true .timedWait
     RunsAt 1 5 29 s ∧ s.seq.runners[(1 : Fin 2)].wait = some 0 ∧ s.seq.runners[(1 : Fin 2)].state = .timedWait ∧
       HasStep 5 30 (.waitSignal 15 true 10 .abort) s ∧ HasStep 5 31 (.wait 60000) s ∧ s.signals.getLsbD 15 = !true ∧
       s.signals.getLsbD 15 = false) ∧
    (let s := beforeStep (.retire 7 .fade) { cue with desc := { stored with fadeOut := 0 } } true .timedWait
     HasStep 5 30 (.retire 7 .fade) s ∧
       (s.cues.slots[(47 : Fin 48)].cue.any fun c => c.desc.fadeOut == 0 && !c.phase.isFadingOut) = true) ∧
    (let s := beforeStep (.modify 7 3) { cue with phase := .fadingOut 0 100 1000 } true .timedWait
     HasStep 5 30 (.modify 7 3) s ∧ (s.cues.slots[(47 : Fin 48)].cue.any fun c => c.phase.isFadingOut) = true) :=
  ⟨⟨⟨by decide +kernel, by decide +kernel⟩, by decide +kernel, by decide +kernel, ⟨30, rfl, by decide +kernel⟩,
    ⟨31, rfl, by decide +kernel⟩, rfl, rfl⟩, ⟨⟨30, rfl, by decide +kernel⟩, by decide +kernel⟩,
    ⟨30, rfl, by decide +kernel⟩, by decide +kernel⟩

/-- Runner 1 comes to a POST of a descriptor over a cue table. -/
def posting (t : CueTable) (d : Descriptor) : State :=
  let s := (beforeStep (.post 23 7) cue true .timedWait).setCues t
  s.setSeq { s.seq with templates := s.seq.templates.set 23 (some d) }

theorem witness_RunnerPosts_step (t : CueTable) (d : Descriptor) :
    RunsAt 1 5 29 (posting t d) ∧ (posting t d).seq.runners[(1 : Fin 2)].wait = some 0 ∧
      (posting t d).seq.runners[(1 : Fin 2)].state = .timedWait ∧ HasStep 5 30 (.post 23 7) (posting t d) ∧
      HasStep 5 31 (.wait 60000) (posting t d) ∧ (posting t d).seq.templates[(23 : Fin 24)] = some d ∧
      (posting t d).notices.list.length ≤ 8 :=
  ⟨⟨rfl, rfl⟩, rfl, rfl, ⟨30, rfl, rfl⟩, ⟨31, rfl, rfl⟩, rfl,
    (by decide : lit.notices.list.length ≤ 8)⟩

/-- A POST step that purges by a fade, one that purges at once, one that evicts a fading cue, and one that finds no room. -/
theorem witness_RunnerPosts :
    (let own : Cue := { cue with owner := 7, tag := some { runner := 1, label := 7 } }
     let other : Cue := { cue with owner := 5 }
     (let s := posting (withCue 47 own lit).cues stored
      CueInv s ∧ isRunPurged s 1 stored 47 = true ∧ stored.fadeIn ≠ 0 ∧ s.cues.slots[(8 : Fin 48)].cue = none) ∧
     (let s := posting (fullTable other own).cues { stored with fadeIn := 0 }
      CueInv s ∧ isRunPurged s 1 { stored with fadeIn := 0 } 47 = true ∧
        ∀ j : Fin 48, 8 ≤ j.val → j < 47 →
          s.cues.slots[j].cue ≠ none ∧ isRunPurged s 1 { stored with fadeIn := 0 } j = false) ∧
     (let s := posting (fullTable { other with phase := .fadingOut 0 100 1000 } own).cues stored
      CueInv s ∧ (∀ j : Fin 48, 8 ≤ j.val → s.cues.slots[j].cue ≠ none) ∧
        (s.cues.retiring ++ runPurged s 1 stored).find? (fun j => decide (8 ≤ j.val)) = some 8 ∧
        s.cues.slots[(8 : Fin 48)].cue.bind (·.tag) = none) ∧
     (let s := posting (fullTable other other).cues stored
      CueInv s ∧ (∀ j : Fin 48, 8 ≤ j.val → s.cues.slots[j].cue ≠ none) ∧ runPurged s 1 stored = [] ∧
        s.cues.retiring = [] ∧ ∀ j : Fin 48, ∀ e ∈ s.cues.slots[j].cue, 8 ≤ j.val →
          ¬ (e.desc.layer.rank < stored.layer.rank ∨
            (stored.layer = e.desc.layer ∧ e.desc.priority < stored.priority)))) :=
  ⟨by decide +kernel, by decide +kernel, by decide +kernel, by decide +kernel⟩

/-- Runner 1 waits on signal 15 at index 29, which times out with ABORT or GOTO, or is released by the signal. -/
theorem witness_RunnerSignals :
    (let s := beforeStep (.wait 5) cue true .signalWait
     RunsAt 1 5 29 s ∧ s.seq.runners[(1 : Fin 2)].state = .signalWait ∧ s.seq.runners[(1 : Fin 2)].wait = some 0 ∧
       HasStep 5 29 (.waitSignal 15 true 10 .abort) s ∧ HasStep 5 30 (.wait 5) s ∧ Reaches .configuring host s ∧
       s.signals.getLsbD 15 = !true ∧ (0x8000 : BitVec 16).getLsbD 15 = true ∧
       ∀ q : Fin 2, q ≠ 1 → s.seq.runners[q].state ≠ .signalWait) :=
  ⟨⟨by decide +kernel, by decide +kernel⟩, by decide +kernel, by decide +kernel, ⟨29, rfl, by decide +kernel⟩,
    ⟨30, rfl, by decide +kernel⟩, host_reaches _ _ rfl rfl, rfl, by decide, by decide +kernel⟩

/-- Runner 1 times out at a WAIT_SIGNAL with GOTO, and a REPEAT at index 30 has no pass left. -/
theorem witness_RunnerGoto :
    (let s := run1 .signalWait 30 (beforeStep (.waitSignal 15 true 10 (.goto 0)) cue true .signalWait)
     RunsAt 1 5 30 s ∧ s.seq.runners[(1 : Fin 2)].state = .signalWait ∧
       HasStep 5 30 (.waitSignal 15 true 10 (.goto 0)) s ∧ HasStep 5 0 (.wait 9) s) ∧
    (let s := beforeStep (.repeatFrom 0 255) cue true .timedWait
     let x : Runner := { s.seq.runners[1] with loop := some { index := 29 + 1, remaining := 0 } }
     (s.setSeq { s.seq with runners := s.seq.runners.set 1 x }).seq.runners[(1 : Fin 2)].loop =
       some { index := 30, remaining := 0 }) :=
  ⟨⟨⟨by decide +kernel, by decide +kernel⟩, by decide +kernel, ⟨30, rfl, by decide +kernel⟩, ⟨0, rfl, by decide +kernel⟩⟩,
    by decide +kernel⟩

/-! ## Witnesses: power -/

/-- A part in each power state answers the conditions of the GO statements. -/
theorem witness_GoCommands :
    State.reset.resetLow = false ∧ host.client = 0 ∧ host.plain = true ∧ State.reset.notices.list.length ≤ 8 ∧
      (inPower .waking State.reset).power.state = .waking ∧ State.reset.power.state = .standby ∧
      (inPower .powering State.reset).power.state = .powering ∧ lit.power.state = .lit ∧ lit.power.fadeTime ≠ 0 ∧
      lit.power.pendingWake = false ∧ (∀ r : Fin 2, lit.seq.runners[r].state = .idle) ∧ (inPower .dimming State.reset).power.state = .dimming := by
  decide +kernel

/-- Both runners are active in LIT, with a live cue of runner 1, a power fade time above 0 and one of 0, and a dark interval that
has run out. -/
theorem witness_DimmingWithRunners :
    (let s := withCue 47 { cue with tag := some { runner := 1, label := 7 } } (bothRun 6)
     let u := s.setPower { s.power with fadeTime := 0, darkRemaining := some 0 }
     CueInv s ∧ RunnerInv s ∧ s.power.state = .lit ∧ s.power.fadeTime ≠ 0 ∧ s.resetLow = false ∧
       s.notices.list.length ≤ 8 ∧ u.power.fadeTime = 0 ∧ u.power.darkRemaining = some 0 ∧
       s.power.pendingWake = false ∧ (∀ r : Fin 2, s.seq.runners[r].state.active = true)) := by decide +kernel

theorem witness_PowerSettingsAreReplaced :
    (∀ n : Fin 8, 3 ≤ n.val → (7 : Byte).getLsbD n = false) ∧ (5 : Byte).toNat = (5 : Fin 6).val ∧
      (6 ≤ (6 : Byte).toNat ∧ (6 : Byte).toNat ≤ 254) ∧ (6 ≤ (254 : Byte).toNat ∧ (254 : Byte).toNat ≤ 254) ∧
      ∃ n : Fin 8, 3 ≤ n.val ∧ (0x08 : Byte).getLsbD n = true := by decide

theorem witness_WakeFromDormant :
    (inPower .dormant State.reset).power.state = .dormant ∧
      ((inPower .waking State.reset).power.state = .waking ∧
        (inPower .waking State.reset).power.continueIntent = false) ∧
      ((State.reset.setPower { State.reset.power with state := .waking, continueIntent := true }).power.continueIntent =
        true) ∧
      ((State.reset.setPower { State.reset.power with welcomeArm := some 5 }).power.state = .standby ∧
        (State.reset.setPower { State.reset.power with welcomeArm := some 5 }).power.welcomeArm = some 5) ∧
      (State.reset.power.state ≠ .dormant ∧ State.reset.power.welcomeArm = none) := by decide

/-- A WAKE edge with slot 5 armed in the other states. -/
theorem witness_WakeEdges :
    (let s (p : PowerState) (slot : SlotState) := slotIn slot
       (lit.setPower { lit.power with state := p, welcomeArm := some 5, dest := if p = .dimming then some .standby else none })
     (∀ p ∈ [PowerState.waking, .powering, .lit, .dimming], (s p .ready).power.welcomeArm = some 5) ∧
       (s .lit (.running 1)).seq.slots[(5 : Fin 6)].state = .running 1 ∧
       (s .lit .loading).seq.slots[(5 : Fin 6)].state = .loading ∧ (s .lit .ready).seq.slots[(5 : Fin 6)].state = .ready ∧
       (s .lit .ready).seq.slots[(5 : Fin 6)].steps[(0 : Fin 32)] = some (.wait 10) ∧
       (s .lit .ready).seq.runners[(0 : Fin 2)].state = .idle) := by decide +kernel

/-- Slot 5 is armed in DIMMING, with no runner active: READY, LOADING and EMPTY. -/
theorem witness_WakeEdges_in_dimming :
    (let s (slot : SlotState) := slotIn slot
       (lit.setPower { lit.power with state := .dimming, welcomeArm := some 5, dest := some .dormant })
     (s .ready).resetLow = false ∧ (s .ready).notices.list.length ≤ 8 ∧ (s .ready).power.state = .dimming ∧
       (s .ready).power.welcomeArm = some 5 ∧ (s .ready).seq.slots[(5 : Fin 6)].state = .ready ∧
       (s .ready).seq.slots[(5 : Fin 6)].steps[(0 : Fin 32)] = some (.wait 10) ∧
       (∀ (j : Fin 32) t l, (s .ready).seq.slots[(5 : Fin 6)].steps[j] ≠ some (.post t l)) ∧
       (∀ r : Fin 2, (s .ready).seq.runners[r].state = .idle) ∧ (s .loading).seq.slots[(5 : Fin 6)].state = .loading ∧
       (s .empty).seq.slots[(5 : Fin 6)].state = .empty) := by decide +kernel

/-- Slot 5 is armed in LIT with both runners active: `bothRun` has it of a higher rank, and of the same; and with runner 1 free.
-/
theorem witness_WakeEdges_with_runners :
    (let s (rank : Nat) := (bothRun rank).setPower { lit.power with welcomeArm := some 5 }
     (∀ rank ∈ [6, 7], (s rank).power.state = .lit ∧ (s rank).power.welcomeArm = some 5 ∧
       (s rank).seq = (bothRun rank).seq ∧ (s rank).cues = (bothRun rank).cues)) ∧
    (let s := (runs 0 2 1 0 (slotIn .ready lit)).setPower { lit.power with welcomeArm := some 5 }
     s.seq.slots[(5 : Fin 6)].state = .ready ∧ s.seq.runners[(1 : Fin 2)].state = .idle ∧
       s.seq.runners[(0 : Fin 2)].state ≠ .idle) := by decide +kernel

/-- Chain D is enabled and the supply settles. -/
def settling : State :=
  setC 3 { chainIn .off 0 with enabled := true }
    (State.reset.setPower { State.reset.power with state := .powering, settle := some 1, cause := some .command })

theorem witness_SettleExpiryStartsTheChains :
    settling.resetLow = false ∧ settling.power.state = .powering ∧ settling.power.settle = some 1 ∧
      settling.chains[(3 : Fin 4)].enabled = true := by decide +kernel

/-- No chain is enabled when the supply settles, and a READY slot is armed. -/
theorem witness_SettleExpiry_without_chains :
    (let s := slotIn .ready (State.reset.setPower
       { State.reset.power with state := .powering, settle := some 1, cause := some .wake, pendingWake := true
                                welcomeArm := some 5 })
     (∀ j : Fin 4, s.chains[j].enabled = false) ∧ s.power.cause = some .wake ∧ s.power.pendingWake = true ∧
       s.power.welcomeArm = some 5 ∧ s.seq.slots[(5 : Fin 6)].state = .ready ∧
       s.seq.slots[(5 : Fin 6)].steps[(0 : Fin 32)] = some (.wait 10) ∧ s.seq.runners[(0 : Fin 2)].state = .idle ∧
       settling.power.pendingWake = false) := by decide +kernel

theorem witness_DarkExpiryAndEndOfDimming :
    (let s := lit.setPower { lit.power with darkRemaining := some 0 }
     s.resetLow = false ∧ s.notices.list.length ≤ 8 ∧ s.power.state = .lit ∧ s.power.darkRemaining = some 0 ∧
       s.power.pendingWake = false ∧ s.power.fadeTime ≠ 0 ∧ ∀ r : Fin 2, s.seq.runners[r].state = .idle) ∧
    (let s := oneCue.setPower { State.reset.power with state := .dimming, dest := some .dormant, envStart := 1000
                                                       envElapsed := 300 }
     CueInv s ∧ s.power.state = .dimming ∧ s.power.dest = some .dormant ∧ s.power.envelope = 0 ∧
       ({ s.power with dest := some .standby } : Power).dest = some .standby) :=
  ⟨by decide +kernel, by decide +kernel⟩

/-- The part is LIT, and the wake start of its entry waits for the first snapshot. Slot 5 is READY and armed, and the dark
remaining is 0. -/
def waitingWake : State :=
  (slotIn .ready (lit.setPower { lit.power with pendingWake := true, welcomeArm := some 5
                                                darkRemaining := some 0 })).setSupplyEn true

theorem witness_waiting_wake_start :
    waitingWake.resetLow = false ∧ waitingWake.composer.timer = some 20 ∧ waitingWake.power.state = .lit ∧
      waitingWake.power.pendingWake = true ∧ waitingWake.power.darkRemaining = some 0 ∧
      waitingWake.notices.list.length ≤ 8 ∧ host.client = 0 ∧ host.plain = true ∧ PowerInv waitingWake := by
  decide +kernel

/-- The last chain arrives, or the supply settles with no chain enabled, where a wake start is pending: with a welcome armed, and
with none. -/
theorem witness_wake_start_at_the_entry :
    (let s (arm : Option (Fin 6)) := lastOne.setPower { lastOne.power with pendingWake := true, welcomeArm := arm }
     (s (some 5)).power.awaited = BitVec.twoPow 4 (3 : Fin 4) ∧ (s (some 5)).power.pendingWake = true ∧
       (s (some 5)).power.welcomeArm ≠ none ∧ (s none).power.welcomeArm = none) ∧
    (let s (arm : Option (Fin 6)) := State.reset.setPower
       { State.reset.power with state := .powering, settle := some 1, cause := some .wake, pendingWake := true
                                welcomeArm := arm }
     (s (some 0)).power.settle = some 1 ∧ (s (some 0)).power.cause = some .wake ∧
       (∀ j : Fin 4, (s (some 0)).chains[j].enabled = false) ∧ (s (some 0)).power.pendingWake = true ∧
       (s (some 0)).power.welcomeArm ≠ none ∧ (s none).power.welcomeArm = none) := by decide +kernel

theorem witness_MillisecondAdvancesCountsAndRamps :
    (inPower .dormant State.reset).power.state = .dormant ∧ (inPower .waking State.reset).power.state = .waking ∧
      oneCue.power.state.receives = true ∧ oneCue.due = false ∧ lit.power.state = .lit ∧
      lit.power.fadeTime ≠ 0 ∧ ({ lit.power with envElapsed := 300 } : Power).fadeTime ≤ 300 ∧
      ({ lit.power with fadeTime := 0 } : Power).fadeTime = 0 ∧
      ({ lit.power with state := .dimming, envStart := 1000 } : Power).envStart ≤ 1000 ∧
      (State.reset.power.state ≠ .lit ∧ State.reset.power.state ≠ .dimming) := by decide +kernel

/-! ## Single steps -/

/-- 10.1, 11.6: the frame of NOP is answered OK with its tag, and the reply before is shifted out. -/
theorem test_nop_frame :
    after (.commandFrame nopFrame .whole) State.reset (fun t => t.reply == { status := .ok, tag := 9, payload := .empty } &&
      t.sdo == { frame := some State.reset.reply, clocked := 5 }) = true := by decide +kernel

/-- R185: a corrupted bit gives BAD_CHECK with tag 0, and nine bits of a byte more BAD_LENGTH. -/
theorem test_corrupted_frames :
    (after (.commandFrame [0x00, 0x00, 0x0B, 0x00, 0x6C] .whole) State.reset fun t =>
      t.reply == { status := .badCheck, tag := 0, payload := .empty }) = true ∧
    (after (.commandFrame nopFrame .partialByte) State.reset fun t =>
      t.reply == { status := .badLength, tag := 0, payload := .empty }) = true := by decide +kernel

/-- R189: a frame during which RESET_N rises is not taken, and SDO shifts out zero bytes. -/
theorem test_reset_rises_in_a_period :
    (after (.commandFrame nopFrame .resetRose) State.reset fun t =>
      t.reply == State.reset.reply && t.sdo.bytes == [0, 0, 0, 0, 0]) = true := by decide +kernel

/-- R184: the reply of four bytes after device reset in a period of one byte and of six, with the check of three zero bytes
from a separate calculation. -/
theorem test_reply_cut_short_and_zero_bytes :
    (after (.commandFrame [0] .partialByte) State.reset fun t => t.sdo.bytes == [0]) = true ∧
      (after (.commandFrame [0, 0, 9, 0, 0, 0] .whole) State.reset fun t =>
        t.sdo.bytes == [0, 0, 0, 0x2B, 0, 0]) = true := by decide +kernel

/-- R8: a lifetime that has run out begins no fade-out in DORMANT. -/
theorem test_no_lifecycle_event_in_dormant :
    (after (.lifetimeExpiry 47) (inPower .dormant (withCue 47 { cue with remaining := some 0 } State.reset)) fun t =>
      t.cues == (withCue 47 { cue with remaining := some 0 } State.reset).cues) = true := by decide +kernel

/-- R168: a wait that has run out is not ended in WAKING. -/
theorem test_no_wait_ends_in_waking :
    (after (.waitExpiry 1) (inPower .waking (run1 .timedWait 30 lateSteps)) fun t =>
      t.seq == (run1 .timedWait 30 lateSteps).seq) = true := by decide +kernel

/-- R96: GO_DORMANT in STANDBY with a frame in flight leaves none. -/
theorem test_no_frame_in_dormant :
    (after (.goDormant host)
      (State.reset.setComposer { State.reset.composer with
        frame := some { snap := State.reset.snapshot, discarded := 0, left := 0 } }) fun t =>
      t.power.state == .dormant && t.composer.frame.isNone && t.composer.latest[(0 : Fin 16)] == some []) = true := by
  decide +kernel

/-- R96: a frame left from an earlier lit period is not in flight at the entry to LIT, here at a settle expiry with no chain
enabled. -/
theorem test_no_frame_at_the_entry_to_lit :
    (after .supplySettleExpiry
      ((State.reset.setPower { State.reset.power with state := .powering, settle := some 1, cause := some .command }).setComposer
        { State.reset.composer with frame := some { snap := State.reset.snapshot, discarded := 0, left := 0 } }) fun t =>
      t.power.state == .lit && t.composer.frame.isNone && t.composer.latest[(0 : Fin 16)].isNone &&
        t.composer.timer == some 0) = true := by decide +kernel

/-- R73, R76: a watch id that names no entry is STALE, whatever the mode byte. -/
theorem test_stale_before_the_mode :
    (after (.postCue (guardedBy 0 0 9) raw) oneWatch fun t => t.reply.status == .stale) = true := by decide +kernel

/-- R41: the reply to a SET_SIGNALS that is refused carries the sixteen values. -/
theorem test_refused_setSignals :
    (after (.setSignals { host with reserved := 1 } 0 0xFFFF) (State.reset.setSignals 0x8001) fun t =>
      t.reply == { status := .badValue, tag := 9, payload := .signals 0x8001 }) = true := by decide +kernel

/-- R104: a SET_LUX that is refused replies the curve level, the target and the current level. -/
theorem test_refused_setLux :
    (after (.setLux { host with reserved := 1 } 500) State.reset fun t =>
      t.reply == { status := .badValue, tag := 9, payload := .level 300 300 0 } && t.cond.lux == 0) = true := by
  decide +kernel

/-- The table of 1.11 in the slots that matter, with every other transient slot a STEADY THEME cue of client 3. -/
def table111 : State :=
  let c (owner : BitVec 3) (layer : Layer) (zones : BitVec 16) (phase : Phase) : Cue :=
    { cue with owner := owner, desc := { stored with layer := layer, zones := zones }, phase := phase }
  let slot (i : Nat) : CueSlot :=
    if i = 2 then { gen := 3, cue := some (c 0 .foundation 0xFFFF (.fadingOut 0 100 1000)) }
    else if i = 21 then { gen := 17, cue := some (c 4 .theme 0x0003 (.fadingOut 0 100 1000)) }
    else if i = 30 then { gen := 8, cue := some (c 2 .accent 0x0018 .steady) }
    else if i = 33 then { gen := 11, cue := some (c 2 .accent 0x0200 .steady) }
    else if 8 ≤ i then { gen := 5, cue := some (c 3 .theme 0x0400 .steady) }
    else { gen := 0, cue := none }
  State.reset.setCues { State.reset.cues with slots := Vector.ofFn fun i : Fin 48 => slot i, retiring := [2, 21]
                                              postOrder := 2 :: (List.finRange 48).drop 8 }

/-- 1.11: the posting purges slot 30, evicts slot 21 and replies (21, 18); zones 0, 1, 2 and 4 have one event, zone 3
two. -/
theorem test_posting_into_a_full_table :
    (after (.postCue (from_ 2)
        { raw with layer := 2, priority := 6, zones := 0x000C, intensity := 1000, a0 := 0, lifetime := 0 }) table111 fun t =>
      t.reply.status == .ok && t.reply.payload == .handle { slot := 21, gen := 18 } && t.cues.retiring == [2, 30] &&
        t.cues.postOrder.getLast? == some 21 &&
        (t.cues.slots[(30 : Fin 48)].cue.map (·.phase)) == some (.fadingOut 0 400 1000) &&
        (t.notices.list.map fun n => (n.kind, n.subject, n.detail)) ==
          [(.restarted, .none, .device), (.cueEvicted, .client 4, .number 21)] &&
        (t.zones.toList.map (·.count)) == [1, 1, 1, 2, 1, 0, 0, 0, 0, 0, 0, 0, 0, 0, 0, 0]) = true := by decide +kernel

/-- 4.8: client 5 reads zone 14 while the table is full: the oldest entry, in slot 1, is replaced. -/
theorem test_watch_evicts_the_oldest :
    (after (.readZone (from_ 5) 14 1)
      (State.reset.setWatches { slots := Vector.replicate 8 { gen := 2, entry := some { client := 1, zone := 3 } }
                                order := [1, 0, 3, 2, 4, 5, 6, 7] }) fun t =>
      t.watches.slots[(1 : Fin 8)] == { gen := 3, entry := some { client := 5, zone := 14 } } &&
        t.watches.order == [0, 3, 2, 4, 5, 6, 7, 1]) = true := by decide +kernel

/-- 7.8: the second loss of the probe from IN with hop count 16, with 9 nodes reached from OUT of 24. -/
theorem test_broken_door_harness :
    (after (.probeLost 0 .inn)
      (setC 0 { chainIn (.locating (.fromIn 9 16) true true) 24 with ringDone := true, retries := 45 } lit) fun t =>
      t.chains[(0 : Fin 4)].brk == some { lastOut := 9, firstIn := 10 } && t.chains[(0 : Fin 4)].switches == 1 &&
        t.chains[(0 : Fin 4)].retries == 45 && t.chains[(0 : Fin 4)].mode ==
          .split { outReach := 9, inReach := 15, phase := .driving .idle .idle [], restore := .running 1000 }) = true := by
  decide +kernel

/-- 9.10: GO_LIT 100 ms into a dimming from 500 reverses it at 167, and the envelope is 500 after 100 ms more. -/
theorem test_reversal_at_the_kerb :
    (after (.goLit host)
      (lit.setPower { lit.power with state := .dimming, dest := some .standby, envStart := 500, envElapsed := 100 })
      fun t => t.power.state == .lit && t.power.envStart == 167 && t.power.envElapsed == 0 &&
        ({ t.power with envElapsed := 100 } : Power).envelope == 500 &&
        t.reply.payload == .power .lit 167 none) = true := by decide +kernel

/-- The welcome of 8.8 in slot 1, armed, with zones 4 and 9 held and slot 0 of the Cue Table pinned. -/
def welcome : State :=
  let t0 : Descriptor := { stored with layer := .foundation, zones := 0x0230, fadeIn := 0, lifetime := none }
  let t1 : Descriptor := { stored with zones := 0x0630, a := .palette 3, lifetime := none }
  let steps := [Step.post 0 0, .wait 1200, .post 1 1, .waitSignal 2 true 30000 .goOn, .retire 0 .fade, .finish .keep]
  let q : SeqSlot := { state := .ready, rank := 3, count := 6, written := 63
                       steps := Vector.ofFn fun i : Fin 32 => steps[i.val]? }
  let s := lit.setSeq { lit.seq with templates := (lit.seq.templates.set 0 (some t0)).set 1 (some t1)
                                     slots := lit.seq.slots.set 1 q }
  let s := s.setZones ((s.zones.set 4 { Zone.reset with hold := .pending }).set 9 { Zone.reset with hold := .pending })
  (s.setPower { s.power with welcomeArm := some 1 }).setCues
    { s.cues with slots := (s.cues.slots.set 0 { gen := 1, cue := some { cue with owner := 0 } }).set 8
                             { gen := 12, cue := none }
                  postOrder := [0] }

/-- 8.8: the start of the welcome by a WAKE edge in LIT. -/
theorem test_welcome_starts :
    (after .wakeRisingEdge welcome fun t =>
      t.seq.runners[(0 : Fin 2)].state == .timedWait && t.seq.runners[(0 : Fin 2)].index == 1 &&
        t.seq.runners[(0 : Fin 2)].wait == some 1200 && t.seq.runners[(0 : Fin 2)].posted == 0x0230 &&
        t.seq.runners[(0 : Fin 2)].labels[(0 : Fin 8)] == some { slot := 8, gen := 13 } &&
        t.zones[(4 : Fin 16)].hold == .clear && t.zones[(9 : Fin 16)].hold == .clear &&
        (t.cues.slots[(8 : Fin 48)].cue.map fun c => (c.owner, c.phase, c.clock)) == some (7, .steady, 0) &&
        t.cues.postOrder == [0, 8]) = true := by decide +kernel

/-- R176: a welcome that waits for the first snapshot is not in that frame, whose holds are not yet released, and starts
after it. -/
theorem test_snapshot_before_the_welcome :
    (after .frameTimerExpiry (welcome.setPower { welcome.power with pendingWake := true }) fun t =>
      (t.composer.frame.any fun f => f.snap.cues.postOrder == [0] && f.snap.zones[(4 : Fin 16)].hold.isCaptured) &&
        t.power.pendingWake == false && t.seq.runners[(0 : Fin 2)].state == .timedWait && t.cues.postOrder == [0, 8] &&
        t.zones[(4 : Fin 16)].hold == .clear) = true := by decide +kernel

/-- R176, R177: GO_STANDBY before the first snapshot: the welcome that waits is started and aborted. -/
theorem test_dimming_before_the_first_snapshot :
    (after (.goStandby host) (welcome.setPower { welcome.power with pendingWake := true }) fun t =>
      t.power.state == .dimming && t.power.pendingWake == false && t.seq.runners[(0 : Fin 2)].state == .idle &&
        t.cues.postOrder == [0, 8] && (t.cues.slots[(8 : Fin 48)].cue.any (·.phase.isFadingOut)) &&
        (t.notices.list.getLast?.map fun n => (n.kind, n.subject, n.detail)) ==
          some (.sequenceEnd, .slot 1, .ended .power)) = true := by decide +kernel

/-- The cues of 5.8 that touch zone 3, and palette entry 3. -/
def case58 : Snapshot :=
  let base : Descriptor := { stored with zones := 0x0008, lifetime := none, fadeIn := 1000 }
  let c0 : Cue := { cue with owner := 0, desc := { base with priority := 2, a := .direct ⟨1000, 1000, 1000⟩ } }
  let c14 : Cue := { cue with desc := { base with priority := 5, a := .palette 3, intensity := 800 } }
  let c20 : Cue :=
    { cue with owner := 3, phase := .fadingIn 250, clock := 250
               desc := { base with layer := .accent, priority := 6, a := .direct ⟨0, 1200, 4000⟩
                                   effect := .pulse 2000 200 250 } }
  let c25 : Cue :=
    { cue with owner := 4, gateRun := some { opened := false, start := 0, elapsed := 0 }
               desc := { base with layer := .alert, priority := 12, a := .direct ⟨4000, 0, 0⟩
                                   gate := some { signal := 2, openWhen := true } } }
  let slots := (((State.reset.cues.slots.set 0 { gen := 0, cue := some c0 }).set 14 { gen := 0, cue := some c14 }).set 20
    { gen := 0, cue := some c20 }).set 25 { gen := 0, cue := some c25 }
  { cues := { State.reset.cues with slots := slots, postOrder := [0, 14, 20, 25] }
    palette := State.reset.palette.set 3 { colour := some ⟨3000, 1800, 600⟩, staged := none }
    zones := State.reset.zones.set 3 { Zone.reset with nodes := (List.range' 10 5).map (⟨1, ·⟩), trim := 900 }
    level := 600, envelope := 1000, bins := State.reset.cond.bins, knee := 70, limit := 100
    chains := Vector.replicate 4 { state := .ring, budget := 1200, nodes := Chain.reset.nodes } }

/-- 5.8: the composite of node B12, and the trimmed colour with which 6.7 goes on. -/
theorem test_colour_case :
    (case58.composite 3)[2]? = some { colour := ⟨2040, 1404, 1008⟩, coverage := 830 } ∧
      (case58.allRecords.find? fun r => r.node == ⟨1, 12⟩).map (·.colour) = some ⟨1836, 1263, 907⟩ := by decide +kernel

/-- R100, R116: a frame of a part with no zones gives no entry to a chain whose nodes are all ABSENT. -/
theorem test_empty_duty_set :
    (after .frameTimerExpiry (setC 0 (chainIn (.ring none) 0) lit) fun t =>
      t.composer.frame.any fun f => f.snap.dutySet 0 == []) = true := by decide +kernel

end Sys2Proof.Tests
end

/-! PROOFS. SET_ZONE_TRIM (R58), and the frame that begins after it: its snapshot of the zones (R61, R83) and stage 5 (R95). -/

namespace Sys2Proof.Machine

open Sys2Proof

/-! ## The port and the ranges -/

/-- R187: a configuring command of another client than 0 is turned away where an open one would reach its block. -/
theorem State.takeConfiguring_denied {h : Header} {s : State} (r : Reaches .open_ h s) (hc : h.client ≠ 0) (n : Nat)
    (block : State → Verdict) :
    s.takeConfiguring n h block = .next (s.turnAway (h.frameBytes n) .denied h.tag) := by
  obtain ⟨awake, receives, notSeven, -⟩ := r
  simp only [State.takeConfiguring, State.takeFrame, awake, PowerState.receives_not_dormant receives,
    PowerState.receives_not_waking receives, notSeven, ne_eq, hc, not_false_eq_true, and_self, Bool.false_eq_true,
    Bool.true_eq_false, false_and, if_true, if_false]

theorem clampMax_eq (hi x : Nat) : clampMax hi x = (min hi x, decide (hi < x)) := by
  unfold clampMax
  split
  · next above => simp [above, Nat.le_of_lt above]
  · next within => simp [within, Nat.le_of_not_lt within]

/-! ## SET_ZONE_TRIM -/

theorem exec_setZoneTrim_denied {h : Header} {s : State} (r : Reaches .open_ h s) (hc : h.client ≠ 0) (zone : Byte)
    (trim : BitVec 16) :
    exec (.setZoneTrim h zone trim) s = .next (s.turnAway (h.frameBytes 3) .denied h.tag) :=
  State.takeConfiguring_denied r hc 3 _

theorem exec_setZoneTrim_outOfRange {h : Header} {s : State} (r : Reaches .configuring h s) (hp : h.plain = true)
    {zone : Byte} (hz : 15 < zone.toNat) (trim : BitVec 16) :
    exec (.setZoneTrim h zone trim) s =
      .next ((Verdict.refuse .badValue .empty).stored s (h.frameBytes 3) h.tag) := by
  refine (State.takeConfiguring_reaches r 3 _).trans ?_
  simp only [require, hp, if_true, index?_none (n := 16) hz, requireSome]

theorem exec_setZoneTrim_zone {h : Header} {s : State} (r : Reaches .configuring h s) (hp : h.plain = true)
    {zone : Byte} {z : Fin 16} (hz : zone.toNat = z.val) (trim : BitVec 16) :
    exec (.setZoneTrim h zone trim) s =
      .next ((Verdict.accept (decide (1000 < trim.toNat)) .empty
        (s.setZones (modifyAt s.zones z fun x => { x with trim := min 1000 trim.toNat }))).stored s
          (h.frameBytes 3) h.tag) := by
  refine (State.takeConfiguring_reaches r 3 _).trans ?_
  simp only [require, hp, if_true, index?_eq z hz, requireSome, clampMax_eq]

/-! ## The zones in a snapshot (R61, R83) -/

@[simp] theorem Zone.capture_nodes (z : Zone) (latest : Option (List Comp)) : (z.capture latest).nodes = z.nodes := by
  unfold Zone.capture; split <;> rfl

@[simp] theorem Zone.capture_trim (z : Zone) (latest : Option (List Comp)) : (z.capture latest).trim = z.trim := by
  unfold Zone.capture; split <;> rfl

/-- A frozen composite that has been captured stays. -/
theorem Zone.capture_captured {z : Zone} {l : List Comp} (h : z.hold = .captured l) (latest : Option (List Comp)) :
    (z.capture latest).hold = .captured l := by
  simp [Zone.capture, h]

/-- R61: a pending hold captures the latest composite. -/
theorem Zone.capture_pending {z : Zone} (h : z.hold = .pending) (l : List Comp) :
    (z.capture (some l)).hold = .captured l := by
  simp [Zone.capture, h]

/-- What a frame reads of a zone is its record after the capture. -/
theorem State.prepareSnapshot_zone (s : State) (z : Fin 16) :
    s.prepareSnapshot.snapshot.zones[z] = s.zones[z].capture s.composer.latest[z] := by
  simp [State.prepareSnapshot, State.snapshot, State.captureHolds]

/-- R80, R82: with no frame in flight, an expiry of the frame timer begins a frame, whose snapshot is of the state as it
finds it; a wake start after it (R176) leaves the frame alone. -/
theorem exec_frameTimerExpiry_frame {s : State} (awake : s.resetLow = false) {interval : Nat}
    (timer : s.composer.timer = some interval) (idle : s.composer.frame = none) :
    ∃ u, exec .frameTimerExpiry s = .next u ∧
      u.composer.frame = some { snap := s.prepareSnapshot.snapshot, discarded := 0, left := 0 } := by
  refine ⟨s.frameExpiry, State.event_eq awake _, ?_⟩
  have begun : s.frameExpiry = s.beginFrame.makeLateWake := by
    simp [State.frameExpiry, State.completeFrame, timer, idle]
  have kept : s.beginFrame.makeLateWake.composer = s.beginFrame.composer := s.beginFrame.makeLateWake_only.field .composer
  rw [begun, kept]
  rfl

/-! ## Stage 5 (R94, R95) -/

/-- R94: the composite of a zone that is held is its frozen composite. -/
theorem Snapshot.composite_captured {f : Snapshot} {z : Fin 16} {l : List Comp} (h : f.zones[z].hold = .captured l) :
    f.composite z = l := by
  simp only [Snapshot.composite, h]

theorem Snapshot.records_length (f : Snapshot) (z : Fin 16) :
    (f.records z).length = min f.zones[z].nodes.length (f.composite z).length :=
  List.length_zipWith

/-- R95: the record of a node is its composite's colour, with each channel scaled by the trim. -/
theorem Snapshot.records_getElem? {f : Snapshot} {z : Fin 16} {n : Nat} {node : NodeRef} {c : Comp}
    (hn : f.zones[z].nodes[n]? = some node) (hc : (f.composite z)[n]? = some c) :
    (f.records z)[n]? =
      some { node := node, colour := c.colour.map fun x => x * f.zones[z].trim / 1000 } := by
  simp only [Snapshot.records, List.getElem?_zipWith, hn, hc]

/-- With no frame in flight, the frame that begins at an expiry of the frame timer has the trim that the zone holds, takes a
held zone's composite from its frozen one, and scales each node's composite by that trim (R61, R82, R94, R95). -/
theorem exec_frameTimerExpiry_trims {s : State} (awake : s.resetLow = false) {interval : Nat}
    (timer : s.composer.timer = some interval) (idle : s.composer.frame = none) (z : Fin 16) :
    ∃ u f, exec .frameTimerExpiry s = .next u ∧ u.composer.frame = some f ∧
      f.snap.zones[z].trim = s.zones[z].trim ∧
      (∀ l, s.zones[z].hold = .captured l → f.snap.composite z = l) ∧
      (∀ l, s.zones[z].hold = .pending → s.composer.latest[z] = some l → f.snap.composite z = l) ∧
      (f.snap.records z).length = min s.zones[z].nodes.length (f.snap.composite z).length ∧
      ∀ (n : Nat) (node : NodeRef) (c : Comp), s.zones[z].nodes[n]? = some node →
        (f.snap.composite z)[n]? = some c →
        (f.snap.records z)[n]? = some { node := node, colour := c.colour.map fun x => x * s.zones[z].trim / 1000 } := by
  obtain ⟨u, begins, frame⟩ := exec_frameTimerExpiry_frame awake timer idle
  have read := s.prepareSnapshot_zone z
  have nodes : s.prepareSnapshot.snapshot.zones[z].nodes = s.zones[z].nodes := by rw [read, Zone.capture_nodes]
  have trim : s.prepareSnapshot.snapshot.zones[z].trim = s.zones[z].trim := by rw [read, Zone.capture_trim]
  refine ⟨u, _, begins, frame, trim, fun l held => ?_, fun l pending latest => ?_, ?_, fun n node c hn hc => ?_⟩
  · exact Snapshot.composite_captured (read ▸ Zone.capture_captured held _)
  · refine Snapshot.composite_captured ?_
    rw [read, latest, Zone.capture_pending pending]
  · rw [Snapshot.records_length, nodes]
  · rw [Snapshot.records_getElem? (nodes ▸ hn) hc, trim]

/-! ## The obligation -/

/-- Settles O31: the frame that begins next reads the zone's new record, captured where its hold is pending. -/
theorem zoneTrimIsReplaced : Obligations.ZoneTrimIsReplaced := by
  intro h zone trim s
  refine ⟨fun r hc => ?denied, fun r hp => ⟨fun hz => ?outOfRange, fun z hz => ?zone⟩⟩
  case denied =>
    exact ⟨_, exec_setZoneTrim_denied r hc zone trim, s.turnAway_answers _ _ _, s.turnAway_only _ _ _⟩
  case outOfRange =>
    exact ⟨_, exec_setZoneTrim_outOfRange r hp hz trim, Verdict.stored_refuse s _ h _ _⟩
  case zone =>
    obtain ⟨answers, stored⟩ := Verdict.stored_accept s
      (s.setZones (modifyAt s.zones z fun x => { x with trim := min 1000 trim.toNat })) (h.frameBytes 3) h
      (decide (1000 < trim.toNat)) .empty
    refine ⟨_, exec_setZoneTrim_zone r hp hz trim, answers, getElem_modifyAt_self _ _ _,
      fun y hy => getElem_modifyAt_ne _ _ hy, ((OnlyChanges.refl _ s).then (s.setZones_only _)).then stored, ?_⟩
    intro interval timer idle
    generalize (Verdict.accept _ _ _).stored s _ _ = t at stored
    have zones : t.zones[z] = { s.zones[z] with trim := min 1000 trim.toNat } := by
      rw [show t.zones = _ from stored.field .zones]
      exact getElem_modifyAt_self _ _ _
    have composer : t.composer = s.composer := stored.field .composer
    have awake : t.resetLow = false := (stored.field .resetLow).trans r.1
    simpa only [zones, composer, Rgb.map] using
      exec_frameTimerExpiry_trims awake (composer ▸ timer) (composer ▸ idle) z

end Sys2Proof.Machine

/-! PROOFS. The current budget (R113): stages 8 and 9 of a frame, and what a duty set draws. -/

namespace Sys2Proof.Machine

open Sys2Proof

/-! ## Sums over a filtered list -/

theorem sum_map_filterMap {α β : Type} (e : α → Option β) (g : β → Nat) (l : List α) :
    ((l.filterMap e).map g).sum = (l.map fun a => (e a).elim 0 g).sum := by
  induction l with
  | nil => rfl
  | cons a l ih => cases h : e a <;> simp [h, ih]

/-! ## Stages 7 and 8: the range of a duty (R108, R110, R111) -/

theorem Rgb.le_map {p : Rgb} {n m : Nat} {φ : Nat → Nat} (h : p.le n) (bound : ∀ x ≤ n, φ x ≤ m) : (p.map φ).le m :=
  ⟨bound _ h.1, bound _ h.2.1, bound _ h.2.2⟩

theorem Rgb.gamut_le (q : Rgb) : q.gamut.le 4095 := by
  have within : q.le (max q.r (max q.g q.b)) := by unfold Rgb.le; omega
  unfold Rgb.gamut
  dsimp only
  split
  · exact Rgb.le_map within fun x hx =>
      Nat.div_le_of_le_mul (Nat.mul_le_mul_right 4095 hx)
  · next small =>
    obtain ⟨red, green, blue⟩ := within
    have top := Nat.not_lt.mp small
    exact ⟨red.trans top, green.trans top, blue.trans top⟩

theorem thermalFactor_le (knee limit : Int) (hottest : Option Int) : thermalFactor knee limit hottest ≤ 1000 := by
  unfold thermalFactor
  split
  · exact Nat.le_refl _
  · split_ifs <;> omega

/-! ## The drive of a record (R100, R111) -/

theorem placeOf_eq_some {p : Nat} {k : Fin 60} : placeOf p = some k ↔ p = k.val + 1 := by
  unfold placeOf index?
  split_ifs <;> simp [Fin.ext_iff] <;> omega

theorem Snapshot.deliverable_eq_some {f : Snapshot} {r : Record} {n : Node} (h : f.deliverable r = some n) :
    ∃ k : Fin 60, r.node.position = k.val + 1 ∧ n = f.chains[r.node.chain].nodes[k] := by
  unfold Snapshot.deliverable at h
  split at h
  · obtain ⟨found, -⟩ := Option.filter_eq_some_iff.mp h
    obtain ⟨k, place, rfl⟩ := Option.map_eq_some_iff.mp found
    exact ⟨k, placeOf_eq_some.mp place, rfl⟩
  · cases h

theorem Snapshot.drive_none {f : Snapshot} {r : Record} (h : f.deliverable r = none) : f.drive r = none := by
  rw [Snapshot.drive, h, Option.map_none]

/-- A drive stands at a place of its chain's node table, with that node's bin and duties within 0 to 4095. -/
theorem Snapshot.drive_eq_some {f : Snapshot} {r : Record} {d : Drive} (h : f.drive r = some d) :
    d.position = r.node.position ∧ d.duty.le 4095 ∧
      ∃ k : Fin 60, d.position = k.val + 1 ∧ d.bin = f.chains[r.node.chain].nodes[k].bin := by
  obtain ⟨n, deliverable, rfl⟩ := Option.map_eq_some_iff.mp h
  obtain ⟨k, position, rfl⟩ := Snapshot.deliverable_eq_some deliverable
  refine ⟨rfl, Rgb.le_map (Rgb.gamut_le _) fun x hx => ?_, k, position, rfl⟩
  exact Nat.div_le_of_le_mul ((Nat.mul_le_mul hx (thermalFactor_le _ _ _)).trans_eq (Nat.mul_comm _ _))

theorem Snapshot.mem_drives {f : Snapshot} {c : Fin 4} {d : Drive} :
    d ∈ f.drives c ↔ ∃ r ∈ f.allRecords, r.node.chain = c ∧ f.drive r = some d := by
  simp [Snapshot.drives, and_assoc]

theorem Snapshot.drives_duty_le {f : Snapshot} {c : Fin 4} {d : Drive} (h : d ∈ f.drives c) : d.duty.le 4095 := by
  obtain ⟨r, -, -, drive⟩ := Snapshot.mem_drives.mp h
  exact (Snapshot.drive_eq_some drive).2.1

theorem Snapshot.drives_place {f : Snapshot} {c : Fin 4} {d : Drive} (h : d ∈ f.drives c) :
    ∃ k : Fin 60, d.position = k.val + 1 ∧ d.bin = f.chains[c].nodes[k].bin := by
  obtain ⟨r, -, rfl, drive⟩ := Snapshot.mem_drives.mp h
  exact (Snapshot.drive_eq_some drive).2.2

/-- With no deliverable record a chain has no drive. -/
theorem Snapshot.drives_eq_nil {f : Snapshot} {c : Fin 4}
    (h : ∀ r ∈ f.allRecords.filter fun r => r.node.chain == c, f.deliverable r = none) : f.drives c = [] :=
  List.filterMap_eq_nil_iff.mpr fun r hr => Snapshot.drive_none (h r hr)

/-- Records of different nodes give a chain's drives different positions. -/
theorem Snapshot.drives_nodup {f : Snapshot} (h : (f.allRecords.map (·.node)).Nodup) (c : Fin 4) :
    ((f.drives c).map (·.position)).Nodup := by
  rw [List.Nodup, List.pairwise_map, Snapshot.drives, List.pairwise_filterMap, List.pairwise_filter]
  refine (List.pairwise_map.mp h).imp fun {r r'} differ hr hr' d drive d' drive' same => differ ?_
  rw [(Snapshot.drive_eq_some drive).1, (Snapshot.drive_eq_some drive').1] at same
  exact congrArg₂ NodeRef.mk ((beq_iff_eq.mp hr).trans (beq_iff_eq.mp hr').symm) same

/-- With records of different nodes a chain has at most 60 drives. -/
theorem Snapshot.drives_length_le {f : Snapshot} (h : (f.allRecords.map (·.node)).Nodup) (c : Fin 4) :
    (f.drives c).length ≤ 60 := by
  have positions : (f.drives c).map (·.position) ⊆ List.range' 1 60 := by
    intro p hp
    obtain ⟨d, hd, rfl⟩ := List.mem_map.mp hp
    obtain ⟨k, position, -⟩ := Snapshot.drives_place hd
    rw [List.mem_range'_1]
    omega
  simpa using (List.subperm_of_subset (Snapshot.drives_nodup h c) positions).length_le

/-! ## The budget factor (R113) -/

theorem budgetFactor_over {sum budget : Nat} (h : 40950 * budget < sum) :
    budgetFactor sum budget = 1000 * (40950 * budget) / sum := if_pos h

theorem budgetFactor_within {sum budget : Nat} (h : sum ≤ 40950 * budget) : budgetFactor sum budget = 1000 :=
  if_neg (Nat.not_lt.mpr h)

theorem budgetFactor_le (sum budget : Nat) : budgetFactor sum budget ≤ 1000 := by
  rcases Nat.lt_or_ge (40950 * budget) sum with exceeds | within
  · rw [budgetFactor_over exceeds]
    exact Nat.div_le_of_le_mul (by omega)
  · exact (budgetFactor_within within).le

theorem mul_budgetFactor_le (sum budget : Nat) : sum * budgetFactor sum budget ≤ 1000 * (40950 * budget) := by
  rcases Nat.lt_or_ge (40950 * budget) sum with exceeds | within
  · rw [budgetFactor_over exceeds]
    exact Nat.mul_div_le _ _
  · rw [budgetFactor_within within]
    omega

/-- The factor is at least 2 for a sum that 60 nodes at full duty and 1000 of current on each channel can draw. -/
theorem two_le_budgetFactor {sum budget : Nat} (hb : 50 ≤ budget) (hs : sum ≤ 60 * (3 * (4095 * 1000))) :
    2 ≤ budgetFactor sum budget := by
  rcases Nat.lt_or_ge (40950 * budget) sum with exceeds | within
  · rw [budgetFactor_over exceeds, Nat.le_div_iff_mul_le (by omega)]
    omega
  · rw [budgetFactor_within within]
    omega

theorem Snapshot.output_budget (f : Snapshot) (c : Fin 4) :
    (f.output c).budget = budgetFactor ((f.drives c).map (drawOf f)).sum f.chains[c].budget := rfl

/-! ## What drives draw -/

theorem drawOf_le {f : Snapshot} {d : Drive} (duty : d.duty.le 4095)
    (current : ∀ b : Fin 16,
      f.bins[b].current.1 ≤ 1000 ∧ f.bins[b].current.2.1 ≤ 1000 ∧ f.bins[b].current.2.2 ≤ 1000) :
    drawOf f d ≤ 3 * (4095 * 1000) := by
  obtain ⟨hr, hg, hb⟩ := duty
  obtain ⟨ir, ig, ib⟩ := current d.bin
  have red := Nat.mul_le_mul hr ir
  have green := Nat.mul_le_mul hg ig
  have blue := Nat.mul_le_mul hb ib
  dsimp only [drawOf]
  omega

/-- The most that a chain draws after stage 8. -/
theorem Snapshot.drives_draw_le {f : Snapshot} (nodes : (f.allRecords.map (·.node)).Nodup)
    (current : ∀ b : Fin 16,
      f.bins[b].current.1 ≤ 1000 ∧ f.bins[b].current.2.1 ≤ 1000 ∧ f.bins[b].current.2.2 ≤ 1000) (c : Fin 4) :
    ((f.drives c).map (drawOf f)).sum ≤ 60 * (3 * (4095 * 1000)) := by
  have each : ∀ x ∈ (f.drives c).map (drawOf f), x ≤ 3 * (4095 * 1000) := by
    intro x hx
    obtain ⟨d, hd, rfl⟩ := List.mem_map.mp hx
    exact drawOf_le (Snapshot.drives_duty_le hd) current
  calc ((f.drives c).map (drawOf f)).sum
      ≤ (f.drives c).length * (3 * (4095 * 1000)) := by simpa using List.sum_le_card_nsmul _ _ each
    _ ≤ 60 * (3 * (4095 * 1000)) := Nat.mul_le_mul_right _ (Snapshot.drives_length_le nodes c)

theorem mul_scaled_le (x k i : Nat) : 1000 * (x * k / 1000 * i) ≤ x * i * k :=
  calc 1000 * (x * k / 1000 * i) = 1000 * (x * k / 1000) * i := (Nat.mul_assoc ..).symm
    _ ≤ x * k * i := Nat.mul_le_mul_right i (Nat.mul_div_le _ _)
    _ = x * i * k := Nat.mul_right_comm ..

theorem drawOf_scaled_le (f : Snapshot) (k : Nat) (d : Drive) : 1000 * drawOf f (d.scaled k) ≤ drawOf f d * k := by
  simp only [drawOf, Drive.scaled, Rgb.map, Nat.mul_add, Nat.add_mul]
  exact Nat.add_le_add (Nat.add_le_add (mul_scaled_le ..) (mul_scaled_le ..)) (mul_scaled_le ..)

/-! ## Stage 9 -/

theorem Drive.scaled_full (d : Drive) : d.scaled 1000 = d := by
  simp [Drive.scaled, Rgb.map]

theorem Snapshot.budgeted_eq (f : Snapshot) (c : Fin 4) :
    f.budgeted c = (f.drives c).map (Drive.scaled (f.output c).budget) := rfl

theorem Snapshot.budgeted_within {f : Snapshot} {c : Fin 4} (h : (f.output c).budget = 1000) :
    f.budgeted c = f.drives c := by
  rw [Snapshot.budgeted_eq, h, List.map_congr_left fun d _ => d.scaled_full, List.map_id']

theorem Snapshot.budgeted_draw_le_mul (f : Snapshot) (c : Fin 4) :
    1000 * ((f.budgeted c).map (drawOf f)).sum ≤ ((f.drives c).map (drawOf f)).sum * (f.output c).budget := by
  rw [Snapshot.budgeted_eq, List.map_map, ← List.sum_map_mul_left, ← List.sum_map_mul_right]
  exact List.sum_le_sum fun d _ => drawOf_scaled_le f _ d

/-- R113: after stage 9 a chain draws at most 40950 times its budget. -/
theorem Snapshot.budgeted_draw_le (f : Snapshot) (c : Fin 4) :
    ((f.budgeted c).map (drawOf f)).sum ≤ 40950 * f.chains[c].budget :=
  Nat.le_of_mul_le_mul_left ((f.budgeted_draw_le_mul c).trans (mul_budgetFactor_le _ _)) (by decide)

theorem Snapshot.budgeted_place {f : Snapshot} {c : Fin 4} {d : Drive} (h : d ∈ f.budgeted c) :
    ∃ k : Fin 60, d.position = k.val + 1 ∧ d.bin = f.chains[c].nodes[k].bin := by
  obtain ⟨d, hd, rfl⟩ := List.mem_map.mp h
  have place := Snapshot.drives_place hd
  exact place

/-! ## Stage 10: what a duty set draws (R116) -/

/-- What an entry of a chain's duty set draws: its duties times the currents of the bin of the node at its position. -/
def Snapshot.entryDraw (f : Snapshot) (c : Fin 4) (d : DutyEntry) : Nat :=
  match d.duty, placeOf d.position with
  | .live r g b, some k =>
    let i := f.bins[f.chains[c].nodes[k].bin].current
    r * i.1 + g * i.2.1 + b * i.2.2
  | _, _ => 0

/-- The drive that an entry for place `k` is made of. -/
def Snapshot.driveAt (f : Snapshot) (c : Fin 4) (k : Fin 60) : Option Drive :=
  (f.budgeted c).find? fun d => d.position == k.val + 1

theorem Snapshot.driveAt_eq_some {f : Snapshot} {c : Fin 4} {k : Fin 60} {d : Drive} (h : f.driveAt c k = some d) :
    d ∈ f.budgeted c ∧ d.position = k.val + 1 ∧ d.bin = f.chains[c].nodes[k].bin := by
  have member : d ∈ f.budgeted c := List.mem_of_find?_eq_some h
  have position : d.position = k.val + 1 := by
    simpa using List.find?_some (p := fun d : Drive => d.position == k.val + 1) h
  obtain ⟨j, place, bin⟩ := Snapshot.budgeted_place member
  obtain rfl : j = k := Fin.ext (by omega)
  exact ⟨member, position, bin⟩

theorem dutyEntry_eq_some {ds : List Drive} {k : Fin 60} {n : Node} {e : DutyEntry} (h : dutyEntry ds k n = some e) :
    e = ⟨k.val + 1, .blank⟩ ∨
      ∃ d, ds.find? (fun d => d.position == k.val + 1) = some d ∧
        e = ⟨k.val + 1, .live d.duty.r d.duty.g d.duty.b⟩ := by
  unfold dutyEntry at h
  split at h
  iterate 2 cases h
  all_goals
    split at h
    · exact .inl (Option.some.inj h).symm
    · next d found => exact .inr ⟨d, found, (Option.some.inj h).symm⟩

/-- The entry for a place draws no more than the drive that stands there. -/
theorem Snapshot.entryDraw_dutyEntry_le (f : Snapshot) (c : Fin 4) (k : Fin 60) :
    (dutyEntry (f.budgeted c) k f.chains[c].nodes[k]).elim 0 (f.entryDraw c) ≤ (f.driveAt c k).elim 0 (drawOf f) := by
  cases entry : dutyEntry (f.budgeted c) k f.chains[c].nodes[k] with
  | none => exact Nat.zero_le _
  | some e =>
    rcases dutyEntry_eq_some entry with rfl | ⟨d, found, rfl⟩
    · exact Nat.zero_le _
    · have bin : d.bin = f.chains[c].nodes[k].bin := (Snapshot.driveAt_eq_some found).2.2
      have place : placeOf (k.val + 1) = some k := placeOf_eq_some.mpr rfl
      rw [show f.driveAt c k = some d from found]
      simp only [Option.elim_some, Snapshot.entryDraw, place, drawOf, bin, Nat.le_refl]

/-- The drives found at different places are different members of the budgeted drives. -/
theorem Snapshot.driveAt_subperm (f : Snapshot) (c : Fin 4) :
    ((indices 60).filterMap (f.driveAt c)).Subperm (f.budgeted c) := by
  refine List.subperm_of_subset ?nodup fun d hd => ?member
  case nodup =>
    rw [List.Nodup, List.pairwise_filterMap]
    refine (List.nodup_finRange 60).imp fun {j k} differ d found d' found' same => differ ?_
    have atJ := (Snapshot.driveAt_eq_some found).2.1
    have atK := (Snapshot.driveAt_eq_some found').2.1
    exact Fin.ext (by rw [same] at atJ; omega)
  case member =>
    obtain ⟨k, -, found⟩ := List.mem_filterMap.mp hd
    exact (Snapshot.driveAt_eq_some found).1

/-- A duty set draws no more than the budgeted drives it is made of. -/
theorem Snapshot.dutySet_draw_le_budgeted (f : Snapshot) (c : Fin 4) :
    ((f.dutySet c).map (f.entryDraw c)).sum ≤ ((f.budgeted c).map (drawOf f)).sum := by
  obtain ⟨found, perm, sublist⟩ := f.driveAt_subperm c
  calc ((f.dutySet c).map (f.entryDraw c)).sum
      = ((indices 60).map fun k =>
          (dutyEntry (f.budgeted c) k f.chains[c].nodes[k]).elim 0 (f.entryDraw c)).sum := sum_map_filterMap _ _ _
    _ ≤ ((indices 60).map fun k => (f.driveAt c k).elim 0 (drawOf f)).sum :=
        List.sum_le_sum fun k _ => f.entryDraw_dutyEntry_le c k
    _ = (((indices 60).filterMap (f.driveAt c)).map (drawOf f)).sum := (sum_map_filterMap _ _ _).symm
    _ = (found.map (drawOf f)).sum := (perm.map _).sum_eq.symm
    _ ≤ ((f.budgeted c).map (drawOf f)).sum := (sublist.map _).sum_le_sum fun _ _ => Nat.zero_le _

/-! ## The obligation -/

/-- Settles O35: each duty is scaled down by the rounded factor, so the scaled sum is at most S times the factor over 1000; and a
duty set holds each budgeted drive at most once. -/
theorem dutySetStaysWithinBudget : Obligations.DutySetStaysWithinBudget := by
  intro f c
  refine ⟨⟨fun _ => ⟨rfl, fun r _ => Snapshot.drive_none, fun exceeds => ⟨budgetFactor_over exceeds, rfl⟩, ?within⟩,
    f.budgeted_draw_le_mul c, f.budgeted_draw_le c, budgetFactor_le _ _, ?dark, ?positive⟩, ?handed⟩
  case within =>
    intro within
    have full : (f.output c).budget = 1000 := budgetFactor_within within
    exact ⟨full, Snapshot.budgeted_within full⟩
  case dark =>
    intro dark
    have draws : ((f.drives c).map (drawOf f)).sum = 0 := by rw [Snapshot.drives_eq_nil dark]; rfl
    exact ⟨draws, budgetFactor_within (draws.trans_le (Nat.zero_le _))⟩
  case positive =>
    exact fun nodes budget current => two_le_budgetFactor budget (Snapshot.drives_draw_le nodes current c)
  case handed =>
    exact (f.dutySet_draw_le_budgeted c).trans (f.budgeted_draw_le c)

end Sys2Proof.Machine

/-! PROOFS. READ_NOTICES (R194). -/

namespace Sys2Proof.Machine

open Sys2Proof

/-- Where the frame reaches the Notice List and its header is plain, the list is reported from the state as it is. -/
theorem exec_readNotices_plain {h : Header} {s : State} (r : Reaches .open_ h s) (hp : h.plain = true) :
    exec (.readNotices h) s =
      .next ((Verdict.accept false s.notices.report s).stored s (h.frameBytes 0) h.tag) := by
  refine (State.takeOpen_reaches r 0 _).trans ?_
  simp only [hp, if_true]

/-- Settles O7: the block accepts with its report and the state it was given, so only the stored reply is new. -/
theorem readNoticesReportsTheList : Obligations.ReadNoticesReportsTheList := by
  intro h s r hp
  exact ⟨_, exec_readNotices_plain r hp, Verdict.stored_accept s s _ h false s.notices.report⟩

end Sys2Proof.Machine

/-! PROOFS. What keeps the invariants: the eight invariants carried together through the operations, so that each operation is
looked at once. Here: the tables of cues, zones and watches, the notices and the runners. -/

namespace Sys2Proof.Machine

open Sys2Proof

/-! ## Keeping the invariants -/

/-- A part that is not held in reset keeps each invariant on the way from `s` to `t`. -/
structure Keeps (s t : State) : Prop where
  awake : s.resetLow = false → t.resetLow = false
  notice : s.resetLow = false → NoticeInv s → NoticeInv t
  cue : CueInv s → CueInv t
  watch : WatchInv s → WatchInv t
  zone : ZoneInv s → ZoneInv t
  level : LevelInv s → LevelInv t
  runner : RunnerInv s → RunnerInv t
  power : s.resetLow = false → PowerInv s → PowerInv t
  chain : ChainInv s → ChainInv t

theorem Keeps.refl (s : State) : Keeps s s := ⟨id, fun _ => id, id, id, id, id, id, fun _ => id, id⟩

theorem Keeps.trans {s t u : State} (h : Keeps s t) (h' : Keeps t u) : Keeps s u where
  awake a := h'.awake (h.awake a)
  notice a k := h'.notice (h.awake a) (h.notice a k)
  cue k := h'.cue (h.cue k)
  watch k := h'.watch (h.watch k)
  zone k := h'.zone (h.zone k)
  level k := h'.level (h.level k)
  runner k := h'.runner (h.runner k)
  power a k := h'.power (h.awake a) (h.power a k)
  chain k := h'.chain (h.chain k)

theorem Keeps.foldl {α : Type} (f : State → α → State) (hf : ∀ s a, Keeps s (f s a)) (xs : List α) :
    ∀ s, Keeps s (xs.foldl f s) := by
  induction xs with
  | nil => exact Keeps.refl
  | cons x xs ih => exact fun s => (hf s x).trans (ih _)

theorem Keeps.ite {s t u : State} {p : Prop} [Decidable p] (h : p → Keeps s t) (h' : ¬ p → Keeps s u) :
    Keeps s (if p then t else u) := by
  split
  · exact h ‹_›
  · exact h' ‹_›

/-! ## Updates that no invariant reads -/

theorem State.setPalette_keeps (s : State) (v) : Keeps s (s.setPalette v) :=
  ⟨id, fun _ => id, id, id, id, id, id, fun _ => id, id⟩

theorem State.setSignals_keeps (s : State) (v) : Keeps s (s.setSignals v) :=
  ⟨id, fun _ => id, id, id, id, id, id, fun _ => id, id⟩

theorem State.setFreeCounter_keeps (s : State) (v) : Keeps s (s.setFreeCounter v) :=
  ⟨id, fun _ => id, id, id, id, id, id, fun _ => id, id⟩

theorem State.setPending_keeps (s : State) (v) : Keeps s (s.setPending v) :=
  ⟨id, fun _ => id, id, id, id, id, id, fun _ => id, id⟩

theorem State.setReply_keeps (s : State) (v) : Keeps s (s.setReply v) :=
  ⟨id, fun _ => id, id, id, id, id, id, fun _ => id, id⟩

theorem State.setSdo_keeps (s : State) (v) : Keeps s (s.setSdo v) :=
  ⟨id, fun _ => id, id, id, id, id, id, fun _ => id, id⟩

/-! ## Updates that one invariant reads -/

theorem State.setCues_keeps (s : State) {v} (h : CueInv s → CueInv (s.setCues v)) : Keeps s (s.setCues v) :=
  ⟨id, fun _ => id, h, id, id, id, id, fun _ => id, id⟩

theorem State.setWatches_keeps (s : State) {v} (h : WatchInv s → WatchInv (s.setWatches v)) :
    Keeps s (s.setWatches v) :=
  ⟨id, fun _ => id, id, h, id, id, id, fun _ => id, id⟩

theorem State.setZones_keeps (s : State) {v} (h : ZoneInv s → ZoneInv (s.setZones v)) : Keeps s (s.setZones v) :=
  ⟨id, fun _ => id, id, id, h, id, id, fun _ => id, id⟩

theorem State.setCond_keeps (s : State) {v} (h : LevelInv s → LevelInv (s.setCond v)) : Keeps s (s.setCond v) :=
  ⟨id, fun _ => id, id, id, id, h, id, fun _ => id, id⟩

theorem State.setSeq_keeps (s : State) {v} (h : RunnerInv s → RunnerInv (s.setSeq v)) : Keeps s (s.setSeq v) :=
  ⟨id, fun _ => id, id, id, id, id, h, fun _ => id, id⟩

theorem State.setPower_keeps (s : State) {v} (h : s.resetLow = false → PowerInv s → PowerInv (s.setPower v)) :
    Keeps s (s.setPower v) :=
  ⟨id, fun _ => id, id, id, id, id, id, h, id⟩

/-! ## Notices (R192, R193, R196) -/

/-- The list of notices without its line (R192). -/
def Notices.bounded (n : Notices) : Prop :=
  n.list.length ≤ 8 ∧ (n.list.map Notice.key).Nodup ∧ (∀ x ∈ n.list, 1 ≤ x.count ∧ x.count ≤ 255) ∧ n.missed ≤ 255

/-- A replacement of the list after which the line is evaluated anew. -/
theorem State.withNotices_keeps (s : State) {n : Notices} (h : s.notices.bounded → n.bounded) :
    Keeps s (s.withNotices n) where
  awake := id
  notice awake := by
    rintro ⟨size, keys, counts, missed, -⟩
    obtain ⟨size', keys', counts', missed'⟩ := h ⟨size, keys, counts, missed⟩
    refine ⟨size', keys', counts', missed', ?_⟩
    have low : (s.withNotices n).resetLow = false := awake
    rw [low]
    rfl
  cue := id
  watch := id
  zone := id
  level := id
  runner := id
  power _ := id
  chain := id

theorem Notice.isOf_iff (x : Notice) (k subj) : x.isOf k subj = true ↔ x.key = (k, subj) := by
  simp [Notice.isOf, Notice.key]

theorem Notices.raise_bounded {n : Notices} (h : n.bounded) (k subj d) : (n.raise k subj d).bounded := by
  obtain ⟨size, keys, counts, missed⟩ := h
  unfold Notices.raise
  split_ifs with merges room
  · refine ⟨by simpa using size, ?_, ?_, missed⟩
    · have same : Notice.key ∘ (fun x : Notice =>
          if x.isOf k subj then { x with detail := d, count := min 255 (x.count + 1) } else x) = Notice.key := by
        funext x
        simp only [Function.comp_apply]
        split <;> rfl
      rwa [List.map_map, same]
    · intro x hx
      obtain ⟨y, hy, rfl⟩ := List.mem_map.1 hx
      have := counts y hy
      split
      · dsimp only
        omega
      · exact this
  · refine ⟨by simp; omega, ?_, ?_, missed⟩
    · rw [List.map_append, List.nodup_append]
      refine ⟨keys, by simp, ?_⟩
      intro a ha b hb e
      obtain ⟨x, hx, rfl⟩ := List.mem_map.1 ha
      refine merges (List.any_eq_true.2 ⟨x, hx, (x.isOf_iff k subj).2 ?_⟩)
      exact e.trans (List.mem_singleton.1 hb)
    · intro x hx
      rcases List.mem_append.1 hx with hx | hx
      · exact counts x hx
      · rw [List.mem_singleton.1 hx]
        dsimp only
        omega
  · exact ⟨size, keys, counts, by dsimp only; omega⟩

theorem State.raise_keeps (s : State) (k x d) : Keeps s (s.raise k x d) :=
  s.withNotices_keeps fun h => Notices.raise_bounded h k x d

/-! ## Watches (R68, R72) -/

/-- Freed entries leave the creation-order list (R68). -/
theorem WatchTable.freeWhere_slot (t : WatchTable) (p) (w : Fin 8) :
    (t.freeWhere p).slots[w] = { t.slots[w] with entry := t.slots[w].entry.filter fun e => !p w e } := by
  simp [WatchTable.freeWhere]

theorem WatchTable.freeWhere_entry {t : WatchTable} {p} {w : Fin 8} {e : WatchEntry} :
    (t.freeWhere p).slots[w].entry = some e ↔ t.slots[w].entry = some e ∧ p w e = false := by
  rw [WatchTable.freeWhere_slot]
  simp [-Fin.getElem_fin, Option.filter_eq_some_iff]

/-- The creation-order list agrees with the slots, and no client has two entries on one zone (R68, R70). -/
def WatchTable.listed (t : WatchTable) : Prop :=
  t.order.Nodup ∧ (∀ w : Fin 8, w ∈ t.order ↔ t.slots[w].entry.isSome = true) ∧
    (∀ v w : Fin 8, t.slots[v].entry.isSome = true → t.slots[v].entry = t.slots[w].entry → v = w)

theorem WatchTable.freeWhere_listed {t : WatchTable} (h : t.listed) (p) : (t.freeWhere p).listed := by
  obtain ⟨nodup, live, single⟩ := h
  refine ⟨nodup.filter _, fun w => ?_, fun v w hv e => ?_⟩
  · rw [Option.isSome_iff_exists]
    simp only [WatchTable.freeWhere_entry]
    simp only [WatchTable.freeWhere, List.mem_filter, live w]
    cases t.slots[w].entry <;> simp
  · obtain ⟨x, hx⟩ := Option.isSome_iff_exists.1 hv
    have inV := (WatchTable.freeWhere_entry.1 hx).1
    have inW := (WatchTable.freeWhere_entry.1 (e ▸ hx)).1
    exact single v w (by rw [inV]; rfl) (inV.trans inW.symm)

theorem State.freeWatch_keeps (s : State) (w) : Keeps s (s.freeWatch w) :=
  s.setWatches_keeps fun h => WatchTable.freeWhere_listed h _

/-! ## Zone change events and holds (R60, R62, R67) -/

/-- A change of the zone records that leaves the node lists, keeps the trims in range and the frozen composites fitting. -/
theorem State.setZones_keeps_of (s : State) {v : Vector Zone 16}
    (h : ∀ z : Fin 16, v[z].nodes = s.zones[z].nodes ∧ (s.zones[z].trim ≤ 1000 → v[z].trim ≤ 1000) ∧
      ∀ n, s.zones[z].hold.fits n = true → v[z].hold.fits n = true) : Keeps s (s.setZones v) := by
  refine s.setZones_keeps fun ⟨each, apart⟩ => ⟨fun z => ?_, fun y z ne => ?_⟩
  · obtain ⟨nodes, trim, hold⟩ := h z
    obtain ⟨nodup, size, hi, fits, places, latest, frame⟩ := each z
    simp only [State.setZones_zones, State.setZones_composer, nodes]
    exact ⟨nodup, size, trim hi, hold _ fits, places, latest, frame⟩
  · simp only [State.setZones_zones, (h y).1, (h z).1]
    exact apart y z ne

/-- A change of one zone record, as `setZones_keeps_of`. -/
theorem State.modifyZone_keeps (s : State) (z : Fin 16) {f : Zone → Zone} (nodes : (f s.zones[z]).nodes = s.zones[z].nodes)
    (trim : s.zones[z].trim ≤ 1000 → (f s.zones[z]).trim ≤ 1000)
    (hold : ∀ n, s.zones[z].hold.fits n = true → (f s.zones[z]).hold.fits n = true) :
    Keeps s (s.setZones (modifyAt s.zones z f)) := by
  refine s.setZones_keeps_of fun y => ?_
  rw [getElem_modifyAt]
  split
  · next e => subst e; exact ⟨nodes, trim, hold⟩
  · exact ⟨rfl, id, fun _ => id⟩

theorem State.zoneEvent_keeps (g) (s : State) (z) : Keeps s (s.zoneEvent g z) :=
  (s.modifyZone_keeps z rfl id fun _ => id).trans
    (State.setWatches_keeps _ fun h => WatchTable.freeWhere_listed h _)

theorem State.zoneEvents_keeps (g) (s : State) (zs) : Keeps s (s.zoneEvents g zs) :=
  Keeps.foldl _ (fun s z => s.zoneEvent_keeps g z) _ s

theorem State.holdZone_keeps (s : State) (z) : Keeps s (s.holdZone z) :=
  .ite (fun _ => (s.modifyZone_keeps z rfl id fun _ _ => rfl).trans (State.zoneEvent_keeps _ _ _)) fun _ => .refl _

theorem State.releaseZone_keeps (s : State) (z) : Keeps s (s.releaseZone z) :=
  .ite (fun _ => .refl _) fun _ => (s.modifyZone_keeps z rfl id fun _ _ => rfl).trans (State.zoneEvent_keeps _ _ _)

theorem State.holdZones_keeps (s : State) (zs) : Keeps s (s.holdZones zs) :=
  Keeps.foldl _ State.holdZone_keeps _ s

theorem State.releaseZones_keeps (s : State) (zs) : Keeps s (s.releaseZones zs) :=
  Keeps.foldl _ State.releaseZone_keeps _ s

/-! ## The dark interval (R179) -/

theorem Power.reloadDark_eq (p : Power) : ∃ d, p.reloadDark = { p with darkRemaining := d } ∧
    (d.isSome = true → p.darkRemaining.isSome = true ∨ p.state = .lit) := by
  unfold Power.reloadDark
  split
  · exact ⟨_, rfl, fun _ => .inr ‹_›⟩
  · exact ⟨_, rfl, .inl⟩

/-- A change of the dark remaining that is present in LIT alone. -/
theorem State.setDark_keeps (s : State) {d : Option Nat}
    (h : d.isSome = true → s.power.darkRemaining.isSome = true ∨ s.power.state = .lit) :
    Keeps s (s.setPower { s.power with darkRemaining := d }) :=
  s.setPower_keeps fun _ ⟨supply, timer, dest, cause, wake, dark, powering, off, frame, pending⟩ =>
    ⟨supply, timer, dest, cause, wake, fun hd => (h hd).elim dark id, powering, off, frame, pending⟩

theorem State.reloadDark_keeps (s : State) : Keeps s s.reloadDark := by
  obtain ⟨d, e, hd⟩ := s.power.reloadDark_eq
  unfold State.reloadDark
  rw [e]
  exact s.setDark_keeps hd

/-! ## Runners and slots -/

/-- The runners and the sequence slots name each other as before: no runner's state and no slot's state has changed. -/
def SameRuns (s t : State) : Prop :=
  (∀ r : Fin 2, t.seq.runners[r].state = s.seq.runners[r].state ∧ t.seq.runners[r].slot = s.seq.runners[r].slot) ∧
    ∀ k : Fin 6, t.seq.slots[k].state = s.seq.slots[k].state

theorem SameRuns.of_seq {s t : State} (h : t.seq = s.seq) : SameRuns s t := by
  unfold SameRuns
  rw [h]
  exact ⟨fun _ => ⟨rfl, rfl⟩, fun _ => rfl⟩

theorem SameRuns.refl (s : State) : SameRuns s s := .of_seq rfl

theorem SameRuns.trans {s t u : State} (h : SameRuns s t) (h' : SameRuns t u) : SameRuns s u :=
  ⟨fun r => ⟨(h'.1 r).1.trans (h.1 r).1, (h'.1 r).2.trans (h.1 r).2⟩, fun k => (h'.2 k).trans (h.2 k)⟩

theorem SameRuns.foldl {α : Type} (f : State → α → State) (hf : ∀ s a, SameRuns s (f s a)) (xs : List α) :
    ∀ s, SameRuns s (xs.foldl f s) := by
  induction xs with
  | nil => exact SameRuns.refl
  | cons x xs ih => exact fun s => (hf s x).trans (ih _)

theorem SameRuns.runner {s t : State} (h : SameRuns s t) (k : RunnerInv s) : RunnerInv t := by
  obtain ⟨runs, slots⟩ := h
  refine ⟨fun r => ?_, fun r i => ?_⟩
  · rw [(runs r).1, (runs r).2]
    exact k.1 r
  · rw [(runs r).2, slots i]
    exact k.2 r i

theorem State.setRunner_runner (s : State) (r q : Fin 2) (f) :
    (s.setRunner r f).seq.runners[q] = if q = r then f s.seq.runners[r] else s.seq.runners[q] :=
  getElem_modifyAt _ _ _ _

theorem State.setSlot_slot (s : State) (k m : Fin 6) (f) :
    (s.setSlot k f).seq.slots[m] = if m = k then f s.seq.slots[k] else s.seq.slots[m] :=
  getElem_modifyAt _ _ _ _

/-- A runner's labels, loop counter, posted zones and wait are no concern of the slot it steps through. -/
theorem State.setRunner_sameRuns (s : State) (r : Fin 2) {f : Runner → Runner}
    (state : (f s.seq.runners[r]).state = s.seq.runners[r].state)
    (slot : (f s.seq.runners[r]).slot = s.seq.runners[r].slot) : SameRuns s (s.setRunner r f) := by
  refine ⟨fun q => ?_, fun _ => rfl⟩
  rw [State.setRunner_runner]
  split
  · next e => subst e; exact ⟨state, slot⟩
  · exact ⟨rfl, rfl⟩

theorem State.setRunner_keeps (s : State) (r : Fin 2) {f : Runner → Runner}
    (state : (f s.seq.runners[r]).state = s.seq.runners[r].state)
    (slot : (f s.seq.runners[r]).slot = s.seq.runners[r].slot) : Keeps s (s.setRunner r f) :=
  s.setSeq_keeps (s.setRunner_sameRuns r state slot).runner

theorem State.reportFreed_sameRuns (s : State) (t h) : SameRuns s (s.reportFreed t h) := by
  unfold State.reportFreed
  split
  · exact .refl s
  · next t => exact s.setRunner_sameRuns t.runner (f := fun r => r.forget h) rfl rfl

theorem State.reportFreed_keeps (s : State) (t h) : Keeps s (s.reportFreed t h) := by
  have same := (s.reportFreed_sameRuns t h).runner
  revert same
  unfold State.reportFreed
  split
  · exact fun _ => .refl s
  · exact s.setSeq_keeps

/-! ## The lists of the Cue Table (R5, R6) -/

/-- A slot whose cue is fading out. -/
def CueSlot.fades (x : CueSlot) : Bool := x.cue.any fun c => c.phase.isFadingOut

/-- The lists of R5 and R6 agree with the slots. -/
def CueTable.listed (t : CueTable) : Prop :=
  t.postOrder.Nodup ∧ t.retiring.Nodup ∧ (∀ k : Fin 48, k ∈ t.postOrder ↔ t.slots[k].cue.isSome = true) ∧
    (∀ k : Fin 48, k ∈ t.retiring ↔ t.slots[k].fades = true)

/-- A change of the cues that leaves the lists, the live slots and the fading ones. -/
theorem CueTable.listed_of_same {t u : CueTable} (h : t.listed) (post : u.postOrder = t.postOrder)
    (ret : u.retiring = t.retiring)
    (slots : ∀ k : Fin 48, u.slots[k].cue.isSome = t.slots[k].cue.isSome ∧ u.slots[k].fades = t.slots[k].fades) :
    u.listed := by
  obtain ⟨h1, h2, h3, h4⟩ := h
  refine ⟨post ▸ h1, ret ▸ h2, fun k => ?_, fun k => ?_⟩
  · rw [post, (slots k).1]
    exact h3 k
  · rw [ret, (slots k).2]
    exact h4 k

theorem State.putCue_slot (s : State) (k j : Fin 48) (c) :
    (s.putCue k c).cues.slots[j] = if j = k then { s.cues.slots[k] with cue := some c } else s.cues.slots[j] :=
  getElem_modifyAt _ _ _ _

/-- A cue is replaced by one that fades out just where the old one did. -/
theorem State.putCue_keeps (s : State) {k : Fin 48} {c c' : Cue} (h : s.cueAt k = some c)
    (fading : c'.phase.isFadingOut = c.phase.isFadingOut) : Keeps s (s.putCue k c') := by
  refine s.setCues_keeps fun listed => CueTable.listed_of_same listed rfl rfl fun j => ?_
  show (s.putCue k c').cues.slots[j].cue.isSome = _ ∧ (s.putCue k c').cues.slots[j].fades = _
  have live : s.cues.slots[k].cue = some c := h
  rw [State.putCue_slot]
  split
  · next e => subst e; simp [-Fin.getElem_fin, CueSlot.fades, live, fading]
  · exact ⟨rfl, rfl⟩

theorem CueTable.remove_listed {t : CueTable} (h : t.listed) (k : Fin 48) : (t.remove k).listed := by
  obtain ⟨post, ret, live, fades⟩ := h
  have slot : ∀ j : Fin 48, (t.remove k).slots[j] = if j = k then { t.slots[k] with cue := none } else t.slots[j] :=
    fun j => getElem_modifyAt _ _ _ _
  refine ⟨post.filter _, ret.filter _, fun j => ?_, fun j => ?_⟩
  · rw [slot j]
    by_cases e : j = k
    · simp [CueTable.remove, e]
    · simp [-Fin.getElem_fin, CueTable.remove, e, live]
  · rw [slot j]
    by_cases e : j = k
    · simp [CueTable.remove, e, CueSlot.fades]
    · simp [-Fin.getElem_fin, CueTable.remove, e, fades]

/-- The Cue Table after a live cue in slot `k` has begun to fade out and has joined the retiring list (R6, R10). -/
def CueTable.startFade (t : CueTable) (k : Fin 48) (c : Cue) : CueTable :=
  { t with slots := modifyAt t.slots k fun x => { x with cue := some c }, retiring := t.retiring ++ [k] }

theorem CueTable.startFade_listed {t : CueTable} (h : t.listed) {k : Fin 48} {c c' : Cue}
    (live : t.slots[k].cue = some c) (before : c.phase.isFadingOut = false) (after : c'.phase.isFadingOut = true) :
    (t.startFade k c').listed := by
  obtain ⟨post, ret, lives, fades⟩ := h
  have slot : ∀ j : Fin 48, (t.startFade k c').slots[j] =
      if j = k then { t.slots[k] with cue := some c' } else t.slots[j] := fun j => getElem_modifyAt _ _ _ _
  have fresh : k ∉ t.retiring := by simp [-Fin.getElem_fin, fades, CueSlot.fades, live, before]
  refine ⟨post, ?_, fun j => ?_, fun j => ?_⟩
  · rw [CueTable.startFade, List.nodup_append]
    refine ⟨ret, by simp, fun a ha b hb e => fresh ?_⟩
    rw [List.mem_singleton] at hb
    rwa [← hb, ← e]
  · rw [slot j]
    by_cases e : j = k
    · simp [-Fin.getElem_fin, CueTable.startFade, e, lives, live]
    · simp [-Fin.getElem_fin, CueTable.startFade, e, lives]
  · rw [slot j]
    by_cases e : j = k
    · simp [-Fin.getElem_fin, CueTable.startFade, e, CueSlot.fades, after]
    · simp [-Fin.getElem_fin, CueTable.startFade, e, fades]

theorem CueTable.fill_listed {t : CueTable} (h : t.listed) {k : Fin 48} {c : Cue} (free : t.slots[k].cue = none)
    (starts : c.phase.isFadingOut = false) : (t.fill k c).listed := by
  obtain ⟨post, ret, lives, fades⟩ := h
  have slot : ∀ j : Fin 48, (t.fill k c).slots[j] =
      if j = k then { gen := t.slots[k].gen + 1, cue := some c } else t.slots[j] := fun j => getElem_modifyAt _ _ _ _
  have fresh : k ∉ t.postOrder := by simp [-Fin.getElem_fin, lives, free]
  refine ⟨?_, ret, fun j => ?_, fun j => ?_⟩
  · rw [CueTable.fill, List.nodup_append]
    refine ⟨post, by simp, fun a ha b hb e => fresh ?_⟩
    rw [List.mem_singleton] at hb
    rwa [← hb, ← e]
  · rw [slot j]
    by_cases e : j = k
    · simp [CueTable.fill, e]
    · simp [-Fin.getElem_fin, CueTable.fill, e, lives]
  · rw [slot j]
    by_cases e : j = k
    · simp [-Fin.getElem_fin, CueTable.fill, e, CueSlot.fades, starts, fades, free]
    · simp [-Fin.getElem_fin, CueTable.fill, e, fades]

theorem CueTable.emptied_listed (t : CueTable) : t.emptied.listed := by
  refine ⟨List.nodup_nil, List.nodup_nil, fun k => ?_, fun k => ?_⟩ <;> simp [CueTable.emptied, CueSlot.fades]

theorem Descriptor.newCue_starts (d : Descriptor) (owner tag signals) :
    (d.newCue owner tag signals).phase.isFadingOut = false := by
  unfold Descriptor.newCue
  dsimp only
  split <;> rfl

/-! ## Freeing, fading and writing cues (R10, R12, R18) -/

theorem State.freeSlot_keeps (g) (s : State) (k) : Keeps s (s.freeSlot g k) := by
  unfold State.freeSlot
  split
  · exact .refl s
  · exact ((s.setCues_keeps fun h => CueTable.remove_listed h k).trans (State.zoneEvents_keeps _ _ _)).trans
      (State.reportFreed_keeps _ _ _)

theorem State.freeSlot_sameRuns (g) (s : State) (k) : SameRuns s (s.freeSlot g k) := by
  unfold State.freeSlot
  split
  · exact .refl s
  · refine SameRuns.trans (.of_seq ?_) (State.reportFreed_sameRuns _ _ _)
    exact State.zoneEvents_seq _ _ _

theorem State.beginFade_keeps (g exit) (s : State) (k) : Keeps s (s.beginFade g exit k) := by
  unfold State.beginFade
  split
  · exact .refl s
  · next c live =>
    refine .ite (fun _ => .refl s) fun before => ?_
    have begun : Keeps s (s.setCues (s.cues.startFade k { c with phase := .fadingOut 0 (exit c) c.fadeEnvelope })) :=
      s.setCues_keeps fun h => CueTable.startFade_listed h live (Bool.eq_false_of_not_eq_true before) rfl
    exact .ite (fun _ => (begun.trans (State.zoneEvents_keeps _ _ _)).trans (State.freeSlot_keeps _ _ _))
      fun _ => begun.trans (State.zoneEvents_keeps _ _ _)

theorem State.beginFade_sameRuns (g exit) (s : State) (k) : SameRuns s (s.beginFade g exit k) := by
  unfold State.beginFade
  split
  · exact .refl s
  · dsimp only
    split
    · exact .refl s
    · split
      · refine SameRuns.trans (.of_seq ?_) (State.freeSlot_sameRuns _ _ _)
        exact State.zoneEvents_seq _ _ _
      · exact .of_seq (State.zoneEvents_seq _ _ _)

theorem State.fadeAll_keeps (s : State) (ks) : Keeps s (s.fadeAll ks) :=
  Keeps.foldl _ (fun s k => s.beginFade_keeps _ _ k) _ s

theorem State.fadeAll_sameRuns (s : State) (ks) : SameRuns s (s.fadeAll ks) :=
  SameRuns.foldl _ (fun s k => s.beginFade_sameRuns _ _ k) _ s

theorem State.freeAll_keeps (s : State) (ks) : Keeps s (s.freeAll ks) :=
  Keeps.foldl _ (fun s k => s.freeSlot_keeps _ k) _ s

theorem State.freeAll_sameRuns (s : State) (ks) : SameRuns s (s.freeAll ks) :=
  SameRuns.foldl _ (fun s k => s.freeSlot_sameRuns _ k) _ s

theorem State.retire_keeps (g m) (s : State) (k) : Keeps s (s.retire g m k) := by
  cases m
  · exact s.beginFade_keeps _ _ _
  · exact s.freeSlot_keeps _ _

theorem State.retire_sameRuns (g m) (s : State) (k) : SameRuns s (s.retire g m k) := by
  cases m
  · exact s.beginFade_sameRuns _ _ _
  · exact s.freeSlot_sameRuns _ _

theorem State.replaceCue_keeps (g) (s : State) {k : Fin 48} {c c' : Cue} (h : s.cueAt k = some c)
    (fading : c'.phase.isFadingOut = c.phase.isFadingOut) : Keeps s (s.replaceCue g k c') :=
  (s.putCue_keeps h fading).trans (State.zoneEvents_keeps _ _ _)

theorem State.writeCue_keeps (g) (s : State) {k : Fin 48} (free : s.cues.slots[k].cue = none) (o t d) :
    Keeps s (s.writeCue g k o t d) :=
  ((s.setCues_keeps fun h => CueTable.fill_listed h free (d.newCue_starts o t s.signals)).trans
    (State.zoneEvents_keeps _ _ _)).trans (State.reloadDark_keeps _)

theorem State.evict_keeps (g) (s : State) (k) : Keeps s (s.evict g k) := by
  unfold State.evict
  split
  · exact .refl s
  · exact (s.freeSlot_keeps _ _).trans (State.raise_keeps _ _ _ _)

theorem State.evict_sameRuns (g) (s : State) (k) : SameRuns s (s.evict g k) := by
  unfold State.evict
  split
  · exact .refl s
  · exact (s.freeSlot_sameRuns _ _).trans (.of_seq rfl)

theorem State.makeRoom_keeps (g) (s : State) (ks d r) : Keeps s (s.makeRoom g ks d r) := by
  have purge := Keeps.foldl (State.beginFade g fun _ => d.fadeIn) (fun s k => s.beginFade_keeps _ _ k) ks s
  unfold State.makeRoom
  split
  · exact purge.trans (State.evict_keeps _ _ _)
  · exact purge

theorem State.makeRoom_sameRuns (g) (s : State) (ks d r) : SameRuns s (s.makeRoom g ks d r) := by
  have purge := SameRuns.foldl (State.beginFade g fun _ => d.fadeIn) (fun s k => s.beginFade_sameRuns _ _ k) ks s
  unfold State.makeRoom
  split
  · exact purge.trans (State.evict_sameRuns _ _ _)
  · exact purge

/-- What a posting that succeeds is made of (R18): room is made, and the cue is written in the lowest free slot. -/
theorem State.post_eq_some {g} {s : State} {o t d k s'} (h : s.post g o t d = some (k, s')) :
    s.room (s.purged o t d) d ≠ .refused ∧
      ∃ u, u = s.makeRoom g (s.purged o t d) d (s.room (s.purged o t d) d) ∧ u.cues.freeTransient = some k ∧
        s' = u.writeCue g k o t d := by
  unfold State.post at h
  dsimp only at h
  split at h
  · cases h
  · next room =>
    obtain ⟨j, free, e⟩ := Option.map_eq_some_iff.1 h
    obtain ⟨rfl, rfl⟩ := Prod.mk.injEq _ _ _ _ ▸ e
    exact ⟨room, _, rfl, free, rfl⟩

theorem CueTable.freeTransient_free {t : CueTable} {k : Fin 48} (h : t.freeTransient = some k) :
    transient k = true ∧ t.slots[k].cue = none := by
  have := List.find?_some h
  simpa [-Fin.getElem_fin] using this

theorem State.post_keeps {g} {s : State} {o t d k s'} (h : s.post g o t d = some (k, s')) : Keeps s s' := by
  obtain ⟨-, u, rfl, free, rfl⟩ := State.post_eq_some h
  exact (s.makeRoom_keeps _ _ _ _).trans (State.writeCue_keeps _ _ (CueTable.freeTransient_free free).2 _ _ _)

theorem State.writeCue_seq (g) (s : State) (k o t d) : (s.writeCue g k o t d).seq = s.seq :=
  (s.writeCue_only g k o t d).field .seq

theorem State.post_sameRuns {g} {s : State} {o t d k s'} (h : s.post g o t d = some (k, s')) : SameRuns s s' := by
  obtain ⟨-, u, rfl, -, rfl⟩ := State.post_eq_some h
  exact (s.makeRoom_sameRuns _ _ _ _).trans (.of_seq (State.writeCue_seq _ _ _ _ _ _))

/-! ## Lifecycle events (R9 to R12) -/

theorem Cue.fadeInDue_not_fading {c : Cue} (h : c.fadeInDue = true) : c.phase.isFadingOut = false := by
  unfold Cue.fadeInDue at h
  split at h
  · next e => rw [e]; rfl
  · cases h

theorem State.fadeInCompletion_keeps (s : State) (k) : Keeps s (s.fadeInCompletion k) := by
  unfold State.fadeInCompletion
  split
  · exact .refl s
  · next live => exact .ite (fun due => s.putCue_keeps live (Cue.fadeInDue_not_fading due).symm) fun _ => .refl s

theorem State.lifetimeExpiry_keeps (s : State) (k) : Keeps s (s.lifetimeExpiry k) :=
  .ite (fun _ => s.beginFade_keeps _ _ _) fun _ => .refl s

theorem State.fadeOutCompletion_keeps (s : State) (k) : Keeps s (s.fadeOutCompletion k) :=
  .ite (fun _ => s.freeSlot_keeps _ _) fun _ => .refl s

/-! ## The ends of a run (R151, R163, R164) -/

/-- What the end of a run does to the runners (R151): `r` is IDLE with its step index kept. -/
theorem State.idleRunner_runner (s : State) (r q : Fin 2) : (s.idleRunner r).seq.runners[q] =
    if q = r then { Runner.idle with index := s.seq.runners[r].index } else s.seq.runners[q] := by
  unfold State.idleRunner
  dsimp only
  split <;> exact s.setRunner_runner r q _

/-- What the end of a run does to the slots (R151): the one it stepped through is READY. -/
theorem State.idleRunner_slot (s : State) (r : Fin 2) (k : Fin 6) : (s.idleRunner r).seq.slots[k] =
    if s.seq.runners[r].slot = some k then { s.seq.slots[k] with state := .ready } else s.seq.slots[k] := by
  unfold State.idleRunner
  dsimp only
  split
  · next e => rw [e, if_neg (by simp)]; rfl
  · next j e =>
    rw [e, State.setSlot_slot]
    by_cases h : k = j
    · subst h; rw [if_pos rfl, if_pos rfl]; rfl
    · rw [if_neg h, if_neg (by simpa using Ne.symm h)]; rfl

theorem State.idleRunner_seq (s : State) (r : Fin 2) : ∃ v, s.idleRunner r = s.setSeq v := by
  unfold State.idleRunner
  dsimp only
  split <;> exact ⟨_, rfl⟩

theorem State.idleRunner_keeps (s : State) (r) : Keeps s (s.idleRunner r) := by
  have inv : RunnerInv s → RunnerInv (s.idleRunner r) := by
    rintro ⟨active, names⟩
    refine ⟨fun q => ?_, fun q k => ?_⟩
    · rw [State.idleRunner_runner]
      split
      · rfl
      · exact active q
    · rw [State.idleRunner_runner, State.idleRunner_slot]
      by_cases hq : q = r <;> by_cases hk : s.seq.runners[r].slot = some k
      · rw [if_pos hq, if_pos hk]
        simp [Runner.idle]
      · rw [if_pos hq, if_neg hk, ← names q k, hq]
        simpa [Runner.idle] using hk
      · rw [if_neg hq, if_pos hk]
        have held := (names r k).1 hk
        simp only [names q k, held, reduceCtorEq, iff_false, SlotState.running.injEq]
        exact fun e => hq e.symm
      · rw [if_neg hq, if_neg hk]
        exact names q k
  obtain ⟨v, e⟩ := s.idleRunner_seq r
  rw [e] at inv ⊢
  exact s.setSeq_keeps inv

theorem State.applyStaged_keeps (s : State) : Keeps s s.applyStaged := s.setPalette_keeps _

theorem State.reportIdle_keeps (s : State) : Keeps s s.reportIdle := .ite (fun _ => .refl s) fun _ => s.applyStaged_keeps

theorem State.stopRunner_keeps (s : State) (r c) : Keeps s (s.stopRunner r c) := by
  unfold State.stopRunner
  split
  · exact s.idleRunner_keeps r
  · exact (s.idleRunner_keeps r).trans (State.raise_keeps _ _ _ _)

theorem State.untag_keeps (s : State) (k) : Keeps s (s.untag k) := by
  unfold State.untag
  split
  · exact .refl s
  · next live => exact s.putCue_keeps live rfl

theorem State.dispose_keeps (s : State) (r d) : Keeps s (s.dispose r d) := by
  cases d
  · exact Keeps.foldl _ State.untag_keeps _ s
  · exact s.fadeAll_keeps _
  · exact (s.holdZones_keeps _).trans (State.freeAll_keeps _ _)

theorem State.finishRun_keeps (s : State) (r d) : Keeps s (s.finishRun r d) :=
  ((s.dispose_keeps r d).trans (State.stopRunner_keeps _ _ _)).trans (State.reportIdle_keeps _)

theorem State.abortQuiet_keeps (s : State) (r c) : Keeps s (s.abortQuiet r c) :=
  (s.fadeAll_keeps _).trans (State.stopRunner_keeps _ _ _)

theorem State.abortRunner_keeps (s : State) (r c) : Keeps s (s.abortRunner r c) :=
  (s.abortQuiet_keeps r c).trans (State.reportIdle_keeps _)

/-! ## Steps of a runner (R155 to R162) -/

theorem State.postStep_keeps (s : State) (r t l) : Keeps s (s.postStep r t l) := by
  unfold State.postStep
  split
  · exact s.setRunner_keeps r rfl rfl
  · split
    · exact s.setRunner_keeps r rfl rfl
    · next posted => exact (State.post_keeps posted).trans (State.setRunner_keeps _ r rfl rfl)

theorem State.postStep_sameRuns (s : State) (r t l) : SameRuns s (s.postStep r t l) := by
  unfold State.postStep
  split
  · exact s.setRunner_sameRuns r rfl rfl
  · split
    · exact s.setRunner_sameRuns r rfl rfl
    · next posted => exact (State.post_sameRuns posted).trans (State.setRunner_sameRuns _ r rfl rfl)

theorem State.retireStep_keeps (s : State) (r l m) : Keeps s (s.retireStep r l m) := by
  unfold State.retireStep
  split
  · exact .refl s
  · exact s.retire_keeps _ _ _

theorem State.retireStep_sameRuns (s : State) (r l m) : SameRuns s (s.retireStep r l m) := by
  unfold State.retireStep
  split
  · exact .refl s
  · exact s.retire_sameRuns _ _ _

/-- A label names a live cue (R157). -/
theorem State.labelled_live {s : State} {r l k c} (h : s.labelled r l = some (k, c)) : s.cueAt k = some c := by
  unfold State.labelled at h
  split at h
  · cases h
  · obtain ⟨x, live, e⟩ := Option.map_eq_some_iff.1 h
    obtain ⟨rfl, rfl⟩ := Prod.mk.injEq _ _ _ _ ▸ e
    exact live

theorem State.modifyStep_keeps (s : State) (r l n) : Keeps s (s.modifyStep r l n) := by
  unfold State.modifyStep
  split
  · exact .refl s
  · next named => exact .ite (fun _ => .refl s) fun _ => s.replaceCue_keeps _ (State.labelled_live named) rfl

theorem State.modifyStep_sameRuns (s : State) (r l n) : SameRuns s (s.modifyStep r l n) :=
  .of_seq ((s.modifyStep_only r l n).field .seq)

theorem State.repeatStep_keeps (s : State) (r i t n) : Keeps s (s.repeatStep r i t n).1 := by
  unfold State.repeatStep
  split <;> exact s.setRunner_keeps r rfl rfl

theorem State.repeatStep_sameRuns (s : State) (r i t n) : SameRuns s (s.repeatStep r i t n).1 := by
  unfold State.repeatStep
  split <;> exact s.setRunner_sameRuns r rfl rfl

/-- An active runner goes on waiting. -/
theorem State.waitAt_keeps (s : State) {r : Fin 2} (active : s.seq.runners[r].state.active = true) (i) {x : RunnerState}
    (waits : x.active = true) (w) : Keeps s (s.waitAt r i x w) := by
  refine s.setSeq_keeps fun ⟨act, names⟩ => ?_
  have runner : ∀ q : Fin 2, (s.waitAt r i x w).seq.runners[q] =
      if q = r then { s.seq.runners[r] with state := x, index := i, wait := w } else s.seq.runners[q] :=
    fun q => s.setRunner_runner r q _
  show RunnerInv (s.waitAt r i x w)
  refine ⟨fun q => ?_, fun q k => ?_⟩ <;> rw [runner q]
  · split
    · exact waits.trans (active.symm.trans (act r))
    · exact act q
  · split
    · next e => subst e; exact names q k
    · exact names q k

/-- An advance of an active runner keeps the invariants: its steps leave the runner active until one ends the advance. -/
theorem State.advance_keeps (n : Nat) {r : Fin 2} : ∀ (i : Nat) (s : State), s.seq.runners[r].state.active = true →
    Keeps s (State.advance n r i s) := by
  induction n with
  | zero => exact fun i s active => s.waitAt_keeps active i rfl none
  | succ n ih =>
    intro i s active
    have goOn : ∀ {u : State} (j : Nat), Keeps s u → SameRuns s u → Keeps s (State.advance n r j u) :=
      fun j keeps same => keeps.trans (ih j _ (by rw [(same.1 r).1]; exact active))
    unfold State.advance
    split
    · exact s.waitAt_keeps active i rfl none
    · exact goOn _ (s.postStep_keeps _ _ _) (s.postStep_sameRuns _ _ _)
    · exact goOn _ (s.retireStep_keeps _ _ _) (s.retireStep_sameRuns _ _ _)
    · exact goOn _ (s.modifyStep_keeps _ _ _) (s.modifyStep_sameRuns _ _ _)
    · exact s.waitAt_keeps active i rfl _
    · exact .ite (fun _ => ih _ s active) fun _ => s.waitAt_keeps active i rfl _
    · exact goOn _ (s.repeatStep_keeps _ _ _ _) (s.repeatStep_sameRuns _ _ _ _)
    · exact s.finishRun_keeps _ _

/-! ## Starting (R152 to R154, R169) -/

/-- A runner as it is given a slot (R154), before its first step. -/
def Runner.given (k : Fin 6) (x : Starter) (order : Nat) : Runner :=
  { Runner.idle with state := .timedWait, slot := some k, startedBy := some x, order := some order }

/-- Runner `r` and slot `k` name each other, and the next start has the next order (R154). -/
def State.given (s : State) (r : Fin 2) (k : Fin 6) (x : Starter) : State :=
  s.setSeq { s.seq with
    runners := modifyAt s.seq.runners r fun _ => Runner.given k x s.seq.nextOrder
    slots := modifyAt s.seq.slots k fun q => { q with state := .running r }
    nextOrder := s.seq.nextOrder + 1 }

theorem State.given_runner (s : State) (r q : Fin 2) (k x) : (s.given r k x).seq.runners[q] =
    if q = r then Runner.given k x s.seq.nextOrder else s.seq.runners[q] := getElem_modifyAt _ _ _ _

theorem State.given_slot (s : State) (r : Fin 2) (k j : Fin 6) (x) : (s.given r k x).seq.slots[j] =
    if j = k then { s.seq.slots[k] with state := .running r } else s.seq.slots[j] := getElem_modifyAt _ _ _ _

/-- What giving a runner is made of (R154, R155): the naming, the release of holds, the dark interval and an advance. -/
theorem State.giveRunner_eq (s : State) (r k x) : s.giveRunner r k x = State.advance advanceBound r 0
    (((s.given r k x).releaseZones ((s.given r k x).seq.postedZones k)).reloadDark) := rfl

theorem State.given_keeps (s : State) {r : Fin 2} {k : Fin 6} (idle : s.seq.runners[r].state = .idle)
    (ready : s.seq.slots[k].state = .ready) (x) : Keeps s (s.given r k x) := by
  refine s.setSeq_keeps fun ⟨act, names⟩ => ?_
  have free : s.seq.runners[r].slot = none := by
    have := act r
    rw [idle] at this
    exact Option.not_isSome_iff_eq_none.1 (by rw [← this]; exact Bool.false_ne_true)
  show RunnerInv (s.given r k x)
  refine ⟨fun q => ?_, fun q j => ?_⟩
  · rw [State.given_runner]
    split
    · rfl
    · exact act q
  · rw [State.given_runner, State.given_slot]
    by_cases hq : q = r <;> by_cases hj : j = k
    · simp [hq, hj, Runner.given]
    · rw [if_pos hq, if_neg hj, ← names q j, hq, free]
      simpa [Runner.given] using Ne.symm hj
    · rw [if_neg hq, if_pos hj, names q j, hj, ready]
      simpa using Ne.symm hq
    · rw [if_neg hq, if_neg hj]
      exact names q j

/-- An idle runner is given a READY slot (R154). -/
theorem State.giveRunner_keeps (s : State) {r : Fin 2} {k : Fin 6} (idle : s.seq.runners[r].state = .idle)
    (ready : s.seq.slots[k].state = .ready) (x) : Keeps s (s.giveRunner r k x) := by
  rw [State.giveRunner_eq]
  refine (((s.given_keeps idle ready x).trans (State.releaseZones_keeps _ _)).trans (State.reloadDark_keeps _)).trans
    (State.advance_keeps _ _ _ ?_)
  have same : ((s.given r k x).releaseZones ((s.given r k x).seq.postedZones k)).reloadDark.seq = (s.given r k x).seq :=
    (State.releaseZones_only _ _).field .seq
  rw [same, State.given_runner, if_pos rfl]
  rfl

theorem State.stopRunner_idle (s : State) (r : Fin 2) (c) : (s.stopRunner r c).seq = (s.idleRunner r).seq := by
  unfold State.stopRunner
  split <;> rfl

/-- The arbitration of R152 names an idle runner, or one to pre-empt. -/
theorem Sequencer.arbitrate_free {q : Sequencer} {n : Nat} {r : Fin 2} (h : q.arbitrate n = .free r) :
    q.runners[r].state = .idle := by
  unfold Sequencer.arbitrate at h
  split_ifs at h with h0 h1
  · obtain rfl : 0 = r := by simpa using h
    exact h0
  · obtain rfl : 1 = r := by simpa using h
    exact h1

theorem State.startSlot_keeps {s : State} {k x r s'} (h : s.startSlot k x = .ok (r, s')) : Keeps s s' := by
  unfold State.startSlot at h
  split at h <;> try cases h
  next ready =>
  split at h
  · next free =>
    obtain ⟨rfl, rfl⟩ := by simpa using h
    exact s.giveRunner_keeps (Sequencer.arbitrate_free free) ready x
  · obtain ⟨rfl, rfl⟩ := by simpa using h
    refine (s.abortQuiet_keeps _ _).trans (State.giveRunner_keeps _ ?_ ?_ x)
    · rw [State.abortQuiet, State.stopRunner_idle, State.idleRunner_runner, if_pos rfl]
      rfl
    · rw [State.abortQuiet, State.stopRunner_idle, State.idleRunner_slot]
      split
      · rfl
      · rw [(s.fadeAll_sameRuns _).2 k]
        exact ready
  · cases h

theorem State.wakeStart_keeps (s : State) : Keeps s s.wakeStart := by
  unfold State.wakeStart
  split
  · exact .refl s
  · split
    · exact .refl s
    · split
      · next started => exact State.startSlot_keeps started
      · exact s.raise_keeps _ _ _
      · exact s.raise_keeps _ _ _

/-! ## Waits of a runner (R159 to R161) -/

theorem Runner.waitDue_active {x : Runner} (h : x.waitDue = true) : x.state.active = true := by
  have : x.state = .timedWait := by simp [Runner.waitDue] at h; exact h.1
  rw [this]; rfl

theorem Runner.timeoutDue_active {x : Runner} (h : x.timeoutDue = true) : x.state.active = true := by
  have : x.state = .signalWait := by simp [Runner.timeoutDue] at h; exact h.1
  rw [this]; rfl

theorem State.releasedBy_active {s : State} {n r} (h : s.releasedBy n r = true) :
    s.seq.runners[r].state.active = true := by
  have : s.seq.runners[r].state = .signalWait := by
    simp only [State.releasedBy, Bool.and_eq_true, beq_iff_eq] at h
    exact h.1
  rw [this]; rfl

theorem State.waitExpiry_keeps (s : State) (r) : Keeps s (s.waitExpiry r) :=
  .ite (fun due => State.advance_keeps _ _ s (Runner.waitDue_active due)) fun _ => .refl s

theorem State.raiseTimeout_keeps (s : State) (r) : Keeps s (s.raiseTimeout r) := by
  unfold State.raiseTimeout
  split
  · exact .refl s
  · exact s.raise_keeps _ _ _

theorem State.raiseTimeout_seq (s : State) (r) : (s.raiseTimeout r).seq = s.seq :=
  (s.raiseTimeout_only r).field .seq

theorem State.waitSignalTimeout_keeps (s : State) (r) : Keeps s (s.waitSignalTimeout r) := by
  unfold State.waitSignalTimeout
  refine .ite (fun due => ?_) fun _ => .refl s
  have active : (s.raiseTimeout r).seq.runners[r].state.active = true := by
    rw [State.raiseTimeout_seq]
    exact Runner.timeoutDue_active due
  cases s.seq.timeoutAction r with
  | goOn => exact (s.raiseTimeout_keeps r).trans (State.advance_keeps _ _ _ active)
  | abort => exact (s.raiseTimeout_keeps r).trans (State.abortRunner_keeps _ _ _)
  | goto target =>
    refine ((s.raiseTimeout_keeps r).trans (State.setRunner_keeps _ r rfl rfl)).trans (State.advance_keeps _ _ _ ?_)
    rw [State.setRunner_runner, if_pos rfl]
    exact active

theorem State.wakeRunner_keeps (s : State) (n r) : Keeps s (s.wakeRunner n r) := by
  refine .ite (fun released => ?_) fun _ => .refl s
  refine (s.setRunner_keeps r rfl rfl).trans (State.advance_keeps _ _ _ ?_)
  rw [State.setRunner_runner, if_pos rfl]
  exact State.releasedBy_active released

theorem State.useFree_keeps (s : State) : Keeps s s.useFree := s.setFreeCounter_keeps _

theorem State.wakeRunners_keeps (s : State) (n) : Keeps s (s.wakeRunners n) :=
  .ite
    (fun _ => .ite
      (fun _ => (s.useFree_keeps.trans (State.wakeRunner_keeps _ _ _)).trans (State.wakeRunner_keeps _ _ _))
      fun _ => (s.useFree_keeps.trans (State.wakeRunner_keeps _ _ _)).trans (State.wakeRunner_keeps _ _ _))
    fun _ => (s.wakeRunner_keeps _ _).trans (State.wakeRunner_keeps _ _ _)

/-! ## Signals (R42, R45) -/

/-- Every live cue is passed through `f`, which leaves what fades out. -/
theorem State.mapCues_keeps (s : State) {f : Cue → Cue} (h : ∀ c, (f c).phase.isFadingOut = c.phase.isFadingOut)
    (n : Nat) : Keeps s (s.setCues { s.cues with
      slots := s.cues.slots.map fun x => { x with cue := x.cue.map f }, timeBase := n }) := by
  refine s.setCues_keeps fun listed => CueTable.listed_of_same listed rfl rfl fun k => ?_
  dsimp only [State.setCues]
  simp only [Fin.getElem_fin, Vector.getElem_map, CueSlot.fades]
  cases s.cues.slots[k.val].cue <;> simp [h]

theorem Cue.restartGate_phase (c : Cue) (n v) : (c.restartGate n v).phase = c.phase := by
  unfold Cue.restartGate
  split
  · rfl
  · split <;> rfl

theorem State.signalChange_keeps (s : State) (n) : Keeps s (s.signalChange n) :=
  (s.mapCues_keeps (fun c => by rw [Cue.restartGate_phase]) s.cues.timeBase).trans (State.wakeRunners_keeps _ _)

theorem State.changeSignals_keeps (s : State) (m v) : Keeps s (s.changeSignals m v) :=
  (s.setSignals_keeps _).trans (Keeps.foldl _ State.signalChange_keeps _ _)

end Sys2Proof.Machine

/-! PROOFS. What keeps a chain record in range (O20): each operation of a Chain Controller on one record, from a record that is
in range in the mode in which the operation takes place. -/

namespace Sys2Proof.Machine

open Sys2Proof

/-! ## The parts of the invariant of a chain -/

/-- The settings and counts of a chain record in their ranges (R119). -/
def Chain.sized (c : Chain) : Prop :=
  c.expected ≤ 60 ∧ (c.enabled = true → c.expected ≠ 0) ∧ c.retryLimit ≤ 12 ∧ 50 ≤ c.budget ∧ c.budget ≤ 3000 ∧
    250 ≤ c.restoreInterval ∧ c.restoreInterval ≤ 5000 ∧ c.found ≤ 60 ∧ c.retries ≤ 65535 ∧ c.switches ≤ 255

/-- The greatest ring-loss run of an end in a mode. -/
def ChainMode.runLimit (m : ChainMode) (e : End) : Nat :=
  match m with
  | .split x =>
    match x.phase.side e with
    | some (.relocating _ _) => 13
    | _ => 12
  | .failed | .off => 13
  | _ => 12

/-- A chain record and its node table are in range and agree with what the chain is doing (R119, R120). -/
structure Chain.Ok (c : Chain) : Prop where
  sized : c.sized
  run : ∀ e, c.run e ≤ c.mode.runLimit e
  brk : c.breakOk = true
  nodes : ∀ k : Fin 60, c.nodes[k].inRange ∧ (c.nodes[k].state ≠ .absent ↔ k.val < c.found)
  fresh : c.fresh = true → ∀ k : Fin 60, c.nodes[k].badReplies ≤ 12
  mode : c.modeOk = true

theorem Chain.runOk_iff (c : Chain) (e : End) : c.runOk e = true ↔ c.run e ≤ c.mode.runLimit e := by
  unfold Chain.runOk ChainMode.runLimit
  cases c.mode with
  | split x =>
    dsimp only
    rcases x.phase.side e with _ | _ | _ | _ <;> exact decide_eq_true_iff
  | _ => exact decide_eq_true_iff

theorem Chain.ok_iff (c : Chain) : (c.inRange ∧ c.nodesOk ∧ c.modeOk = true) ↔ c.Ok := by
  constructor
  · rintro ⟨⟨h1, h2, h3, h4, h5, h6, h7, h8, h9, h10, out, inn, brk⟩, ⟨nodes, fresh⟩, mode⟩
    refine ⟨⟨h1, h2, h3, h4, h5, h6, h7, h8, h9, h10⟩, fun e => ?_, brk, nodes, fresh, mode⟩
    cases e
    · exact (c.runOk_iff _).1 out
    · exact (c.runOk_iff _).1 inn
  · rintro ⟨⟨h1, h2, h3, h4, h5, h6, h7, h8, h9, h10⟩, run, brk, nodes, fresh, mode⟩
    exact ⟨⟨h1, h2, h3, h4, h5, h6, h7, h8, h9, h10, (c.runOk_iff _).2 (run _), (c.runOk_iff _).2 (run _), brk⟩,
      ⟨nodes, fresh⟩, mode⟩

theorem ChainMode.runLimit_le (m : ChainMode) (e : End) : m.runLimit e ≤ 13 := by
  unfold ChainMode.runLimit
  cases m with
  | split x => dsimp only; split <;> decide
  | _ => dsimp only; decide

theorem ChainMode.le_runLimit (m : ChainMode) (e : End) : 12 ≤ m.runLimit e := by
  unfold ChainMode.runLimit
  cases m with
  | split x => dsimp only; split <;> decide
  | _ => dsimp only; decide

theorem Chain.Ok.found_le {c : Chain} (h : c.Ok) : c.found ≤ 60 := h.sized.2.2.2.2.2.2.2.1

theorem Chain.Ok.expected_le {c : Chain} (h : c.Ok) : c.expected ≤ 60 := h.sized.1

theorem Chain.Ok.retryLimit_le {c : Chain} (h : c.Ok) : c.retryLimit ≤ 12 := h.sized.2.2.1

theorem Chain.Ok.run_le {c : Chain} (h : c.Ok) (e : End) : c.run e ≤ 13 := (h.run e).trans (ChainMode.runLimit_le _ _)

theorem Chain.sized.with_found {c : Chain} (h : c.sized) {n : Nat} (hn : n ≤ 60) : ({ c with found := n } : Chain).sized := by
  obtain ⟨h1, h2, h3, h4, h5, h6, h7, -, h9, h10⟩ := h
  exact ⟨h1, h2, h3, h4, h5, h6, h7, hn, h9, h10⟩

theorem Chain.sized.retry {c : Chain} (h : c.sized) (n : Nat) : (c.retry n).sized := by
  obtain ⟨h1, h2, h3, h4, h5, h6, h7, h8, -, h10⟩ := h
  exact ⟨h1, h2, h3, h4, h5, h6, h7, h8, Nat.min_le_left _ _, h10⟩

theorem Chain.sized.switched {c : Chain} (h : c.sized) : c.switched.sized := by
  obtain ⟨h1, h2, h3, h4, h5, h6, h7, h8, h9, -⟩ := h
  exact ⟨h1, h2, h3, h4, h5, h6, h7, h8, h9, Nat.min_le_left _ _⟩

/-- How an operation may change a chain record: it keeps it in range, keeps its budget, and takes no chain out of OFF. -/
structure Chain.Goes (c c' : Chain) : Prop where
  ok : c.Ok → c'.Ok
  budget : c'.budget = c.budget
  off : c.mode = .off → c'.mode = .off

theorem Chain.Goes.refl (c : Chain) : c.Goes c := ⟨id, rfl, id⟩

theorem Chain.Goes.trans {c d e : Chain} (h : c.Goes d) (h' : d.Goes e) : c.Goes e :=
  ⟨fun k => h'.ok (h.ok k), h'.budget.trans h.budget, fun k => h'.off (h.off k)⟩

/-! ## Records of nodes -/

@[simp] theorem Chain.mapNodes_node (c : Chain) (f) (k : Fin 60) : (c.mapNodes f).nodes[k] = f (k.val + 1) c.nodes[k] := by
  simp [Chain.mapNodes]

theorem placeOf_succ (k : Fin 60) : placeOf (k.val + 1) = some k := placeOf_eq_some.2 rfl

theorem Chain.nodeAt_eq_some {c : Chain} {p : Nat} {n : Node} (h : c.nodeAt p = some n) :
    ∃ k : Fin 60, p = k.val + 1 ∧ c.nodes[k] = n := by
  obtain ⟨k, place, e⟩ := Option.map_eq_some_iff.1 h
  exact ⟨k, placeOf_eq_some.1 place, e⟩

theorem Chain.nodeAt_succ (c : Chain) (k : Fin 60) : c.nodeAt (k.val + 1) = some c.nodes[k] := by
  rw [Chain.nodeAt, placeOf_succ, Option.map_some]

theorem Chain.setNode_succ (c : Chain) (k : Fin 60) (n) : c.setNode (k.val + 1) n = { c with nodes := c.nodes.set k n } := by
  rw [Chain.setNode, placeOf_succ]

/-- One node record is replaced by one that is in range, ABSENT where the old one was, and of no more bad replies while nodes
are enumerated. -/
theorem Chain.setNode_goes {c : Chain} {k : Fin 60} {n : Node}
    (h : c.Ok → n.inRange ∧ (n.state = .absent ↔ c.nodes[k].state = .absent) ∧ (c.fresh = true → n.badReplies ≤ 12)) :
    c.Goes { c with nodes := c.nodes.set k n } := by
  refine ⟨fun ok => ⟨ok.sized, ok.run, ok.brk, fun j => ?_, fun fr j => ?_, ok.mode⟩, rfl, id⟩ <;>
    dsimp only <;> rw [getElem_setFin] <;> obtain ⟨range, absent, fresh⟩ := h ok
  · split
    · next e => subst e; exact ⟨range, (not_congr absent).trans (ok.nodes j).2⟩
    · exact ok.nodes j
  · split
    · exact fresh fr
    · exact ok.fresh fr j

/-- Every node record is passed through a function that keeps its range, its bad replies and its place. -/
theorem Chain.mapNodes_goes {c : Chain} {f : Nat → Node → Node}
    (h : c.Ok → ∀ k : Fin 60, (f (k.val + 1) c.nodes[k]).inRange ∧
      ((f (k.val + 1) c.nodes[k]).state = .absent ↔ c.nodes[k].state = .absent) ∧
      (c.fresh = true → (f (k.val + 1) c.nodes[k]).badReplies ≤ 12)) : c.Goes (c.mapNodes f) := by
  refine ⟨fun ok => ⟨ok.sized, ok.run, ok.brk, fun k => ?_, fun fr k => ?_, ok.mode⟩, rfl, id⟩ <;>
    rw [Chain.mapNodes_node] <;> obtain ⟨range, absent, fresh⟩ := h ok k
  · exact ⟨range, (not_congr absent).trans (ok.nodes k).2⟩
  · exact fresh fr

/-! ## Operations in any mode -/

theorem Chain.transmit_goes (c : Chain) (e f) : c.Goes (c.transmit e f) :=
  ⟨fun ok => ⟨ok.sized, ok.run, ok.brk, ok.nodes, ok.fresh, ok.mode⟩, rfl, id⟩

theorem Chain.mailbox_goes (c : Chain) (m) : c.Goes { c with mailbox := m } :=
  ⟨fun ok => ⟨ok.sized, ok.run, ok.brk, ok.nodes, ok.fresh, ok.mode⟩, rfl, id⟩

theorem Chain.retry_goes (c : Chain) (n) : c.Goes (c.retry n) :=
  ⟨fun ok => ⟨ok.sized.retry n, ok.run, ok.brk, ok.nodes, ok.fresh, ok.mode⟩, rfl, id⟩

/-- A chain comes to rest in OFF or FAILED from any mode (R125, R142). -/
theorem Chain.rest_goes {c : Chain} {m : ChainMode} (h : m = .off ∨ m = .failed ∧ c.mode ≠ .off) :
    c.Goes { c with mailbox := none, mode := m } := by
  have run : ∀ e, m.runLimit e = 13 := by rcases h with rfl | ⟨rfl, -⟩ <;> exact fun _ => rfl
  refine ⟨fun ok => ⟨ok.sized, fun e => ?_, ?_, ok.nodes, ?_, ?_⟩, rfl, ?_⟩
  · rw [run e]
    exact ok.run_le e
  · rcases h with rfl | ⟨rfl, -⟩ <;> rfl
  · rcases h with rfl | ⟨rfl, -⟩ <;> exact fun hf => absurd hf Bool.false_ne_true
  · rcases h with rfl | ⟨rfl, -⟩ <;> rfl
  · rcases h with rfl | ⟨rfl, on⟩
    · exact fun _ => rfl
    · exact fun off => absurd off on

theorem Chain.stop_goes (c : Chain) : c.Goes c.stop :=
  ((Chain.rest_goes (.inl rfl)).trans (Chain.transmit_goes _ _ _)).trans (Chain.transmit_goes _ _ _)

theorem Chain.fail_goes {c : Chain} (on : c.mode ≠ .off) : c.Goes c.fail :=
  ((Chain.rest_goes (.inr ⟨rfl, on⟩)).trans (Chain.transmit_goes _ _ _)).trans (Chain.transmit_goes _ _ _)

theorem Chain.readBin_goes (c : Chain) (x) : c.Goes (c.readBin x) := by
  unfold Chain.readBin
  split
  · split
    · exact .refl c
    · next n at_ =>
      obtain ⟨k, p, rfl⟩ := Chain.nodeAt_eq_some at_
      rw [p, Chain.setNode_succ]
      exact Chain.setNode_goes fun ok => ⟨(ok.nodes k).1, Iff.rfl, fun fr => ok.fresh fr k⟩
  · exact c.retry_goes 1

theorem Chain.readBins_goes (xs) : ∀ c : Chain, c.Goes (c.readBins xs) := by
  induction xs with
  | nil => exact Chain.Goes.refl
  | cons x xs ih => exact fun c => (c.readBin_goes x).trans (ih _)

/-! ## What the reading of bins leaves -/

/-- The record of a chain but for its node table and its retries total. -/
def Chain.sameButBins (c c' : Chain) : Prop :=
  ∃ nodes retries, c' = { c with nodes := nodes, retries := retries } ∧
    ∀ k : Fin 60, ∃ b, nodes[k] = { c.nodes[k] with bin := b }

theorem Chain.setNode_eq (c : Chain) (p n) : ∃ nodes, c.setNode p n = { c with nodes := nodes } := by
  unfold Chain.setNode
  split <;> exact ⟨_, rfl⟩

theorem Chain.readBins_mode (xs) : ∀ c : Chain, (c.readBins xs).mode = c.mode ∧ (c.readBins xs).found = c.found := by
  induction xs with
  | nil => exact fun c => ⟨rfl, rfl⟩
  | cons x xs ih =>
    intro c
    have one : (c.readBin x).mode = c.mode ∧ (c.readBin x).found = c.found := by
      unfold Chain.readBin
      split
      · split
        · exact ⟨rfl, rfl⟩
        · obtain ⟨nodes, e⟩ := c.setNode_eq x.1 _
          rw [e]
          exact ⟨rfl, rfl⟩
      · exact ⟨rfl, rfl⟩
    exact ⟨(ih _).1.trans one.1, (ih _).2.trans one.2⟩

/-! ## STARTING (R129, R130) -/

/-- A chain in STARTING, in RING or in LOCATING has no break and runs within the retry limit. -/
def ChainMode.whole : ChainMode → Bool
  | .counting _ | .identifying _ _ _ | .ring _ | .locating _ _ _ => true
  | .off | .split _ | .failed => false

theorem Chain.Ok.whole_run {c : Chain} (h : c.Ok) (w : c.mode.whole = true) (e : End) : c.run e ≤ 12 := by
  have := h.run e
  cases m : c.mode <;> simp_all [ChainMode.whole, ChainMode.runLimit]

theorem Chain.Ok.whole_brk {c : Chain} (h : c.Ok) (w : c.mode.whole = true) : c.brk = none := by
  have := h.brk
  cases m : c.mode <;> simp_all [ChainMode.whole, Chain.breakOk]

/-- A chain passes from one of these modes to another. -/
theorem Chain.whole_goes {c : Chain} {m : ChainMode} {done : Bool} (before : c.mode.whole = true) (after : m.whole = true)
    (fresh : c.Ok → ({ c with mode := m, ringDone := done } : Chain).fresh = true → c.fresh = true)
    (mode : c.Ok → ({ c with mode := m, ringDone := done } : Chain).modeOk = true) :
    c.Goes { c with mode := m, ringDone := done } := by
  refine ⟨fun ok => ⟨ok.sized, fun e => ?_, ?_, ok.nodes, fun fr => ok.fresh (fresh ok fr), mode ok⟩, rfl, ?_⟩
  · exact (ok.whole_run before e).trans (ChainMode.le_runLimit _ _)
  · have none' := ok.whole_brk before
    cases m <;> simp_all [ChainMode.whole, Chain.breakOk]
  · intro off
    rw [off] at before
    cases before

/-- The COUNT of a start is sent again. -/
theorem Chain.countAgain_goes {c : Chain} {n : Nat} (m : c.mode = .counting n) (failures) :
    c.Goes (c.countAgain failures) := by
  refine Chain.Goes.trans (Chain.whole_goes (done := c.ringDone) (by rw [m]; rfl) (m := .counting failures) rfl ?_ ?_)
    (Chain.transmit_goes _ _ _)
  · intro _ _
    simp [Chain.fresh, m]
  · intro ok
    simpa [Chain.modeOk, m] using ok.mode

theorem Chain.slow_goes {c : Chain} : c.Goes { c with rate := .slow } :=
  ⟨fun ok => ⟨ok.sized, ok.run, ok.brk, ok.nodes, ok.fresh, ok.mode⟩, rfl, id⟩

/-- Whether every position of a list has been found. -/
theorem Chain.hasFound_iff (c : Chain) (ps : List Nat) : c.hasFound ps = true ↔ ∀ p ∈ ps, 1 ≤ p ∧ p ≤ c.found := by
  simp [Chain.hasFound]

theorem mem_outPositions {n p : Nat} : p ∈ outPositions n ↔ 1 ≤ p ∧ p ≤ n := by
  rw [outPositions, List.mem_range'_1]
  omega

theorem mem_inPositions {n r p : Nat} (h : r ≤ n) : p ∈ inPositions n r ↔ n - r < p ∧ p ≤ n := by
  rw [inPositions, List.mem_reverse, List.mem_range'_1]
  omega

/-- A good COUNT of a start and its first IDENT (R129, R130). -/
theorem Chain.counted_goes {c : Chain} {f n : Nat} (m : c.mode = .counting f) (hn : n ≤ 60) :
    c.Goes ((c.count n).identifyLoop n) := by
  refine Chain.Goes.trans ?_ (Chain.transmit_goes _ _ _)
  refine ⟨fun ok => ?_, rfl, fun off => ?_⟩
  · have none' : c.found = 0 := by simpa [Chain.modeOk, m] using ok.mode
    have fresh := ok.fresh (by simp [Chain.fresh, m])
    have node : ∀ k : Fin 60, (c.count n).nodes[k] =
        if k.val + 1 ≤ n then { c.nodes[k] with state := .suspect } else c.nodes[k] := fun k =>
      Chain.mapNodes_node _ _ _
    refine ⟨ok.sized.with_found hn, fun e => ?_, ?_, fun k => ?_, fun _ k => ?_, ?_⟩
    · exact ok.whole_run (by rw [m]; rfl) e
    · simp [Chain.breakOk, Chain.count, Chain.mapNodes, ok.whole_brk (by rw [m]; rfl)]
    · obtain ⟨⟨r1, -, r3, r4, r5⟩, absent⟩ := ok.nodes k
      show (c.count n).nodes[k].inRange ∧ ((c.count n).nodes[k].state ≠ .absent ↔ k.val < n)
      rw [node k]
      rw [none'] at absent
      split
      · exact ⟨⟨r1, fun _ _ => fresh k, r3, r4, r5⟩, by simp; omega⟩
      · refine ⟨⟨r1, fun _ _ => fresh k, r3, r4, r5⟩, ?_⟩
        rw [absent]
        omega
    · show (c.count n).nodes[k].badReplies ≤ 12
      rw [node k]
      split <;> exact fresh k
    · exact (Chain.hasFound_iff _ _).2 fun p hp => mem_outPositions.1 hp
  · rw [m] at off
    cases off

/-- A COUNT of no node leaves the table as it is (R129). -/
theorem Chain.count_zero_goes {c : Chain} {f : Nat} (m : c.mode = .counting f) : c.Goes (c.count 0) := by
  refine ⟨fun ok => ?_, rfl, id⟩
  have none' : c.found = 0 := by simpa [Chain.modeOk, m] using ok.mode
  have same : ∀ k : Fin 60, (c.count 0).nodes[k] = c.nodes[k] := fun k => by
    rw [Chain.count, Chain.mapNodes_node]
    simp
  refine ⟨ok.sized.with_found (Nat.zero_le _), ok.run, ?_, fun k => ?_, fun fr k => ?_, ?_⟩
  · simpa [Chain.breakOk, Chain.count, Chain.mapNodes, m] using ok.brk
  · rw [same k]
    have := ok.nodes k
    rw [none'] at this
    exact this
  · rw [same k]
    exact ok.fresh fr k
  · simp [Chain.modeOk, Chain.count, Chain.mapNodes, m]

/-- The positions of an IDENT's nodes that are unread, in the modes that enumerate. -/
def ChainMode.unread : ChainMode → List Nat
  | .identifying _ _ us => us
  | .split { phase := .identifying _ _ _ us, .. } => us
  | _ => []

theorem Chain.Ok.unread_found {c : Chain} (h : c.Ok) {p : Nat} (hp : p ∈ c.mode.unread) : 1 ≤ p ∧ p ≤ c.found := by
  have := h.mode
  cases m : c.mode with
  | identifying a b us =>
    simp only [Chain.modeOk, m] at this
    rw [m] at hp
    exact (Chain.hasFound_iff _ _).1 this p hp
  | split x =>
    obtain ⟨o, i, phase, r⟩ := x
    cases phase with
    | identifying e a b us =>
      simp only [Chain.modeOk, m, Bool.and_eq_true] at this
      rw [m] at hp
      exact (Chain.hasFound_iff _ _).1 this.2 p hp
    | _ => rw [m] at hp; cases hp
  | _ => rw [m] at hp; cases hp

/-- A node that no IDENT has read (R130). -/
theorem Chain.markUnread_goes {c : Chain} {k : Fin 60} (h : k.val + 1 ∈ c.mode.unread) :
    c.Goes (c.setNode (k.val + 1) { c.nodes[k] with state := .offline, bin := 0, goodRun := 0 }) := by
  rw [Chain.setNode_succ]
  refine Chain.setNode_goes fun ok => ?_
  obtain ⟨⟨r1, -, -, r4, r5⟩, absent⟩ := ok.nodes k
  have found : k.val < c.found := (ok.unread_found h).2
  refine ⟨⟨r1, fun no => absurd rfl no, Nat.zero_le _, r4, r5⟩, ?_, fun fr => ok.fresh fr k⟩
  have live := absent.2 found
  simpa [-Fin.getElem_fin] using live

/-- The nodes of a stretch that were read enter ONLINE (R130). -/
theorem Chain.markRead_goes {c : Chain} {ps us : List Nat} (fresh : c.fresh = true)
    (found : c.Ok → ∀ p ∈ ps, p ≤ c.found) : c.Goes (c.markRead ps us) := by
  refine Chain.mapNodes_goes fun ok k => ?_
  obtain ⟨⟨r1, r2, r3, r4, r5⟩, absent⟩ := ok.nodes k
  have few := ok.fresh fresh k
  split
  · next read =>
    have place : k.val < c.found := found ok (k.val + 1) (by simp at read; exact read.1)
    refine ⟨⟨r1, fun _ _ => few, r3, r4, r5⟩, ?_, fun _ => few⟩
    have live := absent.2 place
    simpa [-Fin.getElem_fin] using live
  · exact ⟨⟨r1, r2, r3, r4, r5⟩, Iff.rfl, fun _ => few⟩

/-- The chain enters RING from STARTING (R129, R130). -/
theorem Chain.toRing_goes {c : Chain} (w : c.mode.whole = true) : c.Goes { c with mode := .ring none, ringDone := true } :=
  Chain.whole_goes w rfl (fun _ fr => absurd fr Bool.false_ne_true) fun _ => rfl

/-- Another IDENT of a start is sent (R130). -/
theorem Chain.identAgain_goes {c : Chain} {a b us} (m : c.mode = .identifying a b us) (a' b') {us' : List Nat}
    (sub : ∀ p ∈ us', p ∈ us) (f) :
    c.Goes (({ c with mode := .identifying a' b' us' } : Chain).transmit .out f) := by
  refine Chain.Goes.trans (Chain.whole_goes (done := c.ringDone) (by rw [m]; rfl) rfl ?_ ?_) (Chain.transmit_goes _ _ _)
  · intro _ _
    simp [Chain.fresh, m]
  · intro ok
    refine (Chain.hasFound_iff _ _).2 fun p hp => ok.unread_found ?_
    rw [m]
    exact sub p hp

/-! ## LOCATE (R135, R136) -/

/-- A LOCATE begins, from STARTING or from RING (R135). -/
theorem Chain.locate_goes {c : Chain} {fromRing : Bool} (w : c.mode.whole = true) (fresh : fromRing = false → c.fresh = true)
    (ring : c.Ok → fromRing = true → c.ringDone = true) : c.Goes (c.locate fromRing) := by
  refine ((Chain.mailbox_goes c none).trans ?_).trans (Chain.transmit_goes _ _ _)
  refine Chain.whole_goes (c := { c with mailbox := none }) (done := c.ringDone) w rfl ?_ ?_
  · intro ok fr
    cases fromRing with
    | false => exact fresh rfl
    | true =>
      have done := ring ⟨ok.sized, ok.run, ok.brk, ok.nodes, ok.fresh, ok.mode⟩ rfl
      simp [Chain.fresh, done] at fr
  · intro ok
    cases fromRing with
    | false => rfl
    | true =>
      have done := ring ⟨ok.sized, ok.run, ok.brk, ok.nodes, ok.fresh, ok.mode⟩ rfl
      simp [Chain.modeOk, done]

/-- A LOCATE goes on with another probe (R135). -/
theorem Chain.probe_goes {c : Chain} {q second b} (m : c.mode = .locating q second b) (q' second') :
    c.Goes (c.probe q' second' b) := by
  refine Chain.Goes.trans (Chain.whole_goes (done := c.ringDone) (by rw [m]; rfl) rfl ?_ ?_) (Chain.transmit_goes _ _ _)
  · intro _ fr
    simpa [Chain.fresh, m] using fr
  · intro ok
    simpa [Chain.modeOk, m] using ok.mode

/-- The whole-loop probe of a LOCATE from RING returns (R135). -/
theorem Chain.backToRing_goes {c : Chain} {q second} (m : c.mode = .locating q second true) :
    c.Goes { c with mode := .ring none } := by
  refine Chain.whole_goes (done := c.ringDone) (by rw [m]; rfl) rfl (fun _ fr => absurd fr Bool.false_ne_true) fun ok => ?_
  simpa [Chain.modeOk, m] using ok.mode

/-! ## RING (R131 to R134) -/

theorem slotTemperature_range (x : BitVec 48) : -40 ≤ slotTemperature x ∧ slotTemperature x ≤ 150 := by
  unfold slotTemperature
  omega

theorem Node.goodReply_inRange {n : Node} (h : n.inRange) (rejoin reply) :
    (n.goodReply rejoin reply).inRange ∧ ((n.goodReply rejoin reply).state = .absent ↔ n.state = .absent) := by
  obtain ⟨-, -, r3, -, -⟩ := h
  obtain ⟨lo, hi⟩ := slotTemperature_range reply
  unfold Node.goodReply
  cases e : n.state <;> dsimp only <;> (try split_ifs) <;>
    simp_all [Node.inRange]

theorem Node.badReply_inRange {n : Node} (h : n.inRange) {limit : Nat} (hl : limit ≤ 12) :
    (n.badReply limit).inRange ∧ ((n.badReply limit).state = .absent ↔ n.state = .absent) := by
  obtain ⟨r1, r2, r3, r4, r5⟩ := h
  unfold Node.badReply
  cases e : n.state <;> dsimp only <;> (try split_ifs) <;> simp_all [Node.inRange] <;> omega

theorem Chain.goodReply_goes {c : Chain} (fresh : c.fresh = false) (k : Fin 60) (reply) :
    c.Goes (c.setNode (k.val + 1) (c.nodes[k].goodReply c.rejoin reply)) := by
  rw [Chain.setNode_succ]
  refine Chain.setNode_goes fun ok => ?_
  obtain ⟨range, absent⟩ := Node.goodReply_inRange (ok.nodes k).1 c.rejoin reply
  exact ⟨range, absent, fun fr => absurd fr (by simp [fresh])⟩

theorem Chain.badReply_goes {c : Chain} (fresh : c.fresh = false) (k : Fin 60) :
    c.Goes (c.setNode (k.val + 1) (c.nodes[k].badReply c.retryLimit)) := by
  rw [Chain.setNode_succ]
  refine Chain.setNode_goes fun ok => ?_
  obtain ⟨range, absent⟩ := Node.badReply_inRange (ok.nodes k).1 ok.retryLimit_le
  exact ⟨range, absent, fun fr => absurd fr (by simp [fresh])⟩

/-- The run of an end is replaced by one that its mode admits. -/
theorem Chain.setRun_goes {c : Chain} (e : End) {n : Nat} (h : c.Ok → n ≤ 12) : c.Goes (c.setRun e n) := by
  have same : ∀ d, (c.setRun e n).run d = if d = e then n else c.run d := by cases e <;> intro d <;> cases d <;> rfl
  have rest : (c.setRun e n).mode = c.mode ∧ (c.setRun e n).brk = c.brk ∧ (c.setRun e n).nodes = c.nodes ∧
      (c.setRun e n).found = c.found ∧ (c.setRun e n).ringDone = c.ringDone ∧ (c.setRun e n).budget = c.budget := by
    cases e <;> exact ⟨rfl, rfl, rfl, rfl, rfl, rfl⟩
  obtain ⟨mode, brk, nodes, found, done, budget⟩ := rest
  refine ⟨fun ok => ⟨by cases e <;> exact ok.sized, fun d => ?_, ?_, fun k => ?_, fun fr k => ?_, ?_⟩, budget, ?_⟩
  · rw [same d, mode]
    split
    · exact (h ok).trans (ChainMode.le_runLimit _ _)
    · exact ok.run d
  · have := ok.brk
    unfold Chain.breakOk at this ⊢
    rw [mode, brk, found]
    exact this
  · rw [nodes, found]
    exact ok.nodes k
  · rw [nodes]
    refine ok.fresh ?_ k
    unfold Chain.fresh at fr ⊢
    rw [mode, done] at fr
    exact fr
  · have := ok.mode
    unfold Chain.modeOk Chain.hasFound at this ⊢
    rw [mode, found, done]
    exact this
  · rw [mode]
    exact id

/-- RING goes on with another DUTY frame, or none (R131). -/
theorem Chain.ringAgain_goes {c : Chain} {d} (m : c.mode = .ring d) (d') : c.Goes { c with mode := .ring d' } := by
  refine Chain.whole_goes (done := c.ringDone) (by rw [m]; rfl) rfl (fun _ fr => absurd fr Bool.false_ne_true) fun ok => ?_
  simpa [Chain.modeOk, m] using ok.mode

theorem Chain.sendRing_goes {c : Chain} {d} (m : c.mode = .ring d) (set) : c.Goes (c.sendRing set) := by
  refine ((Chain.mailbox_goes c none).trans ?_).trans (Chain.transmit_goes _ _ _)
  exact Chain.ringAgain_goes (c := { c with mailbox := none }) m _

/-! ## SPLIT (R137 to R140) -/

/-- What a record in SPLIT has to meet, in the terms of its split. -/
theorem Chain.split_ok_iff {c : Chain} {x : Split} (m : c.mode = .split x) : c.modeOk = true ↔
    x.outReach + x.inReach ≤ c.found ∧ x.sideOk .out = true ∧ x.sideOk .inn = true ∧
      ∀ e a b us, x.phase = .identifying e a b us → c.hasFound us = true := by
  have unread : (match x.phase with
      | .identifying _ _ _ us => c.hasFound us
      | _ => true) = true ↔ ∀ e a b us, x.phase = .identifying e a b us → c.hasFound us = true := by
    cases x.phase with
    | identifying e a b us => exact ⟨fun h _ _ _ _ same => by cases same; exact h, fun h => h _ _ _ _ rfl⟩
    | _ => simp
  simp only [Chain.modeOk, m, Bool.and_eq_true, decide_eq_true_eq, and_assoc]
  rw [← unread] <;> rfl

theorem Split.mem_positions {x : Split} {n p : Nat} {e : End} (h : x.outReach + x.inReach ≤ n)
    (hp : p ∈ x.positions n e) : 1 ≤ p ∧ p ≤ n := by
  cases e with
  | out =>
    have := mem_outPositions.1 hp
    omega
  | inn =>
    have := (mem_inPositions (by omega)).1 hp
    omega

/-- Whether the sides of a SPLIT chain are being enumerated (R138). -/
def SplitPhase.enumerates : SplitPhase → Bool
  | .counting _ _ | .identifying _ _ _ _ => true
  | _ => false

theorem Chain.fresh_split {c : Chain} {x : Split} (m : c.mode = .split x) : c.fresh = x.phase.enumerates := by
  simp only [Chain.fresh, m, SplitPhase.enumerates] <;> cases x.phase <;> rfl

theorem Chain.breakOk_split {c : Chain} {x : Split} (m : c.mode = .split x) : c.breakOk = true ↔
    c.brk = if x.phase.enumerates then none else some (x.break c.found) := by
  simp only [Chain.breakOk, m, SplitPhase.enumerates]
  cases x.phase <;> simp

/-- A SPLIT chain goes on with another operation, of the same kind as before: enumerating its sides or driving them. -/
theorem Chain.phase_goes {c : Chain} {x y : Split} (m : c.mode = .split x) (out : y.outReach = x.outReach)
    (inn : y.inReach = x.inReach) (kind : y.phase.enumerates = x.phase.enumerates)
    (run : c.Ok → ∀ e, c.run e ≤ (ChainMode.split y).runLimit e) (sides : c.Ok → y.sideOk .out = true ∧ y.sideOk .inn = true)
    (unread : c.Ok → ∀ e a b us, y.phase = .identifying e a b us → c.hasFound us = true) :
    c.Goes { c with mode := .split y } := by
  refine ⟨fun ok => ⟨ok.sized, run ok, ?_, ok.nodes, ?_, ?_⟩, rfl, fun off => ?_⟩
  · have := (Chain.breakOk_split m).1 ok.brk
    rw [Chain.breakOk_split rfl, kind]
    simpa [Split.break, out, inn] using this
  · rw [Chain.fresh_split rfl, kind, ← Chain.fresh_split m]
    exact ok.fresh
  · obtain ⟨fit, -⟩ := (Chain.split_ok_iff m).1 ok.mode
    exact (Chain.split_ok_iff rfl).2 ⟨by rw [out, inn]; exact fit, (sides ok).1, (sides ok).2, unread ok⟩
  · rw [m] at off
    cases off

theorem ChainMode.runLimit_split {x : Split} {e : End} (h : ∀ hop b, x.phase.side e ≠ some (.relocating hop b)) :
    (ChainMode.split x).runLimit e = 12 := by
  unfold ChainMode.runLimit
  dsimp only
  split
  · next e' => exact absurd e' (h _ _)
  · rfl

/-- Where a side is not re-located, the runs lie within the greatest retry limit. -/
theorem Chain.Ok.split_run {c : Chain} {x : Split} (h : c.Ok) (m : c.mode = .split x) {e : End}
    (still : ∀ hop b, x.phase.side e ≠ some (.relocating hop b)) : c.run e ≤ 12 := by
  have := h.run e
  rwa [m, ChainMode.runLimit_split still] at this

theorem SplitPhase.side_enumerates {p : SplitPhase} (h : p.enumerates = true) (e : End) : p.side e = none := by
  cases p <;> cases e <;> first | rfl | cases h

theorem Split.sideOk_none {x : Split} {e : End} (h : x.phase.side e = none) : x.sideOk e = true := by
  simp [Split.sideOk, h]

theorem Split.sideOk_idle {x : Split} {e : End} (h : x.phase.side e = some .idle) : x.sideOk e = true := by
  simp [Split.sideOk, h]

/-- The enumeration of a side goes on (R138). -/
theorem Chain.enumerate_goes {c : Chain} {x : Split} (m : c.mode = .split x) (before : x.phase.enumerates = true)
    {p : SplitPhase} (after : p.enumerates = true)
    (unread : c.Ok → ∀ e a b us, p = .identifying e a b us → c.hasFound us = true) : c.Goes (c.phase x p) := by
  refine Chain.phase_goes m rfl rfl (after.trans before.symm) (fun ok e => ?_) (fun _ => ?_) unread
  · refine (ok.split_run m fun hop b h => ?_).trans (ChainMode.le_runLimit _ _)
    rw [SplitPhase.side_enumerates before] at h
    cases h
  · exact ⟨Split.sideOk_none (SplitPhase.side_enumerates after _), Split.sideOk_none (SplitPhase.side_enumerates after _)⟩

theorem Chain.countSide_goes {c : Chain} {x : Split} (m : c.mode = .split x) (before : x.phase.enumerates = true) (e n) :
    c.Goes (c.countSide x e n) :=
  (Chain.enumerate_goes m before rfl fun _ _ _ _ _ h => by cases h).trans (Chain.transmit_goes _ _ _)

theorem Chain.identifySide_goes {c : Chain} {x : Split} (m : c.mode = .split x) (before : x.phase.enumerates = true)
    (e a b) {us : List Nat} (found : c.Ok → ∀ p ∈ us, 1 ≤ p ∧ p ≤ c.found) : c.Goes (c.identifySide x e a b us) := by
  refine (Chain.enumerate_goes m before rfl fun ok e' a' b' us' h => ?_).trans (Chain.transmit_goes _ _ _)
  cases h
  exact (Chain.hasFound_iff _ _).2 (found ok)

theorem Chain.Ok.split_reach {c : Chain} {x : Split} (h : c.Ok) (m : c.mode = .split x) :
    x.outReach + x.inReach ≤ c.found := ((Chain.split_ok_iff m).1 h.mode).1

/-- The entry to SPLIT is finished (R137, 5 and 7), from a record whose reaches fit. -/
theorem Chain.settleSplit_ok {c : Chain} (x : Split) (sized : c.sized)
    (nodes : ∀ k : Fin 60, c.nodes[k].inRange ∧ (c.nodes[k].state ≠ .absent ↔ k.val < c.found))
    (fit : x.outReach + x.inReach ≤ c.found) : (c.settleSplit x).Ok := by
  refine ⟨Chain.sized.switched sized, fun e => ?_, ?_, nodes, ?_, ?_⟩
  · exact (by cases e <;> exact Nat.zero_le _ : (c.settleSplit x).run e ≤ 12).trans (ChainMode.le_runLimit _ _)
  · exact (Chain.breakOk_split rfl).2 rfl
  · exact fun fr => absurd fr Bool.false_ne_true
  · exact (Chain.split_ok_iff (x := { x with phase := .driving .idle .idle [], restore := c.restoreTimer }) rfl).2
      ⟨fit, rfl, rfl, fun _ _ _ _ h => by cases h⟩

theorem Chain.settleSplit_goes {c : Chain} {x : Split} (m : c.mode = .split x) : c.Goes (c.settleSplit x) :=
  ⟨fun ok => Chain.settleSplit_ok x ok.sized ok.nodes (ok.split_reach m), rfl, fun off => by rw [m] at off; cases off⟩

/-- The node table of a chain that enters SPLIT with reference count `n` (R137, 3 and 4). -/
theorem Chain.splitNode_ok {c : Chain} (ok : c.Ok) {q second b} (m : c.mode = .locating q second b) {n out inn : Nat}
    {renew : Bool} (keep : renew = false → c.ringDone = true ∧ n = c.found)
    (fit : c.ringDone = true → c.found ≤ n) (k : Fin 60) :
    (splitNode n out inn renew (k.val + 1) c.nodes[k]).inRange ∧
      ((splitNode n out inn renew (k.val + 1) c.nodes[k]).state ≠ .absent ↔ k.val < n) := by
  obtain ⟨⟨r1, r2, r3, r4, r5⟩, absent⟩ := ok.nodes k
  unfold splitNode
  split_ifs with beyond gap again
  · refine ⟨⟨r1, fun _ _ => ?_, r3, r4, r5⟩, by simp; omega⟩
    cases done : c.ringDone with
    | false => exact ok.fresh (by simp [Chain.fresh, m, done]) k
    | true =>
      have gone : c.nodes[k].state = .absent := by
        by_contra live
        have := absent.1 live
        have := fit done
        omega
      exact r2 (by rw [gone]; decide) (by rw [gone]; decide)
  · exact ⟨⟨r1, fun _ no => absurd rfl no, r3, r4, r5⟩, by simp; omega⟩
  · exact ⟨⟨Nat.zero_le _, fun _ _ => Nat.zero_le _, Nat.zero_le _, r4, r5⟩, by simp; omega⟩
  · obtain ⟨-, rfl⟩ := keep (by simpa using again)
    exact ⟨⟨r1, r2, r3, r4, r5⟩, absent⟩

theorem Chain.split_node (c : Chain) (n x renew) (k : Fin 60) :
    (c.split n x renew).nodes[k] = splitNode n x.outReach x.inReach renew (k.val + 1) c.nodes[k] :=
  Chain.mapNodes_node _ _ _

/-- A chain enters SPLIT from LOCATING without an enumeration of its sides (R137). -/
theorem Chain.splitSettled_goes {c : Chain} {q second b} (m : c.mode = .locating q second b) {x : Split}
    (done : c.ringDone = true) (fit : x.outReach + x.inReach ≤ c.found) :
    c.Goes ((c.split c.found x false).settleSplit x) := by
  refine ⟨fun ok => Chain.settleSplit_ok x ok.sized (fun k => ?_) fit, rfl, fun off => by rw [m] at off; cases off⟩
  rw [Chain.split_node]
  exact Chain.splitNode_ok ok m (fun _ => ⟨done, rfl⟩) (fun _ => Nat.le_refl _) k

/-- A chain enters SPLIT from LOCATING and its first side is counted (R137, R138). -/
theorem Chain.splitCounted_goes {c : Chain} {q second b} (m : c.mode = .locating q second b) {x : Split} {n : Nat}
    (size : c.Ok → n ≤ 60) (fit : x.outReach + x.inReach ≤ n)
    (grows : c.ringDone = true → c.found ≤ n ∧ x.outReach + x.inReach = n) (e) :
    c.Goes ((c.split n x true).countSide x e 0) := by
  refine Chain.Goes.trans (d := (c.split n x true).phase x (.counting e 0))
    ⟨fun ok => ?_, rfl, fun off => by rw [m] at off; cases off⟩ (Chain.transmit_goes _ _ _)
  have whole : c.mode.whole = true := by rw [m]; rfl
  refine ⟨ok.sized.with_found (size ok), fun d => ?_, ?_, fun k => ?_, fun _ k => ?_, ?_⟩
  · exact (ok.whole_run whole d).trans (ChainMode.le_runLimit _ _)
  · exact (Chain.breakOk_split (x := { x with phase := .counting e 0 }) rfl).2 (ok.whole_brk whole)
  · show (c.split n x true).nodes[k].inRange ∧ ((c.split n x true).nodes[k].state ≠ .absent ↔ k.val < n)
    rw [Chain.split_node]
    exact Chain.splitNode_ok ok m (fun no => by cases no) (fun done => (grows done).1) k
  · show (c.split n x true).nodes[k].badReplies ≤ 12
    rw [Chain.split_node]
    cases done : c.ringDone with
    | false =>
      have few := ok.fresh (by simp [Chain.fresh, m, done]) k
      unfold splitNode
      split_ifs <;> first | exact few | exact Nat.zero_le _
    | true =>
      obtain ⟨⟨r1, r2, -⟩, absent⟩ := ok.nodes k
      obtain ⟨more, sum⟩ := grows done
      unfold splitNode
      split_ifs with beyond gap again
      · have gone : c.nodes[k].state = .absent := by
          by_contra live
          have := absent.1 live
          omega
        exact r2 (by rw [gone]; decide) (by rw [gone]; decide)
      · omega
      · exact Nat.zero_le _
      · exact absurd rfl again
  · exact (Chain.split_ok_iff (x := { x with phase := .counting e 0 }) rfl).2
      ⟨fit, Split.sideOk_none rfl, Split.sideOk_none rfl, fun _ _ _ _ h => by cases h⟩

/-! ## The sides of a SPLIT chain (R139, R140) -/

/-- A phase that drives both sides. -/
theorem SplitPhase.side_some {p : SplitPhase} {e : End} {v : Side} (h : p.side e = some v) :
    ∃ o n set, p = .driving o n set ∧ v = match e with
      | .out => o
      | .inn => n := by
  cases p with
  | driving o n set => cases e <;> exact ⟨o, n, set, rfl, (Option.some.inj h).symm⟩
  | _ => cases e <;> cases h

theorem SplitPhase.withSide_side {p : SplitPhase} {e d : End} {v w : Side} (h : p.side e = some v) :
    (p.withSide e w).side d = if d = e then some w else p.side d := by
  obtain ⟨o, n, set, rfl, -⟩ := SplitPhase.side_some h
  cases e <;> cases d <;> rfl

theorem SplitPhase.withSide_enumerates (p : SplitPhase) (e w) : (p.withSide e w).enumerates = p.enumerates := by
  cases p <;> cases e <;> rfl

/-- One side of a driven SPLIT chain does something else, which agrees with its reach. -/
theorem Chain.withSide_goes {c : Chain} {x : Split} (m : c.mode = .split x) {e : End} {v w : Side}
    (side : x.phase.side e = some v) (run : c.Ok → (∀ hop b, w ≠ .relocating hop b) → c.run e ≤ 12)
    (fits : c.Ok → ({ x with phase := x.phase.withSide e w } : Split).sideOk e = true) :
    c.Goes (c.phase x (x.phase.withSide e w)) := by
  have other : ∀ d, d ≠ e → (x.phase.withSide e w).side d = x.phase.side d := fun d hd => by
    rw [SplitPhase.withSide_side side, if_neg hd]
  have own : (x.phase.withSide e w).side e = some w := by rw [SplitPhase.withSide_side side, if_pos rfl]
  refine Chain.phase_goes m rfl rfl (SplitPhase.withSide_enumerates _ _ _) (fun ok d => ?_) (fun ok => ?_)
    fun ok e' a b us h => ?_
  · by_cases hd : d = e
    · subst hd
      by_cases rel : ∃ hop b, w = .relocating hop b
      · obtain ⟨hop, b, rfl⟩ := rel
        have : (ChainMode.split { x with phase := x.phase.withSide d (.relocating hop b) }).runLimit d = 13 := by
          simp [ChainMode.runLimit, own]
        rw [this]
        exact ok.run_le d
      · exact (run ok fun hop b h => rel ⟨hop, b, h⟩).trans (ChainMode.le_runLimit _ _)
    · have := ok.run d
      rw [m] at this
      unfold ChainMode.runLimit at this ⊢
      dsimp only at this ⊢
      rw [other d hd]
      exact this
  · obtain ⟨-, out, inn, -⟩ := (Chain.split_ok_iff m).1 ok.mode
    have rest : ∀ d, d ≠ e → x.sideOk d = true →
        ({ x with phase := x.phase.withSide e w } : Split).sideOk d = true := fun d hd h => by
      unfold Split.sideOk at h ⊢
      dsimp only
      rw [other d hd]
      cases d <;> exact h
    cases e
    · exact ⟨fits ok, rest _ (by decide) inn⟩
    · exact ⟨rest _ (by decide) out, fits ok⟩
  · obtain ⟨o, n, set, p, -⟩ := SplitPhase.side_some own
    rw [p] at h
    cases h

theorem Split.sideOk_half {x : Split} {e : End} {v : Side} (side : x.phase.side e = some v) (slots) (h : 0 < x.reach e) :
    ({ x with phase := x.phase.withSide e (.half slots) } : Split).sideOk e = true := by
  have own := SplitPhase.withSide_side (d := e) (w := .half slots) side
  rw [if_pos rfl] at own
  unfold Split.sideOk
  dsimp only
  rw [own]
  cases e <;> exact decide_eq_true h

theorem Split.sideOk_relocating {x : Split} {e : End} {v : Side} (side : x.phase.side e = some v) {hop : Nat} (b)
    (h : 1 ≤ hop ∧ hop ≤ x.reach e) :
    ({ x with phase := x.phase.withSide e (.relocating hop b) } : Split).sideOk e = true := by
  have own := SplitPhase.withSide_side (d := e) (w := .relocating hop b) side
  rw [if_pos rfl] at own
  unfold Split.sideOk
  dsimp only
  rw [own]
  cases e <;> exact decide_eq_true h

theorem Split.sideOk_withIdle {x : Split} {e : End} {v : Side} (side : x.phase.side e = some v) :
    ({ x with phase := x.phase.withSide e .idle } : Split).sideOk e = true :=
  Split.sideOk_idle (by dsimp only; rw [SplitPhase.withSide_side side, if_pos rfl])

theorem Chain.sendHalf_goes {c : Chain} {x : Split} (m : c.mode = .split x) {e : End} {v : Side}
    (side : x.phase.side e = some v) (run : c.Ok → c.run e ≤ 12) (reach : c.Ok → 0 < x.reach e) (set) :
    c.Goes (c.sendHalf x e set) :=
  (Chain.withSide_goes m side (fun ok _ => run ok) fun ok => Split.sideOk_half side _ (reach ok)).trans
    (Chain.transmit_goes _ _ _)

theorem Chain.probeSide_goes {c : Chain} {x : Split} (m : c.mode = .split x) {e : End} {v : Side}
    (side : x.phase.side e = some v) {hop : Nat} (h : c.Ok → 1 ≤ hop ∧ hop ≤ x.reach e) (b) :
    c.Goes (c.probeSide x e hop b) :=
  (Chain.withSide_goes m side (fun _ no => absurd rfl (no hop b)) fun ok => Split.sideOk_relocating side b (h ok)).trans
    (Chain.transmit_goes _ _ _)

theorem Chain.sideIdle_goes {c : Chain} {x : Split} (m : c.mode = .split x) {e : End} {v : Side}
    (side : x.phase.side e = some v) (run : c.Ok → c.run e ≤ 12) : c.Goes (c.phase x (x.phase.withSide e .idle)) :=
  Chain.withSide_goes m side (fun ok _ => run ok) fun _ => Split.sideOk_withIdle side

theorem Chain.Ok.relocating {c : Chain} {x : Split} (h : c.Ok) (m : c.mode = .split x) {e : End} {hop : Nat} {b}
    (side : x.phase.side e = some (.relocating hop b)) : 1 ≤ hop ∧ hop ≤ x.reach e := by
  obtain ⟨-, out, inn, -⟩ := (Chain.split_ok_iff m).1 h.mode
  cases e
  · simpa [Split.sideOk, side] using out
  · simpa [Split.sideOk, side] using inn

theorem Chain.Ok.half {c : Chain} {x : Split} (h : c.Ok) (m : c.mode = .split x) {e : End} {slots}
    (side : x.phase.side e = some (.half slots)) : 0 < x.reach e := by
  obtain ⟨-, out, inn, -⟩ := (Chain.split_ok_iff m).1 h.mode
  cases e
  · simpa [Split.sideOk, side] using out
  · simpa [Split.sideOk, side] using inn

theorem Split.withReach_phase (x : Split) (e n) : (x.withReach e n).phase = x.phase := by cases e <;> rfl

theorem Split.withReach_reach (x : Split) (e d n) : (x.withReach e n).reach d = if d = e then n else x.reach d := by
  cases e <;> cases d <;> rfl

/-- A side shrinks to a smaller reach (R140). -/
theorem Chain.shrink_goes {c : Chain} {x : Split} (m : c.mode = .split x) {e : End} {v : Side}
    (side : x.phase.side e = some v) {reach : Nat} (less : c.Ok → reach ≤ x.reach e) (run : c.Ok → c.run e ≤ 12) :
    c.Goes (c.shrink x e reach) := by
  refine ⟨fun ok => ?_, rfl, fun off => by rw [m] at off; cases off⟩
  have fit := ok.split_reach m
  have small := less ok
  have reaches : (x.withReach e reach).outReach + (x.withReach e reach).inReach ≤ c.found := by
    cases e
    · have : reach ≤ x.outReach := small
      show reach + x.inReach ≤ c.found
      omega
    · have : reach ≤ x.inReach := small
      show x.outReach + reach ≤ c.found
      omega
  have other : ∀ d, d ≠ e → (x.phase.withSide e .idle).side d = x.phase.side d := fun d hd => by
    rw [SplitPhase.withSide_side side, if_neg hd]
  have own : (x.phase.withSide e .idle).side e = some .idle := by rw [SplitPhase.withSide_side side, if_pos rfl]
  obtain ⟨o, n, set, driven, -⟩ := SplitPhase.side_some own
  refine ⟨ok.sized, fun d => ?_, ?_, fun k => ?_, ?_, ?_⟩
  · show c.run d ≤ (ChainMode.split { x.withReach e reach with phase := x.phase.withSide e .idle }).runLimit d
    by_cases hd : d = e
    · subst hd
      exact (run ok).trans (ChainMode.le_runLimit _ _)
    · have := ok.run d
      rw [m] at this
      unfold ChainMode.runLimit at this ⊢
      dsimp only at this ⊢
      rw [other d hd]
      exact this
  · refine (Chain.breakOk_split (x := { x.withReach e reach with phase := x.phase.withSide e .idle }) rfl).2 ?_
    dsimp only
    rw [driven]
    rfl
  · have node : (c.shrink x e reach).nodes[k] = if x.beyond c.found e reach (k.val + 1) then
        { c.nodes[k] with state := .unreachable } else c.nodes[k] := Chain.mapNodes_node _ _ _
    show (c.shrink x e reach).nodes[k].inRange ∧ ((c.shrink x e reach).nodes[k].state ≠ .absent ↔ k.val < c.found)
    obtain ⟨⟨r1, r2, r3, r4, r5⟩, absent⟩ := ok.nodes k
    rw [node]
    split
    · next beyond =>
      have place : k.val < c.found := by
        cases e <;> simp only [Split.beyond, decide_eq_true_eq] at beyond <;> omega
      exact ⟨⟨r1, fun _ no => absurd rfl no, r3, r4, r5⟩, by simp [place]⟩
    · exact ⟨⟨r1, r2, r3, r4, r5⟩, absent⟩
  · intro fr
    have := Chain.fresh_split (c := c.shrink x e reach)
      (x := { x.withReach e reach with phase := x.phase.withSide e .idle }) rfl
    rw [fr] at this
    dsimp only at this
    rw [driven] at this
    cases this
  · obtain ⟨-, out, inn, -⟩ := (Chain.split_ok_iff m).1 ok.mode
    have rest : ∀ d, d ≠ e → x.sideOk d = true →
        ({ x.withReach e reach with phase := x.phase.withSide e .idle } : Split).sideOk d = true := fun d hd h => by
      unfold Split.sideOk at h ⊢
      dsimp only
      rw [other d hd]
      cases e <;> cases d <;> first | exact absurd rfl hd | exact h
    refine (Chain.split_ok_iff (x := { x.withReach e reach with phase := x.phase.withSide e .idle }) rfl).2
      ⟨reaches, ?_, ?_, fun e' a b us h => ?_⟩
    · cases e
      · exact Split.sideOk_idle own
      · exact rest _ (by decide) out
    · cases e
      · exact rest _ (by decide) inn
      · exact Split.sideOk_idle own
    · dsimp only at h
      rw [driven] at h
      cases h

/-! ## Restoring (R141) -/

/-- A phase in which both sides rest: idle, or in a restore attempt. -/
def SplitPhase.rests : SplitPhase → Bool
  | .driving .idle .idle _ | .restoreProbe | .restoreCount | .restoreIdent => true
  | _ => false

theorem SplitPhase.rests_side {p : SplitPhase} (h : p.rests = true) (e : End) : p.side e = none ∨ p.side e = some .idle := by
  unfold SplitPhase.rests at h
  split at h <;> cases e <;> simp_all [SplitPhase.side]

theorem SplitPhase.rests_enumerates {p : SplitPhase} (h : p.rests = true) : p.enumerates = false := by
  unfold SplitPhase.rests at h
  split at h <;> simp_all [SplitPhase.enumerates]

/-- A SPLIT chain passes from a phase of rest to another, with any restore timer. -/
theorem Chain.rests_goes {c : Chain} {x y : Split} (m : c.mode = .split x) (out : y.outReach = x.outReach)
    (inn : y.inReach = x.inReach) (before : x.phase.rests = true) (after : y.phase.rests = true) :
    c.Goes { c with mode := .split y } := by
  have sides : ∀ e, y.sideOk e = true := fun e =>
    (SplitPhase.rests_side after e).elim Split.sideOk_none Split.sideOk_idle
  refine Chain.phase_goes m out inn ((SplitPhase.rests_enumerates after).trans (SplitPhase.rests_enumerates before).symm)
    (fun ok e => (ok.split_run m fun hop b h => ?_).trans (ChainMode.le_runLimit _ _)) (fun _ => ⟨sides _, sides _⟩)
    fun _ e a b us h => ?_
  · rcases SplitPhase.rests_side before e with h' | h' <;> rw [h'] at h <;> cases h
  · have := SplitPhase.rests_enumerates after
    rw [h] at this
    cases this

/-- The restore timer of a SPLIT chain is replaced. -/
theorem Chain.restoreTimer_goes {c : Chain} {x : Split} (m : c.mode = .split x) (r) :
    c.Goes { c with mode := .split { x with restore := r } } := by
  refine Chain.phase_goes m rfl rfl rfl (fun ok e => ?_) (fun ok => ?_) fun ok => ?_
  · have := ok.run e
    rwa [m] at this
  · obtain ⟨-, out, inn, -⟩ := (Chain.split_ok_iff m).1 ok.mode
    exact ⟨out, inn⟩
  · exact ((Chain.split_ok_iff m).1 ok.mode).2.2.2

theorem Chain.attemptFailed_goes {c : Chain} {x : Split} (m : c.mode = .split x) (rests : x.phase.rests = true) :
    c.Goes (c.attemptFailed x) := Chain.rests_goes m rfl rfl rests rfl

theorem Chain.attemptStep_goes {c : Chain} {x : Split} (m : c.mode = .split x) (rests : x.phase.rests = true)
    {p : SplitPhase} (after : p.rests = true) (e f) : c.Goes ((c.phase x p).transmit e f) :=
  (Chain.rests_goes (y := { x with phase := p }) m rfl rfl rests after).trans (Chain.transmit_goes _ _ _)

/-- The two sides of a chain that is ready for an attempt are idle. -/
theorem Split.attemptReady_rests {x : Split} (h : x.attemptReady = true) : x.phase.rests = true := by
  simp only [Split.attemptReady, Bool.and_eq_true, beq_iff_eq] at h
  obtain ⟨⟨-, out⟩, inn⟩ := h
  obtain ⟨o, n, set, p, rfl⟩ := SplitPhase.side_some out
  rw [p] at inn ⊢
  obtain rfl : n = .idle := Option.some.inj inn
  rfl

theorem Chain.attempt_goes (c : Chain) : c.Goes c.attempt := by
  unfold Chain.attempt
  split
  · next x m =>
    split
    · next ready =>
      exact (Chain.rests_goes (y := { x with restore := .stopped, phase := .restoreProbe }) m rfl rfl
        (Split.attemptReady_rests ready) rfl).trans (Chain.transmit_goes _ _ _)
    · exact .refl c
  · exact .refl c

theorem Chain.restoreExpired_goes (c : Chain) : c.Goes c.restoreExpired := by
  unfold Chain.restoreExpired
  split
  · next x m =>
    split
    · exact Chain.restoreTimer_goes m _
    · exact .refl c
  · exact .refl c

/-- The loop is restored (R141). -/
theorem Chain.restored_goes {c : Chain} {x : Split} (m : c.mode = .split x) (replies) : c.Goes (c.restored replies) := by
  have read := c.readBins_goes replies
  have renewed : (c.readBins replies).Goes ((c.readBins replies).mapNodes fun _ n =>
      if n.state = .unreachable then { n with state := .suspect, badReplies := 0, goodRun := 0 } else n) := by
    refine Chain.mapNodes_goes fun ok k => ?_
    obtain ⟨⟨r1, r2, r3, r4, r5⟩, -⟩ := ok.nodes k
    split
    · next un => exact ⟨⟨Nat.zero_le _, fun _ _ => Nat.zero_le _, Nat.zero_le _, r4, r5⟩, by simp [-Fin.getElem_fin, un],
        fun _ => Nat.zero_le _⟩
    · exact ⟨⟨r1, r2, r3, r4, r5⟩, Iff.rfl, fun fr => ok.fresh fr k⟩
  have both := read.trans renewed
  refine ⟨fun ok => ?_, both.budget, fun off => by rw [m] at off; cases off⟩
  obtain ⟨sized, -, -, nodes, -, -⟩ := both.ok ok
  refine ⟨Chain.sized.switched sized, fun e => ?_, rfl, nodes, fun fr => absurd fr Bool.false_ne_true, rfl⟩
  exact (by cases e <;> exact Nat.zero_le _ : (c.restored replies).run e ≤ 12)

/-! ## Sending a set (R131, R139) -/

theorem Chain.sendIdle_goes (c : Chain) (e : End) : c.Goes (c.sendIdle e) := by
  unfold Chain.sendIdle
  split
  · next x m =>
    split
    · next h =>
      obtain ⟨idle, reach⟩ := h
      refine Chain.sendHalf_goes m idle (fun ok => ok.split_run m fun hop b r => ?_) (fun _ => reach) _
      rw [idle] at r
      cases r
    · exact .refl c
  · exact .refl c

theorem Chain.takeSplit_goes {c : Chain} {x : Split} (m : c.mode = .split x) (set) : c.Goes (c.takeSplit x set) := by
  unfold Chain.takeSplit
  split
  · next o n old p =>
    refine ((Chain.Goes.trans (c.mailbox_goes none) ?_).trans (Chain.sendIdle_goes _ _)).trans (Chain.sendIdle_goes _ _)
    have sides : ∀ e, (SplitPhase.driving o n set).side e = x.phase.side e := by rw [p]; intro e; cases e <;> rfl
    refine Chain.phase_goes (c := { c with mailbox := none }) (x := x) m rfl rfl (by rw [p]; rfl) (fun ok e => ?_)
      (fun ok => ?_) fun ok e a b us h => by cases h
    · have := ok.run e
      dsimp only at this
      rw [m] at this
      unfold ChainMode.runLimit at this ⊢
      dsimp only at this ⊢
      rw [sides e]
      exact this
    · obtain ⟨-, out, inn, -⟩ := (Chain.split_ok_iff (c := { c with mailbox := none }) m).1 ok.mode
      unfold Split.sideOk at out inn ⊢
      dsimp only
      rw [sides, sides]
      exact ⟨out, inn⟩
  · exact .refl c

theorem Chain.dutySend_goes (c : Chain) : c.Goes c.dutySend := by
  unfold Chain.dutySend
  split
  · next m => exact Chain.sendRing_goes m _
  · next m =>
    split
    · exact Chain.takeSplit_goes m _
    · exact .refl c
  · exact .refl c

/-! ## Configuring, starting, rejoining (R123, R124, R127) -/

theorem Chain.rejoinChanged_eq (c : Chain) (before) : c.rejoinChanged before = c ∨
    ∃ x r, c.mode = .split x ∧ c.rejoinChanged before = { c with mode := .split { x with restore := r } } := by
  unfold Chain.rejoinChanged
  split
  · next x m =>
    split_ifs
    · exact .inl rfl
    · exact .inr ⟨x, _, m, rfl⟩
    · exact .inr ⟨x, _, m, rfl⟩
    · exact .inl rfl
  · exact .inl rfl

theorem Chain.rejoinChanged_goes (c : Chain) (before) : c.Goes (c.rejoinChanged before) := by
  rcases c.rejoinChanged_eq before with e | ⟨x, r, m, e⟩ <;> rw [e]
  · exact .refl c
  · exact Chain.restoreTimer_goes m r

theorem Chain.start_ok {c : Chain} (h : c.Ok) : c.start.Ok := by
  refine ⟨?_, fun e => ?_, rfl, fun k => ?_, fun _ k => ?_, rfl⟩
  · exact h.sized.with_found (Nat.zero_le _)
  · exact (by cases e <;> exact Nat.zero_le _ : c.start.run e ≤ 12)
  · have : c.start.nodes[k] = Node.cleared := by simp [Chain.start, Chain.transmit]
    rw [this]
    refine ⟨by decide, ?_⟩
    show Node.cleared.state ≠ .absent ↔ k.val < 0
    simp [Node.cleared]
  · have : c.start.nodes[k] = Node.cleared := by simp [Chain.start, Chain.transmit]
    rw [this]
    decide

end Sys2Proof.Machine

/-! PROOFS. What keeps the invariants, continued: the chains, the Power Controller, the composition frame, the commands, and
the step (O13 to O20). -/

namespace Sys2Proof.Machine

open Sys2Proof

/-! ## Chains in the part -/

theorem State.setChain_chain (s : State) (i j : Fin 4) (c) :
    (s.setChain i c).chains[j] = if j = i then c else s.chains[j] := by
  rw [State.setChain_chains, getElem_setFin]

@[simp] theorem State.setChain_self (s : State) (i : Fin 4) (c) : (s.setChain i c).chains[i] = c := by
  rw [State.setChain_chain, if_pos rfl]

@[simp] theorem State.updateChain_self (s : State) (i : Fin 4) (f) : (s.updateChain i f).chains[i] = f s.chains[i] :=
  s.setChain_self i _

/-- The Composer after a chain record has been replaced: the frame in flight may be marked (R117). -/
theorem State.setChain_composer (s : State) (i : Fin 4) (c : Chain) : (s.setChain i c).composer =
    if s.chains[i].mode.state = c.mode.state then s.composer else s.composer.markLeft i := by
  unfold State.setChain
  dsimp only
  split <;> rfl

theorem Composer.markLeft_frame {c : Composer} {i : Fin 4} {f : Frame} :
    f ∈ (c.markLeft i).frame ↔ ∃ g ∈ c.frame, f = { g with left := g.left ||| BitVec.twoPow 4 i } := by
  simp only [Composer.markLeft, Option.mem_def, Option.map_eq_some_iff]
  exact exists_congr fun g => and_congr_right fun _ => eq_comm

/-- A chain record is replaced: it stays in range, its budget stays within 3000, and it leaves OFF only where chains may run. -/
theorem State.setChain_keeps_of (s : State) {i : Fin 4} {c : Chain} (ok : s.chains[i].Ok → c.Ok)
    (budget : s.chains[i].budget ≤ 3000 → c.budget ≤ 3000)
    (off : s.power.state.chainsOff = true → s.chains[i].mode = .off → c.mode = .off) : Keeps s (s.setChain i c) := by
  have only := s.setChain_only i c
  have chain := s.setChain_chain i
  have comp := s.setChain_composer i c
  have frame : ∀ f ∈ (s.setChain i c).composer.frame, ∃ g ∈ s.composer.frame, f.snap = g.snap ∧
      f.discarded = g.discarded ∧ ((s.chains[i].mode.state = c.mode.state ∧ f.left = g.left) ∨
        f.left = g.left ||| BitVec.twoPow 4 i) := by
    intro f hf
    rw [comp] at hf
    split at hf
    · exact ⟨f, hf, rfl, rfl, .inl ⟨‹_›, rfl⟩⟩
    · obtain ⟨g, hg, rfl⟩ := Composer.markLeft_frame.1 hf
      exact ⟨g, hg, rfl, rfl, .inr rfl⟩
  have latest : (s.setChain i c).composer.latest = s.composer.latest := by rw [comp]; split <;> rfl
  have timer : (s.setChain i c).composer.timer = s.composer.timer := by rw [comp]; split <;> rfl
  have flight : s.composer.frame = none → (s.setChain i c).composer.frame = none := by
    intro none'
    rw [comp]
    split
    · exact none'
    · simp [Composer.markLeft, none']
  have notices : (s.setChain i c).notices = s.notices := only.field .notices
  have noticeLow : (s.setChain i c).noticeLow = s.noticeLow := only.field .noticeLow
  have resetLow : (s.setChain i c).resetLow = s.resetLow := only.field .resetLow
  have cues : (s.setChain i c).cues = s.cues := only.field .cues
  have watches : (s.setChain i c).watches = s.watches := only.field .watches
  have zones : (s.setChain i c).zones = s.zones := only.field .zones
  have cond : (s.setChain i c).cond = s.cond := only.field .cond
  have seq : (s.setChain i c).seq = s.seq := only.field .seq
  have power : (s.setChain i c).power = s.power := only.field .power
  have supply : (s.setChain i c).supplyEn = s.supplyEn := only.field .supplyEn
  refine ⟨fun h => resetLow.trans h, fun _ h => ?_, fun h => ?_, fun h => ?_, fun h => ?_, fun h => ?_, fun h => ?_,
    fun _ h => ?_, fun h => ?_⟩
  · rw [NoticeInv, notices, noticeLow, resetLow]
    exact h
  · rw [CueInv, cues]
    exact h
  · rw [WatchInv, watches]
    exact h
  · rw [ZoneInv, zones, latest]
    refine ⟨fun z => ?_, h.2⟩
    obtain ⟨nodup, size, trim, fits, places, last, inFlight⟩ := h.1 z
    refine ⟨nodup, size, trim, fits, places, last, fun f hf => ?_⟩
    obtain ⟨g, hg, snap, discarded, -⟩ := frame f hf
    rw [snap, discarded]
    exact inFlight g hg
  · rw [LevelInv, cond]
    obtain ⟨h1, h2, h3, h4, h5, h6, h7, h8, h9, h10, h11, h12, h13, h14, budgets, inFlight⟩ := h
    refine ⟨h1, h2, h3, h4, h5, h6, h7, h8, h9, h10, h11, h12, h13, h14, fun j => ?_, fun f hf j => ?_⟩
    · rw [chain j]
      split
      · exact budget (budgets i)
      · exact budgets j
    · obtain ⟨g, hg, snap, -⟩ := frame f hf
      rw [snap]
      exact inFlight g hg j
  · rw [RunnerInv, seq]
    exact h
  · rw [PowerInv, power, supply, resetLow, timer]
    obtain ⟨h1, h2, h3, h4, h5, h6, h7, allOff, h9, h10⟩ := h
    refine ⟨h1, h2, h3, h4, h5, h6, h7, fun dark j => ?_, fun dormant => flight (h9 dormant), h10⟩
    rw [chain j]
    split
    · exact off dark (allOff dark i)
    · exact allOff dark j
  · obtain ⟨records, marks⟩ := h
    refine ⟨fun j => ?_, fun f hf j unmarked => ?_⟩
    · rw [chain j]
      split
      · exact (Chain.ok_iff _).2 (ok ((Chain.ok_iff _).1 (records i)))
      · exact records j
    · obtain ⟨g, hg, snap, -, left⟩ := frame f hf
      rw [chain j, snap]
      rcases left with ⟨same, left⟩ | left
      · rw [left] at unmarked
        split
        · next e => subst e; exact same.symm.trans (marks g hg j unmarked)
        · exact marks g hg j unmarked
      · rw [left] at unmarked
        split
        · next e => subst e; simp [-Fin.getElem_fin] at unmarked
        · refine marks g hg j ?_
          rw [BitVec.getLsbD_or, Bool.or_eq_false_iff] at unmarked
          exact unmarked.1

theorem State.setChain_keeps (s : State) {i : Fin 4} {c : Chain} (g : s.chains[i].Goes c) : Keeps s (s.setChain i c) :=
  s.setChain_keeps_of g.ok (fun h => by rw [g.budget]; exact h) fun _ => g.off

theorem State.updateChain_keeps (s : State) {i : Fin 4} {f : Chain → Chain} (g : s.chains[i].Goes (f s.chains[i])) :
    Keeps s (s.updateChain i f) := s.setChain_keeps g

/-- Two changes of one record, of which one keeps the chain's state, are one change (R117). -/
theorem State.updateChain_updateChain (s : State) (i : Fin 4) (f g : Chain → Chain)
    (h : (f s.chains[i]).mode.state = s.chains[i].mode.state ∨
      (g (f s.chains[i])).mode.state = (f s.chains[i]).mode.state) :
    (s.updateChain i f).updateChain i g = s.updateChain i fun c => g (f c) := by
  have eq : ∀ (s : State) (c : Chain), s.setChain i c = (s.setChains (s.chains.set i c)).setComposer
      (if s.chains[i].mode.state = c.mode.state then s.composer else s.composer.markLeft i) := fun s c => by
    unfold State.setChain
    dsimp only
    split <;> rfl
  have records : (s.chains.set i (f s.chains[i])).set i (g (f s.chains[i])) = s.chains.set i (g (f s.chains[i])) :=
    Vector.set_set ..
  have marks : (if (f s.chains[i]).mode.state = (g (f s.chains[i])).mode.state
        then (if s.chains[i].mode.state = (f s.chains[i]).mode.state then s.composer else s.composer.markLeft i)
        else (if s.chains[i].mode.state = (f s.chains[i]).mode.state then s.composer else s.composer.markLeft i).markLeft i) =
      if s.chains[i].mode.state = (g (f s.chains[i])).mode.state then s.composer else s.composer.markLeft i := by
    rcases h with same | same <;> simp [-Fin.getElem_fin, same]
  unfold State.updateChain
  rw [State.setChain_self, eq (s.setChain i _), State.setChain_self, State.setChain_composer, marks, eq s (g _), eq s (f _)]
  exact congrArg (fun v => (s.setChains v).setComposer
    (if s.chains[i].mode.state = (g (f s.chains[i])).mode.state then s.composer else s.composer.markLeft i)) records

/-! ## The Output Conditioner -/

/-- Every field of the Output Conditioner lies in its range (R98). -/
def Conditioner.ranged (c : Conditioner) : Prop :=
  c.lux ≤ 65535 ∧ 2 ≤ c.curve.length ∧ c.curve.length ≤ 8 ∧ luxAscending c.curve = true ∧
    (∀ p ∈ c.curve, p.lux ≤ 65535 ∧ p.level ≤ 1000) ∧ c.master ≤ 1000 ∧ 1 ≤ c.slew ∧ c.slew ≤ 1000 ∧ c.level ≤ 1000 ∧
    (∀ b : Fin 16, c.bins[b].inRange) ∧ -40 ≤ c.knee ∧ c.knee < c.limit ∧ c.limit ≤ 150 ∧
    (∀ i : Fin 4, c.perChain[i].inRange)

theorem levelInv_iff (s : State) : LevelInv s ↔ s.cond.ranged ∧ (∀ i : Fin 4, s.chains[i].budget ≤ 3000) ∧
    ∀ f ∈ s.composer.frame, ∀ i : Fin 4, f.snap.chains[i].budget ≤ 3000 := by
  simp only [LevelInv, Conditioner.ranged, and_assoc]

theorem State.setCond_keeps_of (s : State) {v} (h : s.cond.ranged → v.ranged) : Keeps s (s.setCond v) :=
  s.setCond_keeps fun k => (levelInv_iff _).2 ⟨h ((levelInv_iff s).1 k).1, ((levelInv_iff s).1 k).2⟩

theorem segmentLevel_le {a b : CurvePoint} {x : Nat} (ha : a.level ≤ 1000) (hb : b.level ≤ 1000) (hx : x < b.lux) :
    segmentLevel a b x ≤ 1000 := by
  unfold segmentLevel
  split
  · next rises =>
    have : (b.level - a.level) * (x - a.lux) / (b.lux - a.lux) ≤ b.level - a.level := by
      refine Nat.div_le_of_le_mul ?_
      rw [Nat.mul_comm]
      exact Nat.mul_le_mul_right _ (by omega)
    omega
  · exact (Nat.sub_le _ _).trans ha

theorem curveLevelFrom_le {ps : List CurvePoint} {x : Nat} : ∀ {a : CurvePoint}, a.level ≤ 1000 →
    (∀ p ∈ ps, p.level ≤ 1000) → curveLevelFrom a ps x ≤ 1000 := by
  induction ps with
  | nil => exact fun ha _ => ha
  | cons b ps ih =>
    intro a ha hps
    have hb := hps b (List.mem_cons_self ..)
    unfold curveLevelFrom
    split
    · exact segmentLevel_le ha hb ‹_›
    · exact ih hb fun p hp => hps p (List.mem_cons_of_mem _ hp)

theorem curveLevelOf_le {curve : List CurvePoint} (h : ∀ p ∈ curve, p.level ≤ 1000) (x : Nat) :
    curveLevelOf curve x ≤ 1000 := by
  unfold curveLevelOf
  split
  · exact Nat.zero_le _
  · next a rest =>
    have ha := h a (List.mem_cons_self ..)
    split
    · exact ha
    · exact curveLevelFrom_le ha fun p hp => h p (List.mem_cons_of_mem _ hp)

theorem Conditioner.target_le {c : Conditioner} (h : c.ranged) : c.target ≤ 1000 := by
  obtain ⟨-, -, -, -, points, master, -⟩ := h
  have : c.curveLevel ≤ 1000 := curveLevelOf_le (fun p hp => (points p hp).2) _
  exact Nat.div_le_of_le_mul (Nat.mul_le_mul this master)

theorem Conditioner.ranged.with_level {c : Conditioner} (h : c.ranged) {n : Nat} (hn : n ≤ 1000) :
    ({ c with level := n } : Conditioner).ranged := by
  obtain ⟨h1, h2, h3, h4, h5, h6, h7, h8, -, rest⟩ := h
  exact ⟨h1, h2, h3, h4, h5, h6, h7, h8, hn, rest⟩

theorem Conditioner.ranged.settled {c : Conditioner} (h : c.ranged) : c.settled.ranged :=
  h.with_level (Conditioner.target_le h)

theorem Conditioner.ranged.moved {c : Conditioner} (h : c.ranged) : c.moved.ranged := by
  refine h.with_level ?_
  have hi := Conditioner.target_le h
  obtain ⟨-, -, -, -, -, -, -, -, level, -⟩ := h
  unfold moveLevel
  split_ifs <;> omega

theorem Conditioner.ranged.with_perChain {c : Conditioner} (h : c.ranged) {v : Vector ChainOutput 4}
    (hv : ∀ i : Fin 4, c.perChain[i].inRange → v[i].inRange) : ({ c with perChain := v } : Conditioner).ranged := by
  obtain ⟨h1, h2, h3, h4, h5, h6, h7, h8, h9, h10, h11, h12, h13, outputs⟩ := h
  exact ⟨h1, h2, h3, h4, h5, h6, h7, h8, h9, h10, h11, h12, h13, fun i => hv i (outputs i)⟩

theorem ChainOutput.initial_inRange : ChainOutput.initial.inRange := by decide

theorem Conditioner.ranged.withOutput {c : Conditioner} (h : c.ranged) (i : Fin 4) {x : ChainOutput} (hx : x.inRange) :
    (c.withOutput i x).ranged := by
  refine h.with_perChain fun j hj => ?_
  rw [getElem_setFin]
  split
  · exact hx
  · exact hj

theorem Conditioner.ranged.resetUndriven {c : Conditioner} (h : c.ranged) (chains) : (c.resetUndriven chains).ranged := by
  refine h.with_perChain fun j hj => ?_
  simp only [Fin.getElem_fin, Vector.getElem_mapFinIdx]
  split
  · exact hj
  · exact ChainOutput.initial_inRange

theorem thermalFactor_ge (knee limit : Int) (hottest : Option Int) : 300 ≤ thermalFactor knee limit hottest := by
  unfold thermalFactor
  split
  · decide
  · next t =>
    split_ifs with low mid
    · decide
    · have : (700 * (t - knee) / (limit - knee)).toNat ≤ 700 := by
        have : 700 * (t - knee) / (limit - knee) ≤ 700 := Int.ediv_le_of_le_mul (by omega) (by nlinarith)
        omega
      omega
    · decide

/-- What a frame with budgets in range records of a chain lies in range (R98, R114). -/
theorem Snapshot.output_inRange {f : Snapshot} {i : Fin 4} (h : f.chains[i].budget ≤ 3000) : (f.output i).inRange := by
  refine ⟨thermalFactor_ge _ _ _, thermalFactor_le _ _ _, budgetFactor_le _ _, ?_⟩
  have draw : totalLoad f.bins (f.budgeted i) ≤ 40950 * f.chains[i].budget := f.budgeted_draw_le i
  show totalLoad f.bins (f.budgeted i) / 4095 ≤ 30000
  omega

/-! ## The Composer and the transitions of the power state -/

/-- The Power Controller's fields, the frame timer and SUPPLY_EN are replaced together. -/
def State.transition (s : State) (p : Power) (timer : Option Nat) (supply : Bool) : State :=
  ((s.setPower p).setComposer { s.composer with timer := timer }).setSupplyEn supply

theorem State.transition_keeps (s : State) {p timer supply}
    (h : s.resetLow = false → PowerInv s → PowerInv (s.transition p timer supply)) : Keeps s (s.transition p timer supply) :=
  ⟨id, fun _ => id, id, id, id, id, id, h, id⟩

/-- The frame in flight completes in the Composer (R85): its composites become the latest. -/
theorem State.record_keeps (s : State) {f : Frame} (h : s.composer.frame = some f) :
    Keeps s (s.setComposer (s.composer.record f)) where
  awake := id
  notice _ := id
  cue := id
  watch := id
  zone := by
    rintro ⟨each, apart⟩
    refine ⟨fun z => ?_, apart⟩
    obtain ⟨nodup, size, trim, fits, places, latest, frame⟩ := each z
    refine ⟨nodup, size, trim, fits, places, ?_, fun g hg => by cases hg⟩
    have last : (s.composer.record f).latest[z] =
        if f.discarded.getLsbD z then s.composer.latest[z] else some (f.snap.composite z) := by
      simp [Composer.record]
    intro c hc
    simp only [State.setComposer_composer, last] at hc
    split at hc
    · exact latest c hc
    · next kept =>
      obtain rfl := Option.some.inj hc
      exact frame f h (Bool.eq_false_of_not_eq_true kept)
  level k := by
    obtain ⟨cond, budgets, -⟩ := (levelInv_iff s).1 k
    exact (levelInv_iff _).2 ⟨cond, budgets, fun g hg => by cases hg⟩
  runner := id
  power _ := fun ⟨supply, timer, dest, cause, wake, dark, powering, off, _, pending⟩ =>
    ⟨supply, timer, dest, cause, wake, dark, powering, off, fun _ => rfl, pending⟩
  chain := fun ⟨records, _⟩ => ⟨records, fun g hg => by cases hg⟩

theorem State.finishLastFrame_keeps (s : State) : Keeps s s.finishLastFrame := by
  unfold State.finishLastFrame
  split
  · exact .refl s
  · next flight => exact s.record_keeps flight

theorem State.discardAll_keeps (s : State) : Keeps s (s.setComposer s.composer.discardAll) where
  awake := id
  notice _ := id
  cue := id
  watch := id
  zone := by
    rintro ⟨each, apart⟩
    refine ⟨fun z => ?_, apart⟩
    obtain ⟨nodup, size, trim, fits, places, -, -⟩ := each z
    refine ⟨nodup, size, trim, fits, places, fun c hc => ?_, fun f hf kept => ?_⟩
    · simp [Composer.discardAll] at hc
    · obtain ⟨g, -, rfl⟩ := Option.map_eq_some_iff.1 hf
      exact absurd (kept.symm.trans ((BitVec.getLsbD_allOnes ..).trans (decide_eq_true z.isLt))) Bool.false_ne_true
  level k := by
    obtain ⟨cond, budgets, frames⟩ := (levelInv_iff s).1 k
    refine (levelInv_iff _).2 ⟨cond, budgets, fun f hf => ?_⟩
    obtain ⟨g, hg, rfl⟩ := Option.map_eq_some_iff.1 hf
    exact frames g hg
  runner := id
  power _ := fun ⟨supply, timer, dest, cause, wake, dark, powering, off, frame, pending⟩ =>
    ⟨supply, timer, dest, cause, wake, dark, powering, off, fun d => by
      simp [Composer.discardAll, frame d], pending⟩
  chain := fun ⟨records, marks⟩ => ⟨records, fun f hf => by
    obtain ⟨g, hg, rfl⟩ := Option.map_eq_some_iff.1 hf
    exact marks g hg⟩

theorem State.relight_keeps (s : State) : Keeps s s.relight :=
  (s.setCond_keeps_of fun h => h.settled).trans (State.discardAll_keeps _)

theorem State.enterPowering_keeps (s : State) (h : s.power.state = .standby) (cause) : Keeps s (s.enterPowering cause) := by
  refine s.transition_keeps (p := { s.power with
    state := .powering, settle := some s.power.settleTime, awaited := 0, cause := some cause })
    (timer := s.composer.timer) (supply := true) fun awake inv => ?_
  obtain ⟨supply, timer, dest, -, wake, dark, -, -, -, -⟩ := inv
  rw [h] at timer dest wake dark
  refine ⟨?_, timer, dest, rfl, wake, fun d => absurd (dark d) (by decide), ⟨fun _ => .inl rfl, fun _ => rfl⟩,
    fun d => absurd d Bool.false_ne_true, fun d => absurd d (show PowerState.powering ≠ .dormant by decide),
    fun _ => .inr (.inl rfl)⟩
  show true = (!s.resetLow && _)
  rw [awake]
  rfl

theorem State.raisePower_keeps (s : State) (x c) : Keeps s (s.raisePower x c) := s.raise_keeps _ _ _

/-- The Power Controller in LIT (R176, 1 to 4). -/
def Power.lit (p : Power) : Power :=
  Power.reloadDark { p with state := .lit, envStart := 0, envElapsed := 0, cause := none, awaited := 0, settle := none }

/-- Steps 1 to 5 of R176 as one change of the power fields after what they make of the composites, the level and the notices. -/
theorem State.lightUp_eq (s : State) : s.lightUp =
    (s.finishLastFrame.relight.raisePower .lit (PathCause.detail s.power.cause)).transition
      s.finishLastFrame.power.lit (some 0) s.finishLastFrame.supplyEn := by
  unfold State.lightUp
  generalize s.finishLastFrame = t
  rfl

theorem State.finishLastFrame_power (s : State) : s.finishLastFrame.power = s.power := s.finishLastFrame_only.field .power

theorem State.lightUp_keeps (s : State) (h : s.power.state = .powering) : Keeps s s.lightUp := by
  rw [State.lightUp_eq]
  refine ((s.finishLastFrame_keeps.trans (State.relight_keeps _)).trans (State.raisePower_keeps _ _ _)).trans
    (State.transition_keeps _ fun awake inv => ?_)
  obtain ⟨supply, -, dest, -, wake, -, -, -, -, -⟩ := inv
  have power : (s.finishLastFrame.relight.raisePower .lit (PathCause.detail s.power.cause)).power = s.power :=
    s.finishLastFrame_power
  rw [power, h] at supply dest wake
  have lit : ∃ d, s.power.lit = { s.power with
      state := .lit, envStart := 0, envElapsed := 0, cause := none, awaited := 0, settle := none, darkRemaining := d } :=
    (Power.reloadDark_eq _).imp fun d e => e.1
  obtain ⟨d, lit⟩ := lit
  rw [State.finishLastFrame_power, lit]
  refine ⟨supply, rfl, dest, rfl, wake, fun _ => rfl, ?_, fun d => absurd d Bool.false_ne_true,
    fun d => absurd d (show PowerState.lit ≠ .dormant by decide), fun _ => .inr (.inr rfl)⟩
  constructor
  · exact fun e => absurd e (show PowerState.lit ≠ .powering by decide)
  · rintro (e | e)
    · cases e
    · exact absurd rfl e

/-- The awaited set and the settle timer are no concern of the entry to LIT, which clears them (R176). -/
theorem State.lightUp_awaited (s : State) (a : BitVec 4) (t : Option Nat) :
    (s.setPower { s.power with awaited := a, settle := t }).lightUp = s.lightUp := by
  unfold State.lightUp State.finishLastFrame
  cases h : s.composer.frame <;> simp only [State.setPower_composer, h] <;> rfl

/-- A pending wake start is cleared. -/
theorem State.clearPending_keeps (s : State) : Keeps s (s.setPower { s.power with pendingWake := false }) :=
  s.setPower_keeps fun _ ⟨supply, timer, dest, cause, wake, dark, powering, off, frame, _⟩ =>
    ⟨supply, timer, dest, cause, wake, dark, powering, off, frame, fun p => by cases p⟩

theorem State.makePendingWake_keeps (s : State) : Keeps s s.makePendingWake :=
  .ite (fun _ => s.clearPending_keeps.trans (State.wakeStart_keeps _)) fun _ => .refl s

theorem State.orderEntryWake_keeps (s : State) : Keeps s s.orderEntryWake :=
  .ite (fun _ => .ite (fun _ => s.useFree_keeps) fun _ => s.useFree_keeps.trans (State.makePendingWake_keeps _))
    fun _ => s.makePendingWake_keeps

theorem State.enterLit_keeps (s : State) (h : s.power.state = .powering) : Keeps s s.enterLit :=
  (s.lightUp_keeps h).trans (State.orderEntryWake_keeps _)

theorem State.chainArrived_keeps (s : State) (i) : Keeps s (s.chainArrived i) := by
  refine .ite (fun ⟨powering, _⟩ => .ite (fun _ => ?_) fun left => ?_) fun _ => .refl s
  · have same := s.lightUp_awaited (s.power.awaited &&& ~~~ BitVec.twoPow 4 i) s.power.settle
    unfold State.enterLit
    rw [show (s.setPower { s.power with awaited := s.power.awaited &&& ~~~ BitVec.twoPow 4 i }).lightUp = s.lightUp
      from same]
    exact s.enterLit_keeps powering
  · exact s.setPower_keeps fun _ ⟨supply, timer, dest, cause, wake, dark, _, off, frame, pending⟩ =>
      ⟨supply, timer, dest, cause, wake, dark, ⟨fun _ => .inr left, fun _ => powering⟩, off, frame, pending⟩

/-! ## The Chain Controllers: failing and locating -/

theorem State.raiseChain_keeps (s : State) (i e) : Keeps s (s.raiseChain i e) := s.raise_keeps _ _ _
theorem State.raiseChain_chains (s : State) (i e) : (s.raiseChain i e).chains = s.chains := rfl

theorem State.raiseMismatch_keeps (s : State) (i n) : Keeps s (s.raiseMismatch i n) := s.raise_keeps _ _ _
theorem State.raiseNode_keeps (s : State) (i p f) : Keeps s (s.raiseNode i p f) := s.raise_keeps _ _ _

theorem State.failChain_keeps (s : State) {i : Fin 4} (on : s.chains[i].mode ≠ .off) : Keeps s (s.failChain i) :=
  ((s.updateChain_keeps (Chain.fail_goes on)).trans (State.raiseChain_keeps _ _ _)).trans (State.chainArrived_keeps _ _)

theorem ChainMode.whole_on {m : ChainMode} (h : m.whole = true) : m ≠ .off := by
  rintro rfl
  cases h

theorem State.giveUp_keeps (s : State) {i : Fin 4} {fromRing : Bool} (w : s.chains[i].mode.whole = true)
    (fresh : fromRing = false → s.chains[i].fresh = true)
    (ring : s.chains[i].Ok → fromRing = true → s.chains[i].ringDone = true) : Keeps s (s.giveUp i fromRing) :=
  .ite (fun _ => s.failChain_keeps (ChainMode.whole_on w))
    fun _ => (s.raiseChain_keeps _ _).trans (State.updateChain_keeps _ (Chain.locate_goes w fresh ring))

/-! ## Starting (R129, R130) -/

theorem Chain.fresh_counting {c : Chain} {n} (m : c.mode = .counting n) : c.fresh = true := by simp [Chain.fresh, m]

theorem Chain.fresh_identifying {c : Chain} {a b us} (m : c.mode = .identifying a b us) : c.fresh = true := by
  simp [Chain.fresh, m]

theorem State.arriveRing_keeps (s : State) {i : Fin 4} (w : s.chains[i].mode.whole = true) : Keeps s (s.arriveRing i) :=
  (s.updateChain_keeps (Chain.toRing_goes w)).trans (State.chainArrived_keeps _ _)

theorem State.startCountFailed_keeps (s : State) {i : Fin 4} {n : Nat} (m : s.chains[i].mode = .counting n) (k) :
    Keeps s (s.startCountFailed i k) := by
  have retry := s.updateChain_keeps (i := i) (f := fun c => c.retry 1) (Chain.retry_goes _ 1)
  have m' : (s.updateChain i fun c => c.retry 1).chains[i].mode = .counting n := by
    rw [State.updateChain_self]
    exact m
  refine retry.trans (.ite (fun _ => ?_) fun _ => .ite (fun _ => ?_) fun _ => ?_)
  · exact State.updateChain_keeps _ (Chain.countAgain_goes m' _)
  · exact (State.updateChain_keeps _ (Chain.slow_goes.trans
      (Chain.countAgain_goes (c := { (s.updateChain i fun c => c.retry 1).chains[i] with rate := .slow }) m' _))).trans
      (State.raiseChain_keeps _ _ _)
  · exact State.giveUp_keeps _ (by rw [m']; rfl) (fun _ => Chain.fresh_counting m') fun _ no => by cases no

theorem State.startCounted_keeps (s : State) {i : Fin 4} {f : Nat} (m : s.chains[i].mode = .counting f) (p) :
    Keeps s (s.startCounted i p) := by
  refine .ite (fun _ => (s.raiseMismatch_keeps _ _).trans (State.failChain_keeps _ ?_)) fun few => ?_
  · show s.chains[i].mode ≠ .off
    exact fun off => by rw [m] at off; cases off
  have told : Keeps s (if countedNumber p = s.chains[i].expected then s else s.raiseMismatch i (countedNumber p)) :=
    .ite (fun _ => .refl s) fun _ => s.raiseMismatch_keeps _ _
  have m' : (if countedNumber p = s.chains[i].expected then s else s.raiseMismatch i (countedNumber p)).chains[i].mode =
      .counting f := by
    split <;> exact m
  refine .ite (fun none' => ?_) fun _ => ?_
  · rw [none'] at told m' ⊢
    refine (told.trans (State.updateChain_keeps _ (Chain.count_zero_goes m'))).trans (State.arriveRing_keeps _ ?_)
    rw [State.updateChain_self]
    exact (congrArg ChainMode.whole m').trans rfl
  · rw [State.updateChain_updateChain _ _ _ _ (.inl rfl)]
    exact told.trans (State.updateChain_keeps _ (Chain.counted_goes m' (by omega)))

/-! ## IDENT (R130) -/

/-- A mode in which an IDENT is under way. -/
def ChainMode.identifies : ChainMode → Bool
  | .identifying _ _ _ => true
  | .split { phase := .identifying _ _ _ _, .. } => true
  | _ => false

theorem Chain.fresh_identifies {c : Chain} (h : c.mode.identifies = true) : c.fresh = true := by
  unfold Chain.fresh
  cases m : c.mode with
  | identifying a b us => rfl
  | split x =>
    obtain ⟨o, i, phase, r⟩ := x
    rw [m] at h
    cases phase <;> first | rfl | cases h
  | _ => simp [m, ChainMode.identifies] at h

/-- A node that no IDENT has read is marked: the record's other fields stay. -/
theorem State.markUnread_eq (s : State) (i : Fin 4) (p : Nat) : s.markUnread i p = s ∨
    ∃ k : Fin 60, p = k.val + 1 ∧ s.markUnread i p =
      (s.updateChain i fun c => c.setNode (k.val + 1)
        { s.chains[i].nodes[k] with state := .offline, bin := 0, goodRun := 0 }).raiseNode i p .offline := by
  unfold State.markUnread
  cases at_ : s.chains[i].nodeAt p with
  | none => exact .inl rfl
  | some n =>
    obtain ⟨k, rfl, rfl⟩ := Chain.nodeAt_eq_some at_
    exact .inr ⟨k, rfl, rfl⟩

theorem State.foldl_markUnread (i : Fin 4) (ps : List Nat) : ∀ s : State, (∀ p ∈ ps, p ∈ s.chains[i].mode.unread) →
    Keeps s (ps.foldl (State.markUnread i) s) ∧
      (ps.foldl (State.markUnread i) s).chains[i].mode = s.chains[i].mode ∧
      (ps.foldl (State.markUnread i) s).chains[i].found = s.chains[i].found := by
  induction ps with
  | nil => exact fun s _ => ⟨.refl s, rfl, rfl⟩
  | cons p ps ih =>
    intro s h
    have one : Keeps s (s.markUnread i p) ∧ (s.markUnread i p).chains[i].mode = s.chains[i].mode ∧
        (s.markUnread i p).chains[i].found = s.chains[i].found := by
      rcases s.markUnread_eq i p with e | ⟨k, rfl, e⟩ <;> rw [e]
      · exact ⟨.refl s, rfl, rfl⟩
      · have after : ((s.updateChain i fun c => c.setNode (k.val + 1)
            { s.chains[i].nodes[k] with state := .offline, bin := 0, goodRun := 0 }).raiseNode i (k.val + 1)
              .offline).chains[i] = s.chains[i].setNode (k.val + 1)
            { s.chains[i].nodes[k] with state := .offline, bin := 0, goodRun := 0 } := State.updateChain_self _ _ _
        rw [after, Chain.setNode_succ]
        exact ⟨(s.updateChain_keeps (Chain.markUnread_goes (h _ (List.mem_cons_self ..)))).trans
          (State.raiseNode_keeps _ _ _ _), rfl, rfl⟩
    obtain ⟨keeps, mode, found⟩ := one
    obtain ⟨keeps', mode', found'⟩ := ih (s.markUnread i p) fun q hq => by
      rw [mode]
      exact h q (List.mem_cons_of_mem _ hq)
    exact ⟨keeps.trans keeps', mode'.trans mode, found'.trans found⟩

/-- The end of an IDENT keeps the invariants where what follows does, in the same mode and with the same found count. -/
theorem State.concludeIdent_keeps (s : State) {i : Fin 4} {m : ChainMode} (hm : s.chains[i].mode = m)
    (ident : m.identifies = true) {ps us : List Nat} (sub : ∀ p ∈ us, p ∈ m.unread) {next : State → State}
    (found : ∀ c : Chain, c.mode = m → c.found = s.chains[i].found → c.Ok → ∀ p ∈ ps, p ≤ c.found)
    (hn : ∀ u : State, u.chains[i].mode = m → Keeps u (next u)) : Keeps s (s.concludeIdent i ps us next) := by
  have unread : ∀ p ∈ (List.range' 1 60).filter us.contains, p ∈ s.chains[i].mode.unread := by
    intro p hp
    rw [hm]
    exact sub p (by simpa using (List.mem_filter.1 hp).2)
  obtain ⟨keeps, mode, same⟩ := State.foldl_markUnread i _ s unread
  rw [hm] at mode
  refine keeps.trans (.ite (fun _ => State.failChain_keeps _ ?_) fun _ => ?_)
  · rw [mode]
    rintro rfl
    cases ident
  · refine (State.updateChain_keeps _ (Chain.markRead_goes (Chain.fresh_identifies (by rw [mode]; exact ident))
      fun ok => found _ mode same ok)).trans (hn _ ?_)
    rw [State.updateChain_self]
    exact mode

theorem stillUnread_sub {us : List Nat} {xs p} (h : p ∈ stillUnread us xs) : p ∈ us := (List.mem_filter.1 h).1

theorem State.startIdentified_keeps (s : State) {i : Fin 4} {a b : Nat} {us us' : List Nat}
    (m : s.chains[i].mode = .identifying a b us) (sub : ∀ p ∈ us', p ∈ us) (sent lost) :
    Keeps s (s.startIdentified i sent lost us') := by
  refine .ite (fun _ => ?_) fun _ => .ite (fun _ => ?_) fun _ => ?_
  · exact s.updateChain_keeps (Chain.identAgain_goes m _ _ sub _)
  · exact s.giveUp_keeps (by rw [m]; rfl) (fun _ => Chain.fresh_identifying m) fun _ no => by cases no
  · refine s.concludeIdent_keeps m rfl sub (fun c _ same _ p hp => ?_) fun u hu => ?_
    · rw [same]
      exact (mem_outPositions.1 hp).2
    · exact u.arriveRing_keeps (by rw [hu]; rfl)

/-! ## The sides of a SPLIT (R137, R138) -/

theorem split_ne_off {x : Split} {m : ChainMode} (h : m = .split x) : m ≠ .off := by
  rw [h]
  exact fun e => by cases e

theorem State.finishSplit_keeps (s : State) {i : Fin 4} {x : Split} (m : s.chains[i].mode = .split x) :
    Keeps s (s.finishSplit i x) :=
  ((s.updateChain_keeps (Chain.settleSplit_goes m)).trans (State.raiseChain_keeps _ _ _)).trans
    (State.chainArrived_keeps _ _)

theorem State.nextSide_keeps (s : State) {i : Fin 4} {x : Split} (m : s.chains[i].mode = .split x)
    (enum : x.phase.enumerates = true) (e) : Keeps s (s.nextSide i x e) :=
  .ite (fun _ => s.updateChain_keeps (Chain.countSide_goes m enum _ _)) fun _ => s.finishSplit_keeps m

theorem State.sideCountFailed_keeps (s : State) {i : Fin 4} {x : Split} (m : s.chains[i].mode = .split x)
    (enum : x.phase.enumerates = true) (e n) : Keeps s (s.sideCountFailed i x e n) := by
  have retry := s.updateChain_keeps (i := i) (f := fun c => c.retry 1) (Chain.retry_goes _ 1)
  have m' : (s.updateChain i fun c => c.retry 1).chains[i].mode = .split x := by
    rw [State.updateChain_self]
    exact m
  exact retry.trans (.ite (fun _ => State.updateChain_keeps _ (Chain.countSide_goes m' enum _ _))
    fun _ => State.failChain_keeps _ (split_ne_off m'))

theorem State.sideIdentified_keeps (s : State) {i : Fin 4} {x : Split} (m : s.chains[i].mode = .split x) {d : End}
    {a b : Nat} {us us' : List Nat} (p : x.phase = .identifying d a b us) (sub : ∀ p ∈ us', p ∈ us) (e sent lost) :
    Keeps s (s.sideIdentified i x e sent lost us') := by
  have enum : x.phase.enumerates = true := by rw [p]; rfl
  have unread : (ChainMode.split x).unread = us ∧ (ChainMode.split x).identifies = true := by
    obtain ⟨o, n, phase, r⟩ := x
    obtain rfl : phase = .identifying d a b us := p
    exact ⟨rfl, rfl⟩
  obtain ⟨unread, ident⟩ := unread
  refine .ite (fun _ => ?_) fun _ => .ite (fun _ => s.failChain_keeps (split_ne_off m)) fun _ => ?_
  · refine s.updateChain_keeps (Chain.identifySide_goes m enum _ _ _ fun ok q hq => ok.unread_found ?_)
    rw [m, unread]
    exact sub q hq
  · refine s.concludeIdent_keeps m ident (by rw [unread]; exact sub) (fun c hc same ok q hq => ?_) fun u hu =>
      u.nextSide_keeps hu enum e
    rw [← same] at hq
    exact (Split.mem_positions (ok.split_reach hc) hq).2

theorem State.enterSplit_keeps (s : State) {i : Fin 4} {q second b} (m : s.chains[i].mode = .locating q second b)
    {out inn : Nat} (fit : out + inn ≤ 60) : Keeps s (s.enterSplit i out inn) := by
  unfold State.enterSplit
  dsimp only
  generalize hx : ({ outReach := out, inReach := inn, phase := .driving .idle .idle [], restore := .stopped } : Split) = x
  have reaches : x.outReach = out ∧ x.inReach = inn := by rw [← hx]; exact ⟨rfl, rfl⟩
  have told : ∀ (p : Prop) [Decidable p] (n : Nat), Keeps s (if p then s.raiseMismatch i n else s) ∧
      (if p then s.raiseMismatch i n else s).chains = s.chains := fun p _ n =>
    ⟨.ite (fun _ => s.raiseMismatch_keeps _ _) fun _ => .refl s, by split <;> rfl⟩
  cases more : decide (s.chains[i].reference < out + inn) with
  | true =>
    have exceeds : s.chains[i].reference < out + inn := of_decide_eq_true more
    simp only [if_true, Bool.true_or]
    obtain ⟨keeps, chains⟩ := told True (out + inn)
    rw [if_pos trivial] at keeps chains
    rw [State.updateChain_updateChain _ _ _ _ (.inr rfl)]
    refine keeps.trans (State.updateChain_keeps _ (Chain.splitCounted_goes (by rw [chains]; exact m) (fun _ => fit)
      (by rw [reaches.1, reaches.2]) (fun done => ?_) _))
    rw [chains] at done ⊢
    rw [reaches.1, reaches.2]
    simp only [Chain.reference, done, if_true] at exceeds
    exact ⟨by omega, rfl⟩
  | false =>
    have within : out + inn ≤ s.chains[i].reference := Nat.not_lt.1 (of_decide_eq_false more)
    simp only [Bool.false_eq_true, if_false, Bool.false_or]
    cases done : s.chains[i].ringDone with
    | true =>
      simp only [Chain.reference, done, if_true] at within
      simp only [Bool.not_true, Bool.false_eq_true, if_false, Chain.reference, done, if_true]
      unfold State.finishSplit
      rw [State.updateChain_updateChain _ _ _ _ (.inr rfl)]
      exact ((s.updateChain_keeps (Chain.splitSettled_goes m done (by rw [reaches.1, reaches.2]; exact within))).trans
        (State.raiseChain_keeps _ _ _)).trans (State.chainArrived_keeps _ _)
    | false =>
      simp only [Chain.reference, done, Bool.false_eq_true, if_false] at within
      simp only [Bool.not_false, if_true, Chain.reference, done, Bool.false_eq_true, if_false]
      rw [State.updateChain_updateChain _ _ _ _ (.inr rfl)]
      exact s.updateChain_keeps (Chain.splitCounted_goes m (fun ok => ok.expected_le)
        (by rw [reaches.1, reaches.2]; exact within) (fun yes => by rw [done] at yes; cases yes) _)

/-! ## LOCATE (R135, R136) -/

theorem State.located_keeps (s : State) {i : Fin 4} {q second b} (m : s.chains[i].mode = .locating q second b) (out inn) :
    Keeps s (s.located i out inn) := by
  have on : s.chains[i].mode ≠ .off := by rw [m]; exact fun e => by cases e
  exact .ite (fun _ => s.failChain_keeps on) fun _ =>
    .ite (fun _ => (s.raiseMismatch_keeps _ _).trans (State.failChain_keeps _ on)) fun few =>
      s.enterSplit_keeps m (by omega)

theorem State.probeReached_keeps (s : State) {i : Fin 4} {q second b} (m : s.chains[i].mode = .locating q second b) :
    Keeps s (s.probeReached i q b) := by
  have on : s.chains[i].mode ≠ .off := by rw [m]; exact fun e => by cases e
  unfold State.probeReached
  split
  · refine .ite (fun ring => ?_) fun _ => s.failChain_keeps on
    subst ring
    exact s.updateChain_keeps (Chain.backToRing_goes m)
  · exact s.updateChain_keeps (Chain.probe_goes m _ _)
  · exact .ite (fun _ => s.located_keeps m _ _) fun _ => s.updateChain_keeps (Chain.probe_goes m _ _)

theorem State.probeMissed_keeps (s : State) {i : Fin 4} {q second b} (m : s.chains[i].mode = .locating q second b) (x) :
    Keeps s (s.probeMissed i q x b) := by
  refine .ite (fun _ => ?_) fun _ => s.updateChain_keeps (Chain.probe_goes m _ _)
  unfold State.probeFailed
  split
  · exact s.updateChain_keeps (Chain.probe_goes m _ _)
  · exact s.updateChain_keeps (Chain.probe_goes m _ _)
  · exact s.located_keeps m _ _

/-! ## Replies (R133, R134) -/

theorem State.foldl_raiseNode_keeps (i p) (fs : List NodeFault) (s : State) :
    Keeps s (fs.foldl (fun s f => s.raiseNode i p f) s) := Keeps.foldl _ (fun s f => s.raiseNode_keeps i p f) fs s

theorem State.foldl_raiseNode_chains (i p) (fs : List NodeFault) : ∀ s : State,
    (fs.foldl (fun s f => s.raiseNode i p f) s).chains = s.chains := by
  induction fs with
  | nil => exact fun _ => rfl
  | cons f fs ih => exact fun s => ih _

/-- A mode of RING or of a driven SPLIT, in which replies to DUTY slots are checked. -/
def ChainMode.drives : ChainMode → Bool
  | .ring _ => true
  | .split x => !x.phase.enumerates
  | _ => false

theorem Chain.fresh_drives {c : Chain} (h : c.mode.drives = true) : c.fresh = false := by
  cases m : c.mode with
  | ring d => simp [Chain.fresh, m]
  | split x =>
    rw [m] at h
    rw [Chain.fresh_split m]
    simpa [ChainMode.drives] using h
  | _ => rw [m] at h; cases h

theorem State.handleReply_keeps (i : Fin 4) (s : State × Bool) (drives : s.1.chains[i].mode.drives = true) (x) :
    Keeps s.1 (State.handleReply i s x).1 ∧ (State.handleReply i s x).1.chains[i].mode = s.1.chains[i].mode := by
  have fresh := Chain.fresh_drives drives
  unfold State.handleReply
  cases at_ : s.1.chains[i].nodeAt x.1.position with
  | none => exact ⟨.refl _, rfl⟩
  | some n =>
    obtain ⟨k, place, rfl⟩ := Chain.nodeAt_eq_some at_
    dsimp only
    rw [place]
    refine iteInduction (motive := fun r : State × Bool =>
      Keeps s.1 r.1 ∧ r.1.chains[i].mode = s.1.chains[i].mode) (fun _ => ?_) fun _ => ?_
    · constructor
      · exact (s.1.updateChain_keeps (Chain.goodReply_goes fresh k x.2)).trans (State.foldl_raiseNode_keeps _ _ _ _)
      · dsimp only
        rw [State.foldl_raiseNode_chains, State.updateChain_self, Chain.setNode_succ]
    · have keeps := s.1.updateChain_keeps (i := i)
        (f := fun c => (c.setNode (k.val + 1) (s.1.chains[i].nodes[k].badReply s.1.chains[i].retryLimit)).retry 1)
        ((Chain.badReply_goes fresh k).trans (Chain.retry_goes _ 1))
      have mode : (s.1.updateChain i fun c => (c.setNode (k.val + 1)
          (s.1.chains[i].nodes[k].badReply s.1.chains[i].retryLimit)).retry 1).chains[i].mode = s.1.chains[i].mode := by
        rw [State.updateChain_self, Chain.setNode_succ]
        rfl
      exact iteInduction (motive := fun r : State × Bool => Keeps s.1 r.1 ∧ r.1.chains[i].mode = s.1.chains[i].mode)
        (fun _ => ⟨keeps.trans (State.raiseNode_keeps _ _ _ _), mode⟩) fun _ => ⟨keeps, mode⟩

theorem State.checkReplies_keeps (s : State) {i : Fin 4} (drives : s.chains[i].mode.drives = true) (ss rs) :
    Keeps s (s.checkReplies i ss rs) := by
  have all : ∀ (xs : List (SentSlot × BitVec 48)) (s : State × Bool), s.1.chains[i].mode.drives = true →
      Keeps s.1 (xs.foldl (State.handleReply i) s).1 ∧
        (xs.foldl (State.handleReply i) s).1.chains[i].mode = s.1.chains[i].mode := by
    intro xs
    induction xs with
    | nil => exact fun s _ => ⟨.refl _, rfl⟩
    | cons x xs ih =>
      intro s h
      obtain ⟨keeps, mode⟩ := State.handleReply_keeps i s h x
      obtain ⟨keeps', mode'⟩ := ih _ (by rw [mode]; exact h)
      exact ⟨keeps.trans keeps', mode'.trans mode⟩
  obtain ⟨keeps, mode⟩ := all (ss.zip rs) (s, false) drives
  refine .ite (fun _ => keeps.trans (State.failChain_keeps _ ?_)) fun _ => keeps
  rw [mode]
  rintro off
  rw [off] at drives
  cases drives

/-! ## RING and SPLIT (R131, R132, R139, R140) -/

theorem Chain.Ok.ring_done {c : Chain} (h : c.Ok) {d} (m : c.mode = .ring d) : c.ringDone = true := by
  simpa [Chain.modeOk, m] using h.mode

theorem State.ringClean_keeps (s : State) {i : Fin 4} {d} (m : s.chains[i].mode = .ring d) (ss f) :
    Keeps s (s.ringClean i ss f) := by
  refine (s.updateChain_keeps ?_).trans (State.checkReplies_keeps _ ?_ _ _)
  · exact (Chain.setRun_goes .out fun _ => Nat.zero_le _).trans
      (Chain.ringAgain_goes (c := s.chains[i].setRun .out 0) m none)
  · rw [State.updateChain_self]
    rfl

theorem State.ringLost_keeps (s : State) {i : Fin 4} {d} (m : s.chains[i].mode = .ring d) (set) :
    Keeps s (s.ringLost i set) := by
  have retry := s.updateChain_keeps (i := i) (f := fun c => c.retry 1) (Chain.retry_goes _ 1)
  have m' : (s.updateChain i fun c => c.retry 1).chains[i].mode = .ring d := by
    rw [State.updateChain_self]
    exact m
  refine retry.trans (.ite (fun _ => ?_) fun within => ?_)
  · have m'' : ((s.updateChain i fun c => c.retry 1).updateChain i fun c => { c with runOut := 0 }).chains[i].mode =
        .ring d := by
      rw [State.updateChain_self]
      exact m'
    refine (State.updateChain_keeps _ (Chain.setRun_goes .out fun _ => Nat.zero_le 12)).trans (State.giveUp_keeps _ ?_ ?_ ?_)
    · exact (congrArg ChainMode.whole m'').trans rfl
    · exact fun no => by cases no
    · exact fun ok _ => ok.ring_done m''
  · refine State.updateChain_keeps _ ((Chain.setRun_goes .out (n := (s.updateChain i fun c => c.retry 1).chains[i].runOut + 1)
      fun ok => ?_).trans (Chain.sendRing_goes (c := Chain.setRun (s.updateChain i fun c => c.retry 1).chains[i] .out
        ((s.updateChain i fun c => c.retry 1).chains[i].runOut + 1)) m' _))
    exact (Nat.not_lt.1 within).trans ok.retryLimit_le

theorem SplitPhase.side_drives {p : SplitPhase} {e v} (h : p.side e = some v) : p.enumerates = false := by
  obtain ⟨o, n, set, rfl, -⟩ := SplitPhase.side_some h
  rfl

theorem Chain.setRun_mode (c : Chain) (e n) : (c.setRun e n).mode = c.mode := by cases e <;> rfl

theorem State.halfClean_keeps (s : State) {i : Fin 4} {x : Split} (m : s.chains[i].mode = .split x) {e : End} {v}
    (side : x.phase.side e = some v) (ss f) : Keeps s (s.halfClean i x e ss f) := by
  refine (s.updateChain_keeps ?_).trans (State.checkReplies_keeps _ ?_ _ _)
  · refine (Chain.setRun_goes e fun _ => Nat.zero_le _).trans
      (Chain.sideIdle_goes (by rw [Chain.setRun_mode]; exact m) side fun _ => ?_)
    cases e <;> exact Nat.zero_le 12
  · rw [State.updateChain_self]
    show (!(x.phase.withSide e .idle).enumerates) = true
    rw [SplitPhase.withSide_enumerates, SplitPhase.side_drives side]
    rfl

/-- A run of losses that is not beyond the retry limit. -/
theorem Chain.setRun_run (c : Chain) (e n) : (c.setRun e n).run e = n := by cases e <;> rfl

theorem State.halfLost_keeps (s : State) {i : Fin 4} {x : Split} (m : s.chains[i].mode = .split x) {e : End} {slots}
    (side : x.phase.side e = some (.half slots)) : Keeps s (s.halfLost i x e) := by
  have still : ∀ hop b, x.phase.side e ≠ some (.relocating hop b) := fun hop b h => by rw [side] at h; cases h
  have rest : ∀ c : Chain, (c.setRun e (c.run e + 1)).mode = c.mode ∧
      (c.setRun e (c.run e + 1)).retryLimit = c.retryLimit := fun c => by cases e <;> exact ⟨rfl, rfl⟩
  unfold State.halfLost
  dsimp only
  rw [State.updateChain_self]
  generalize hc : s.chains[i].retry 1 = c
  have cm : c.mode = .split x := by rw [← hc]; exact m
  have grown : ((s.chains[i].retry 1).setRun e (s.chains[i].run e + 1)) = c.setRun e (c.run e + 1) := by
    rw [← hc]; cases e <;> rfl
  have sameRun : s.chains[i].run e = c.run e := by rw [← hc]; cases e <;> rfl
  have reach : c.Ok → x.reach e > 0 := fun ok => ok.half cm side
  have goes : s.chains[i].Goes c := by rw [← hc]; exact Chain.retry_goes _ 1
  have cmode : (c.setRun e (c.run e + 1)).mode = .split x := (rest c).1.trans cm
  have merged : ∀ g : Chain → Chain, (s.updateChain i fun c => (c.retry 1).setRun e (c.run e + 1)).updateChain i g =
      s.updateChain i fun c => g ((c.retry 1).setRun e (c.run e + 1)) := fun g =>
    State.updateChain_updateChain _ _ _ _ (.inl (by
      show ChainMode.state (Chain.mode _) = _
      rw [Chain.setRun_mode]
      rfl))
  have step : ∀ g : Chain → Chain, c.Goes (g (c.setRun e (c.run e + 1))) →
      Keeps s ((s.updateChain i fun c => (c.retry 1).setRun e (c.run e + 1)).updateChain i g) := fun g hg => by
    rw [merged]
    refine s.updateChain_keeps (goes.trans ?_)
    rw [grown]
    exact hg
  have small : c.Ok → c.run e ≤ 12 := fun ok => ok.split_run cm still
  have failed : c.Goes (c.setRun e (c.run e + 1)).fail := by
    refine ⟨fun ok => ?_, by cases e <;> rfl, fun off => absurd off (split_ne_off cm)⟩
    have low := small ok
    refine ⟨by cases e <;> exact ok.sized, fun d => ?_, rfl, ?_, fun fr => absurd fr Bool.false_ne_true, rfl⟩
    · refine (show (c.setRun e (c.run e + 1)).run d ≤ 13 from ?_)
      by_cases hd : d = e
      · subst hd
        rw [Chain.setRun_run]
        omega
      · have : (c.setRun e (c.run e + 1)).run d = c.run d := by
          cases e <;> cases d <;> first | exact absurd rfl hd | rfl
        rw [this]
        exact ok.run_le d
    · cases e <;> exact ok.nodes
  have probed : c.Goes ((c.setRun e (c.run e + 1)).probeSide x e 1 false) := by
    have plain := Chain.probeSide_goes cm side (hop := 1) (fun ok => ⟨Nat.le_refl 1, reach ok⟩) false
    refine ⟨fun ok => ?_, by cases e <;> rfl, fun off => absurd off (split_ne_off cm)⟩
    obtain ⟨sized, run, brk, nodes, fresh, mode⟩ := plain.ok ok
    have own : (x.phase.withSide e (.relocating 1 false)).side e = some (.relocating 1 false) := by
      rw [SplitPhase.withSide_side side, if_pos rfl]
    refine ⟨by cases e <;> exact sized, fun d => ?_, by cases e <;> exact brk, by cases e <;> exact nodes,
      by cases e <;> exact fresh, by cases e <;> exact mode⟩
    show (c.setRun e (c.run e + 1)).run d ≤
      (ChainMode.split { x with phase := x.phase.withSide e (.relocating 1 false) }).runLimit d
    by_cases hd : d = e
    · subst hd
      have : (ChainMode.split { x with phase := x.phase.withSide d (.relocating 1 false) }).runLimit d = 13 := by
        simp [ChainMode.runLimit, own]
      rw [this, Chain.setRun_run]
      have := small ok
      omega
    · have : (c.setRun e (c.run e + 1)).run d = c.run d := by
        cases e <;> cases d <;> first | exact absurd rfl hd | rfl
      rw [this]
      exact run d
  rw [sameRun]
  refine .ite (fun _ => .ite (fun _ => ?_) fun _ => ?_) fun within => ?_
  · exact ((step _ failed).trans (State.raiseChain_keeps _ _ _)).trans (State.chainArrived_keeps _ _)
  · exact step _ probed
  · refine step (fun c => c.sendHalf x e (c.mailbox.getD x.phase.carried)) ?_
    have bound : c.Ok → c.run e + 1 ≤ 12 := fun ok => by
      rw [Chain.setRun_run, (rest c).2] at within
      exact (Nat.not_lt.1 within).trans ok.retryLimit_le
    refine (Chain.setRun_goes e bound).trans (Chain.sendHalf_goes cmode side (fun ok => ?_)
      (fun ok => ok.half cmode side) _)
    exact ok.split_run cmode still

theorem State.relocated_keeps (s : State) {i : Fin 4} {x : Split} (m : s.chains[i].mode = .split x) {e : End} {v}
    (side : x.phase.side e = some v) {reach : Nat} (less : s.chains[i].Ok → reach ≤ x.reach e) :
    Keeps s (s.relocated i x e reach) := by
  have ok' : ∀ c : Chain, (c.setRun e 0).run e ≤ 12 := fun c => by rw [Chain.setRun_run]; exact Nat.zero_le _
  have cleared := s.updateChain_keeps (i := i) (f := fun c => c.setRun e 0) (Chain.setRun_goes e fun _ => Nat.zero_le _)
  have m' : (s.updateChain i fun c => c.setRun e 0).chains[i].mode = .split x := by
    rw [State.updateChain_self, Chain.setRun_mode]
    exact m
  refine .ite (fun _ => cleared.trans (State.updateChain_keeps _ (Chain.sideIdle_goes m' side fun _ => ?_))) fun _ => ?_
  · rw [State.updateChain_self]
    exact ok' _
  · have shrunk : Keeps s ((s.updateChain i fun c => c.setRun e 0).updateChain i (Chain.shrink x e reach)) := by
      rw [State.updateChain_updateChain _ _ _ _ (.inl (by rw [Chain.setRun_mode]))]
      refine s.updateChain_keeps ⟨fun ok => ?_, by cases e <;> rfl, fun off => absurd off (split_ne_off m)⟩
      exact (Chain.shrink_goes (c := s.chains[i].setRun e 0) (by rw [Chain.setRun_mode]; exact m) side
        (fun _ => less ok) fun _ => ok' _).ok ((Chain.setRun_goes e fun _ => Nat.zero_le _).ok ok)
    refine .ite (fun _ => (shrunk.trans (State.raiseChain_keeps _ _ _)).trans (State.failChain_keeps _ ?_))
      fun _ => shrunk.trans (State.raiseChain_keeps _ _ _)
    rw [State.raiseChain_chains, State.updateChain_self]
    exact fun off => by cases off

theorem State.sideReached_keeps (s : State) {i : Fin 4} {x : Split} (m : s.chains[i].mode = .split x) {e : End} {hop b}
    (side : x.phase.side e = some (.relocating hop b)) : Keeps s (s.sideReached i x e hop) := by
  refine .ite (fun _ => s.relocated_keeps m side fun ok => (ok.relocating m side).2) fun more => ?_
  exact s.updateChain_keeps (Chain.probeSide_goes m side (fun _ => ⟨by omega, by omega⟩) _)

theorem State.sideMissed_keeps (s : State) {i : Fin 4} {x : Split} (m : s.chains[i].mode = .split x) {e : End} {hop b}
    (side : x.phase.side e = some (.relocating hop b)) (second) : Keeps s (s.sideMissed i x e hop second) := by
  refine .ite (fun _ => s.relocated_keeps m side fun ok => ?_) fun _ => ?_
  · have := (ok.relocating m side).2
    omega
  · exact s.updateChain_keeps (Chain.probeSide_goes m side (fun ok => ok.relocating m side) _)

/-! ## Restoring (R141) -/

theorem State.attemptCounted_keeps (s : State) {i : Fin 4} {x : Split} (m : s.chains[i].mode = .split x)
    (rests : x.phase.rests = true) (p) : Keeps s (s.attemptCounted i x p) :=
  .ite (fun _ => s.updateChain_keeps (Chain.attemptStep_goes m rests rfl _ _))
    fun _ => (s.raiseMismatch_keeps _ _).trans (State.updateChain_keeps _ (Chain.attemptFailed_goes m rests))

theorem State.attemptIdentified_keeps (s : State) {i : Fin 4} {x : Split} (m : s.chains[i].mode = .split x)
    (rests : x.phase.rests = true) (f) : Keeps s (s.attemptIdentified i x f) :=
  .ite (fun _ => (s.updateChain_keeps (Chain.restored_goes m _)).trans (State.raiseChain_keeps _ _ _))
    fun _ => s.updateChain_keeps (Chain.attemptFailed_goes m rests)

/-! ## The events of a chain -/

theorem State.countReturned_keeps (s : State) (i f) : Keeps s (s.countReturned i f) := by
  unfold State.countReturned
  split
  · next m =>
    split
    · exact s.startCountFailed_keeps m _
    · exact s.startCounted_keeps m _
  · next x m =>
    split
    · next p =>
      have enum : x.phase.enumerates = true := by rw [p]; rfl
      refine .ite (fun _ => ?_) fun _ => s.sideCountFailed_keeps m enum _ _
      exact s.updateChain_keeps (Chain.identifySide_goes m enum _ _ _ fun ok q hq =>
        Split.mem_positions (ok.split_reach m) hq)
    · next p =>
      have rests : x.phase.rests = true := by rw [p]; rfl
      split
      · exact s.updateChain_keeps (Chain.attemptFailed_goes m rests)
      · exact s.attemptCounted_keeps m rests _
    · exact .refl s
  · exact .refl s

theorem State.countLost_keeps (s : State) (i) : Keeps s (s.countLost i) := by
  unfold State.countLost
  split
  · next m => exact s.startCountFailed_keeps m _
  · next x m =>
    split
    · next p => exact s.sideCountFailed_keeps m (by rw [p]; rfl) _ _
    · next p => exact s.updateChain_keeps (Chain.attemptFailed_goes m (by rw [p]; rfl))
    · exact .refl s
  · exact .refl s

theorem State.identLost_keeps (s : State) (i) : Keeps s (s.identLost i) := by
  have retry := s.updateChain_keeps (i := i) (f := fun c => c.retry 1) (Chain.retry_goes _ 1)
  have m' : (s.updateChain i fun c => c.retry 1).chains[i].mode = s.chains[i].mode := by
    rw [State.updateChain_self]
    rfl
  unfold State.identLost
  split
  · next m => exact retry.trans (State.startIdentified_keeps _ (m'.trans m) (fun _ => id) _ _)
  · next x m =>
    split
    · next p => exact retry.trans (State.sideIdentified_keeps _ (m'.trans m) p (fun _ => id) _ _ _)
    · next p => exact s.updateChain_keeps (Chain.attemptFailed_goes m (by rw [p]; rfl))
    · exact .refl s
  · exact .refl s

theorem State.identReturned_keeps (s : State) (i f) : Keeps s (s.identReturned i f) := by
  have read := fun xs => s.updateChain_keeps (i := i) (Chain.readBins_goes xs _)
  have m' : ∀ xs, (s.updateChain i (Chain.readBins xs)).chains[i].mode = s.chains[i].mode := fun xs => by
    rw [State.updateChain_self]
    exact (Chain.readBins_mode xs _).1
  unfold State.identReturned
  split
  · next m =>
    exact .ite (fun _ => (read _).trans (State.startIdentified_keeps _ ((m' _).trans m) (fun _ => stillUnread_sub) _ _))
      fun _ => s.identLost_keeps i
  · next x m =>
    split
    · next p =>
      exact .ite (fun _ => (read _).trans
        (State.sideIdentified_keeps _ ((m' _).trans m) p (fun _ => stillUnread_sub) _ _ _)) fun _ => s.identLost_keeps i
    · next p => exact s.attemptIdentified_keeps m (by rw [p]; rfl) _
    · exact .refl s
  · exact .refl s

theorem State.dutyLost_keeps (s : State) (i e) : Keeps s (s.dutyLost i e) := by
  unfold State.dutyLost
  split
  · next m => exact .ite (fun _ => s.ringLost_keeps m _) fun _ => .refl s
  · next m =>
    split
    · next side => exact s.halfLost_keeps m side
    · exact .refl s
  · exact .refl s

theorem State.dutyReturned_keeps (s : State) (i e f) : Keeps s (s.dutyReturned i e f) := by
  unfold State.dutyReturned
  split
  · next m => exact .ite (fun _ => s.ringClean_keeps m _ _) fun _ => s.dutyLost_keeps i e
  · next m =>
    split
    · next side => exact .ite (fun _ => s.halfClean_keeps m side _ _) fun _ => s.dutyLost_keeps i e
    · exact .refl s
  · exact .refl s

theorem State.probeLost_keeps (s : State) (i e) : Keeps s (s.probeLost i e) := by
  unfold State.probeLost
  split
  · next m => exact .ite (fun _ => s.probeMissed_keeps m _) fun _ => .refl s
  · next x m =>
    split
    · next p =>
      exact .ite (fun _ => s.updateChain_keeps (Chain.attemptFailed_goes m (by rw [p]; rfl))) fun _ => .refl s
    · next side _ => exact s.sideMissed_keeps m side _
    · exact .refl s
  · exact .refl s

theorem State.probeReturned_keeps (s : State) (i e f) : Keeps s (s.probeReturned i e f) := by
  unfold State.probeReturned
  refine .ite (fun _ => ?_) fun _ => s.probeLost_keeps i e
  split
  · next m => exact .ite (fun _ => s.probeReached_keeps m) fun _ => .refl s
  · next x m =>
    split
    · next p =>
      exact .ite (fun _ => s.updateChain_keeps (Chain.attemptStep_goes m (by rw [p]; rfl) rfl _ _)) fun _ => .refl s
    · next side _ => exact s.sideReached_keeps m side
    · exact .refl s
  · exact .refl s

end Sys2Proof.Machine

/-! PROOFS. What keeps the invariants, continued: the composition frame, the Power Controller and the time base. -/

namespace Sys2Proof.Machine

open Sys2Proof

/-! ## The completion of a frame (R85, R115, R117) -/

theorem State.raiseLimits_keeps (s : State) (i a b) : Keeps s (s.raiseLimits i a b) := by
  unfold State.raiseLimits
  dsimp only
  split_ifs
  · exact (s.raise_keeps _ _ _).trans (State.raise_keeps _ _ _ _)
  · exact s.raise_keeps _ _ _
  · exact s.raise_keeps _ _ _
  · exact .refl s

theorem State.raiseLimits_composer (s : State) (i a b) : (s.raiseLimits i a b).composer = s.composer :=
  (s.raiseLimits_only i a b).field .composer

theorem State.raiseLimits_setComposer (s : State) (c i a b) :
    (s.setComposer c).raiseLimits i a b = (s.raiseLimits i a b).setComposer c := by
  unfold State.raiseLimits
  dsimp only
  split_ifs <;> rfl

/-- A set is placed without a look at the frame in flight: the chain stays in its state. -/
theorem State.place_eq (s : State) (i : Fin 4) (set) :
    s.place i set = s.setChains (s.chains.set i { s.chains[i] with mailbox := some set }) :=
  State.setChain_same_state _ _ _ rfl

/-- What a completion does with the chains does not depend on what it does with the composites. -/
theorem State.deliver_setComposer (f : Frame) (s : State) (c) (i : Fin 4) :
    State.deliver f (s.setComposer c) i = (State.deliver f s i).setComposer c := by
  unfold State.deliver
  dsimp only
  rw [State.raiseLimits_setComposer, State.place_eq, State.place_eq]
  split <;> rfl

theorem State.deliver_composer (f : Frame) (s : State) (i : Fin 4) : (State.deliver f s i).composer = s.composer := by
  unfold State.deliver
  dsimp only
  rw [State.place_eq]
  split
  · exact s.raiseLimits_composer _ _ _
  · rfl

theorem State.foldl_deliver (f : Frame) (is : List (Fin 4)) : ∀ s : State,
    (is.foldl (State.deliver f) s).composer = s.composer ∧
      ∀ c, is.foldl (State.deliver f) (s.setComposer c) = (is.foldl (State.deliver f) s).setComposer c := by
  induction is with
  | nil => exact fun s => ⟨rfl, fun c => rfl⟩
  | cons i is ih =>
    intro s
    obtain ⟨same, commutes⟩ := ih (State.deliver f s i)
    refine ⟨same.trans (s.deliver_composer f i), fun c => ?_⟩
    rw [List.foldl_cons, State.deliver_setComposer, commutes, List.foldl_cons]

theorem State.deliver_keeps {f : Frame} (s : State) (h : s.composer.frame = some f) (i : Fin 4) :
    Keeps s (State.deliver f s i) := by
  refine .ite (fun _ => ?_) fun _ => .refl s
  dsimp only
  refine (s.raiseLimits_keeps i s.cond.perChain[i] (f.snap.output i)).trans
    ((State.setCond_keeps _ fun inv => ?_).trans (State.updateChain_keeps _ (Chain.mailbox_goes _ _)))
  obtain ⟨cond, budgets, frames⟩ := (levelInv_iff _).1 inv
  refine (levelInv_iff _).2 ⟨?_, budgets, frames⟩
  have same : (s.raiseLimits i s.cond.perChain[i] (f.snap.output i)).cond = s.cond := (s.raiseLimits_only _ _ _).field .cond
  rw [State.raiseLimits_composer] at frames
  exact cond.withOutput i (Snapshot.output_inRange (frames f h i))

theorem State.completeFrame_keeps (s : State) : Keeps s s.completeFrame := by
  unfold State.completeFrame
  split
  · exact .refl s
  · next f flight =>
    have chains : ∀ (is : List (Fin 4)) (s : State), s.composer.frame = some f →
        Keeps s (is.foldl (State.deliver f) s) := by
      intro is
      induction is with
      | nil => exact fun s _ => .refl s
      | cons i is ih => exact fun s h => (s.deliver_keeps h i).trans (ih _ (by rw [State.deliver_composer]; exact h))
    obtain ⟨same, commutes⟩ := State.foldl_deliver f (indices 4) s
    rw [commutes, ← same]
    refine (chains _ s flight).trans (State.record_keeps _ ?_)
    rw [same]
    exact flight

theorem State.completeFrame_timer (s : State) : s.completeFrame.composer.timer = s.composer.timer := by
  unfold State.completeFrame
  split
  · rfl
  · next f _ => rw [((State.foldl_deliver f (indices 4) _).1)]; rfl

/-! ## The beginning of a frame (R61, R80 to R83) -/

/-- A pending frozen composite is captured with one entry per node (R61). -/
theorem Zone.capture_fits {z : Zone} {latest : Option (List Comp)} (h : z.hold.fits z.nodes.length = true)
    (hl : ∀ c ∈ latest, c.length = z.nodes.length) : (z.capture latest).hold.fits z.nodes.length = true := by
  unfold Zone.capture
  split
  · cases latest with
    | none => simp [Hold.fits]
    | some c => simpa [Hold.fits] using hl c rfl
  · exact h

theorem State.captureHolds_zone (s : State) (z : Fin 16) :
    s.captureHolds.zones[z] = s.zones[z].capture s.composer.latest[z] := by
  simp [State.captureHolds]

theorem State.captureHolds_keeps (s : State) : Keeps s s.captureHolds := by
  refine s.setZones_keeps fun ⟨each, apart⟩ => ?_
  show ZoneInv s.captureHolds
  refine ⟨fun z => ?_, fun y z ne => ?_⟩
  · obtain ⟨nodup, size, trim, fits, places, latest, frame⟩ := each z
    rw [State.captureHolds_zone]
    simp only [Zone.capture_nodes, Zone.capture_trim]
    exact ⟨nodup, size, trim, Zone.capture_fits fits latest, places, latest, frame⟩
  · rw [State.captureHolds_zone, State.captureHolds_zone, Zone.capture_nodes, Zone.capture_nodes]
    exact apart y z ne

theorem State.prepareSnapshot_keeps (s : State) : Keeps s s.prepareSnapshot :=
  s.captureHolds_keeps.trans (State.setCond_keeps_of _ fun h => (h.resetUndriven _).moved)

/-- A composite of a snapshot has one entry per node of its zone (R94). -/
theorem State.snapshot_composite (s : State) {z : Fin 16} (fits : s.zones[z].hold.fits s.zones[z].nodes.length = true) :
    (s.snapshot.composite z).length = s.zones[z].nodes.length := by
  unfold Snapshot.composite
  have zones : s.snapshot.zones[z] = s.zones[z] := rfl
  rw [zones]
  split
  · next held =>
    rw [held] at fits
    simpa [Hold.fits] using fits
  · simp

theorem State.snapshot_chain (s : State) (i : Fin 4) : s.snapshot.chains[i] = s.chains[i].snapshot := by
  simp [State.snapshot]

/-- A frame of this moment begins, where the frame timer runs. -/
theorem State.newFrame_keeps (s : State) (runs : s.composer.timer.isSome = true) (interval : Nat) :
    Keeps s (s.setComposer { s.composer with timer := some interval
                                             frame := some { snap := s.snapshot, discarded := 0, left := 0 } }) where
  awake := id
  notice _ := id
  cue := id
  watch := id
  zone := by
    rintro ⟨each, apart⟩
    refine ⟨fun z => ?_, apart⟩
    obtain ⟨nodup, size, trim, fits, places, latest, -⟩ := each z
    refine ⟨nodup, size, trim, fits, places, latest, fun f hf _ => ?_⟩
    obtain rfl := Option.some.inj hf
    exact s.snapshot_composite fits
  level inv := by
    obtain ⟨cond, budgets, -⟩ := (levelInv_iff s).1 inv
    refine (levelInv_iff _).2 ⟨cond, budgets, fun f hf i => ?_⟩
    obtain rfl := Option.some.inj hf
    rw [State.snapshot_chain]
    exact budgets i
  runner := id
  power _ := fun ⟨supply, timer, dest, cause, wake, dark, powering, off, _, pending⟩ =>
    ⟨supply, runs.symm.trans timer, dest, cause, wake, dark, powering, off, fun dormant => (by
      have state : s.power.state = .dormant := dormant
      rw [runs, state] at timer
      cases timer), pending⟩
  chain := fun ⟨records, _⟩ => ⟨records, fun f hf i _ => by
    obtain rfl := Option.some.inj hf
    rw [State.snapshot_chain]
    rfl⟩

theorem State.beginFrame_keeps (s : State) (runs : s.composer.timer.isSome = true) : Keeps s s.beginFrame :=
  s.prepareSnapshot_keeps.trans (State.newFrame_keeps s.prepareSnapshot runs _)

theorem State.makeLateWake_keeps (s : State) : Keeps s s.makeLateWake :=
  .ite (fun _ => s.makePendingWake_keeps) fun _ => .refl s

theorem State.frameExpiry_keeps (s : State) : Keeps s s.frameExpiry :=
  .ite (fun runs => (s.completeFrame_keeps.trans
      (State.beginFrame_keeps _ (by rw [State.completeFrame_timer]; exact runs))).trans (State.makeLateWake_keeps _))
    fun _ => .refl s

/-! ## Updates of the power fields -/

/-- The fields of the Power Controller that go with its state. -/
def Power.tied (p q : Power) : Prop :=
  p.state = q.state ∧ p.dest = q.dest ∧ p.cause = q.cause ∧ p.wakeTimer = q.wakeTimer ∧ p.settle = q.settle ∧
    p.awaited = q.awaited ∧ p.pendingWake = q.pendingWake ∧ p.continueIntent = q.continueIntent

/-- A change of the other fields, where the dark remaining is present in LIT alone. -/
theorem State.setPower_keeps_of (s : State) {p : Power} (h : p.tied s.power)
    (d : p.darkRemaining.isSome = true → s.power.darkRemaining.isSome = true ∨ s.power.state = .lit) :
    Keeps s (s.setPower p) := by
  obtain ⟨e1, e2, e3, e4, e5, e6, e7, e8⟩ := h
  refine s.setPower_keeps fun _ ⟨supply, timer, dest, cause, wake, dark, powering, off, frame, pending⟩ => ?_
  simp only [PowerInv, State.setPower_power, State.setPower_supplyEn, State.setPower_resetLow, State.setPower_composer,
    State.setPower_chains, e1, e2, e3, e4, e5, e6, e7, e8]
  exact ⟨supply, timer, dest, cause, wake, fun hd => (d hd).elim dark id, powering, off, frame, pending⟩

/-- Two power records that differ in the dark remaining alone (R179). -/
def SameButDark (s t : State) : Prop := ∃ d, t.power = { s.power with darkRemaining := d }

theorem SameButDark.refl (s : State) : SameButDark s s := ⟨_, rfl⟩

theorem SameButDark.trans {s t u : State} : SameButDark s t → SameButDark t u → SameButDark s u := by
  rintro ⟨d, e⟩ ⟨d', e'⟩
  exact ⟨d', by rw [e', e]⟩

theorem SameButDark.of_power {s t : State} (h : t.power = s.power) : SameButDark s t := ⟨s.power.darkRemaining, h⟩

theorem State.reloadDark_same (s : State) : SameButDark s s.reloadDark := by
  obtain ⟨d, e, -⟩ := s.power.reloadDark_eq
  exact ⟨d, e⟩

theorem State.post_sameButDark {g} {s : State} {o t d k s'} (h : s.post g o t d = some (k, s')) : SameButDark s s' := by
  obtain ⟨-, u, rfl, -, rfl⟩ := State.post_eq_some h
  have made : (s.makeRoom g (s.purged o t d) d (s.room (s.purged o t d) d)).power = s.power :=
    (s.makeRoom_only _ _ _ _).field .power
  generalize s.makeRoom g (s.purged o t d) d (s.room (s.purged o t d) d) = u at *
  have filled : ((u.setCues (u.cues.fill k (d.newCue o t u.signals))).zoneEvents g d.zones).power = u.power :=
    (State.zoneEvents_only _ _ _).field .power
  exact (SameButDark.of_power (filled.trans made)).trans (State.reloadDark_same _)

theorem State.advance_sameButDark (n : Nat) (r : Fin 2) : ∀ (i : Nat) (s : State), SameButDark s (State.advance n r i s) := by
  induction n with
  | zero => exact fun i s => .of_power rfl
  | succ n ih =>
    intro i s
    unfold State.advance
    split
    · exact .of_power rfl
    · refine SameButDark.trans ?_ (ih _ _)
      unfold State.postStep
      split
      · exact .of_power rfl
      · split
        · exact .of_power rfl
        · next posted => exact (State.post_sameButDark posted).trans (.of_power rfl)
    · exact (SameButDark.of_power ((s.retireStep_only _ _ _).field .power)).trans (ih _ _)
    · exact (SameButDark.of_power ((s.modifyStep_only _ _ _).field .power)).trans (ih _ _)
    · exact .of_power rfl
    · split
      · exact ih _ _
      · exact .of_power rfl
    · exact (SameButDark.of_power ((s.repeatStep_only _ _ _ _).field .power)).trans (ih _ _)
    · exact .of_power ((s.finishRun_only _ _).field .power)

theorem State.giveRunner_sameButDark (s : State) (r k x) : SameButDark s (s.giveRunner r k x) := by
  rw [State.giveRunner_eq]
  refine ((SameButDark.of_power ?_).trans (State.reloadDark_same _)).trans (State.advance_sameButDark _ _ _ _)
  exact (State.releaseZones_only _ _).field .power

theorem State.startSlot_sameButDark {s : State} {k x r s'} (h : s.startSlot k x = .ok (r, s')) : SameButDark s s' := by
  unfold State.startSlot at h
  split at h <;> try cases h
  split at h
  · obtain ⟨rfl, rfl⟩ := by simpa using h
    exact s.giveRunner_sameButDark _ _ _
  · obtain ⟨rfl, rfl⟩ := by simpa using h
    exact (SameButDark.of_power ((s.abortQuiet_only _ _).field .power)).trans (State.giveRunner_sameButDark _ _ _ _)
  · cases h

theorem State.wakeStart_sameButDark (s : State) : SameButDark s s.wakeStart := by
  unfold State.wakeStart
  split
  · exact .refl s
  · split
    · exact .refl s
    · split
      · next started => exact State.startSlot_sameButDark started
      · exact .of_power rfl
      · exact .of_power rfl

/-- After step 6 of R176 no wake start is pending. -/
theorem State.makePendingWake_power (s : State) :
    ∃ d, s.makePendingWake.power = { s.power with pendingWake := false, darkRemaining := d } := by
  unfold State.makePendingWake
  split
  · obtain ⟨d, e⟩ := State.wakeStart_sameButDark (s.setPower { s.power with pendingWake := false })
    exact ⟨d, e⟩
  · next p =>
    refine ⟨s.power.darkRemaining, ?_⟩
    rw [← Bool.eq_false_of_not_eq_true p]

/-! ## Starting and stopping chains (R124, R125) -/

theorem State.stopChain_keeps (s : State) (i) : Keeps s (s.stopChain i) :=
  .ite (fun _ => .refl s) fun _ => s.setChain_keeps (Chain.stop_goes _)

theorem State.stopChains_keeps (s : State) : Keeps s s.stopChains := Keeps.foldl _ State.stopChain_keeps _ s

theorem State.stopChain_chain (s : State) (i j : Fin 4) : (s.stopChain i).chains[j] =
    if j = i ∧ s.chains[i].mode ≠ .off then s.chains[i].stop else s.chains[j] := by
  unfold State.stopChain
  split
  · next off => simp [off, -Fin.getElem_fin]
  · next on =>
    rw [State.setChain_chain]
    by_cases h : j = i
    · rw [if_pos h, if_pos ⟨h, on⟩]
    · rw [if_neg h, if_neg fun ⟨e, _⟩ => h e]

theorem State.stopChain_off (s : State) (i j : Fin 4) (h : s.chains[j].mode = .off ∨ j = i) :
    (s.stopChain i).chains[j].mode = .off := by
  rw [State.stopChain_chain]
  split
  · rfl
  · next still =>
    rcases h with h | rfl
    · exact h
    · by_contra on
      exact still ⟨rfl, on⟩

theorem State.stopChains_off (s : State) (j : Fin 4) : s.stopChains.chains[j].mode = .off := by
  have all : ∀ (is : List (Fin 4)) (s : State), s.chains[j].mode = .off ∨ j ∈ is →
      (is.foldl State.stopChain s).chains[j].mode = .off := by
    intro is
    induction is with
    | nil => exact fun s h => h.elim id fun h => absurd h List.not_mem_nil
    | cons i is ih =>
      intro s h
      refine ih _ ?_
      rcases h with h | h
      · exact .inl (s.stopChain_off i j (.inl h))
      · rcases List.mem_cons.1 h with e | e
        · exact .inl (s.stopChain_off i j (.inr e))
        · exact .inr e
  exact all _ s (.inr (by simp [indices]))

theorem State.startChain_keeps (s : State) (i : Fin 4) (on : s.power.state.chainsOff = false) :
    Keeps s (s.startChain i) := by
  refine (s.setChain_keeps_of (i := i) (c := s.chains[i].start) Chain.start_ok id
    fun off => (by rw [on] at off; cases off)).trans ?_
  have same : (s.setChain i s.chains[i].start).cond = s.cond := (s.setChain_only _ _).field .cond
  refine State.setCond_keeps_of _ fun h => ?_
  rw [same] at h
  exact h.withOutput i ChainOutput.initial_inRange

theorem State.foldl_startChain_keeps (is : List (Fin 4)) : ∀ s : State, s.power.state.chainsOff = false →
    Keeps s (is.foldl State.startChain s) := by
  induction is with
  | nil => exact fun s _ => .refl s
  | cons i is ih =>
    intro s on
    have same : (s.startChain i).power = s.power := (s.startChain_only i).field .power
    exact (s.startChain_keeps i on).trans (ih _ (by rw [same]; exact on))

/-! ## Transitions (R172 to R179) -/

/-- A part enters DORMANT from STANDBY, where no chain runs, no frame timer and no wake start is pending (R172). -/
theorem State.enterDormant_keeps (s : State) (h : s.power.state = .standby) : Keeps s s.enterDormant := by
  refine s.finishLastFrame_keeps.trans (State.setPower_keeps _ fun awake inv => ?_)
  have none' : s.finishLastFrame.composer.frame = none := by
    unfold State.finishLastFrame
    split
    · assumption
    · rfl
  have state : s.finishLastFrame.power.state = .standby := by rw [State.finishLastFrame_power]; exact h
  generalize s.finishLastFrame = t at *
  obtain ⟨supply, timer, dest, cause, wake, dark, powering, off, -, pending⟩ := inv
  rw [state] at supply timer dest cause wake dark powering off pending
  refine ⟨supply, timer, dest, cause, wake, fun d => absurd (dark d) (by decide), ?_, fun _ => off rfl, fun _ => none',
    fun p => by rcases pending p with ⟨e, -⟩ | e | e <;> cases e⟩
  exact ⟨fun e => absurd e (show PowerState.dormant ≠ .powering by decide), fun e => absurd (powering.2 e) (by decide)⟩

theorem State.zoneEvents_transition (g) (zs) (p timer supply) (s : State) :
    (s.transition p timer supply).zoneEvents g zs = (s.zoneEvents g zs).transition p timer supply := by
  unfold State.zoneEvents
  generalize members zs = l
  induction l generalizing s with
  | nil => rfl
  | cons z l ih => exact ih (s.zoneEvent g z)

/-- The freeing of a slot is no concern of the Power Controller, and none of its. -/
theorem State.freeSlot_transition (g) (k) (p timer supply) (s : State) :
    (s.transition p timer supply).freeSlot g k = (s.freeSlot g k).transition p timer supply := by
  unfold State.freeSlot
  rw [show (s.transition p timer supply).cueAt k = s.cueAt k from rfl]
  split
  · rfl
  · next c _ =>
    rw [show (s.transition p timer supply).setCues ((s.transition p timer supply).cues.remove k) =
      (s.setCues (s.cues.remove k)).transition p timer supply from rfl, State.zoneEvents_transition]
    unfold State.reportFreed
    split <;> rfl

theorem State.freeTransients_transition (p timer supply) (s : State) :
    (s.transition p timer supply).freeTransients = s.freeTransients.transition p timer supply := by
  unfold State.freeTransients State.freeAll
  rw [show (s.transition p timer supply).cues = s.cues from rfl]
  generalize s.cues.postOrder.filter transient = ks
  induction ks generalizing s with
  | nil => rfl
  | cons k ks ih =>
    rw [List.foldl_cons, List.foldl_cons, State.freeSlot_transition]
    exact ih _

theorem State.freeTransients_keeps (s : State) : Keeps s s.freeTransients := s.freeAll_keeps _

/-- The end of DIMMING but for the entry to DORMANT: the chains stop, the transient cues are freed, and the power fields, the
frame timer and SUPPLY_EN change together (R178). -/
def State.darkened (s : State) : State :=
  (s.stopChains.freeTransients.transition { s.power with state := .standby, dest := none } none false).raisePower
    .standby .dimmed

theorem State.stopChains_power (s : State) : s.stopChains.power = s.power := s.stopChains_only.field .power

theorem State.freeTransients_darkened (u : State) :
    ((u.setSupplyEn false).setComposer { (u.setSupplyEn false).composer with timer := none }).freeTransients =
      u.freeTransients.transition u.power none false := by
  rw [← State.freeTransients_transition]
  rfl

theorem State.endOfDimming_eq (s : State) :
    s.endOfDimming = if s.power.dest = some .dormant then s.darkened.enterDormant else s.darkened := by
  have power := s.stopChains_power
  unfold State.endOfDimming State.darkened
  dsimp only
  generalize s.stopChains = u at *
  rw [State.freeTransients_darkened, power]
  generalize u.freeTransients = v
  rfl

/-- The end of DIMMING in the power fields, once no chain runs (R178). -/
theorem State.darken_keeps (u : State) (h : u.power.state = .dimming) (off : ∀ i : Fin 4, u.chains[i].mode = .off) :
    Keeps u (u.transition { u.power with state := .standby, dest := none } none false) := by
  refine State.transition_keeps _ fun awake inv => ?_
  obtain ⟨-, -, -, cause, wake, dark, powering, -, -, pending⟩ := inv
  rw [h] at cause wake dark powering pending
  refine ⟨(Bool.and_false _).symm, rfl, rfl, cause, wake, fun d => absurd (dark d) (by decide), ?_, fun _ => off,
    fun d => absurd d (show PowerState.standby ≠ .dormant by decide),
    fun p => by rcases pending p with ⟨e, -⟩ | e | e <;> cases e⟩
  exact ⟨fun e => absurd e (show PowerState.standby ≠ .powering by decide), fun e => absurd (powering.2 e) (by decide)⟩

theorem State.darkened_keeps (s : State) (h : s.power.state = .dimming) : Keeps s s.darkened := by
  have power : s.stopChains.freeTransients.power = s.power :=
    (State.freeTransients_only _).field .power |>.trans s.stopChains_power
  have chains : s.stopChains.freeTransients.chains = s.stopChains.chains := (State.freeTransients_only _).field .chains
  have off : ∀ i : Fin 4, s.stopChains.freeTransients.chains[i].mode = .off := fun i => by
    rw [chains]
    exact s.stopChains_off i
  have keeps := s.stopChains_keeps.trans (State.freeTransients_keeps _)
  unfold State.darkened
  rw [← power] at h ⊢
  exact (keeps.trans (State.darken_keeps _ h off)).trans (State.raisePower_keeps _ _ _)

theorem State.endOfDimming_keeps (s : State) (h : s.power.state = .dimming) : Keeps s s.endOfDimming := by
  rw [State.endOfDimming_eq]
  exact .ite (fun _ => (s.darkened_keeps h).trans (State.enterDormant_keeps _ rfl)) fun _ => s.darkened_keeps h

theorem State.abortForPower_keeps (s : State) (r) : Keeps s (s.abortForPower r) :=
  .ite (fun _ => s.abortRunner_keeps _ _) fun _ => .refl s

theorem State.enterDimming_keeps (s : State) (h : s.power.state = .lit) (d) : Keeps s (s.enterDimming d) := by
  obtain ⟨x, power⟩ := s.makePendingWake_power
  have entered : Keeps s (((s.makePendingWake.setPower { s.makePendingWake.power with
      state := .dimming, dest := some d, envStart := s.makePendingWake.power.envelope, envElapsed := 0,
      darkRemaining := none }).abortForPower 0).abortForPower 1) := by
    refine ((s.makePendingWake_keeps.trans (State.setPower_keeps _ fun awake inv => ?_)).trans
      (State.abortForPower_keeps _ _)).trans (State.abortForPower_keeps _ _)
    obtain ⟨supply, timer, dest, cause, wake, -, powering, -, -, -⟩ := inv
    rw [power] at supply timer cause wake powering
    dsimp only at supply timer cause wake powering
    rw [h] at supply timer cause wake powering
    rw [power]
    refine ⟨supply, timer, rfl, cause, wake, (fun no => by cases no), ?_, fun no => absurd no Bool.false_ne_true,
      fun no => absurd no (show PowerState.dimming ≠ .dormant by decide), fun no => by cases no⟩
    exact ⟨fun e => absurd e (show PowerState.dimming ≠ .powering by decide), fun e => absurd (powering.2 e) (by decide)⟩
  refine .ite (fun _ => entered.trans (State.endOfDimming_keeps _ ?_)) fun _ => entered
  rw [(State.abortForPower_only _ 1).field .power, (State.abortForPower_only _ 0).field .power]
  rfl

/-- DIMMING is reversed in the power fields (R178). -/
theorem State.resume_keeps (s : State) (h : s.power.state = .dimming) (start elapsed) : Keeps s (s.setPower
    { s.power with state := .lit, dest := none, envStart := start, envElapsed := elapsed }) := by
  refine s.setPower_keeps fun awake inv => ?_
  obtain ⟨supply, timer, -, cause, wake, -, powering, -, -, -⟩ := inv
  rw [h] at supply timer cause wake powering
  refine ⟨supply, timer, rfl, cause, wake, fun _ => rfl, ?_, fun no => absurd no Bool.false_ne_true,
    fun no => absurd no (show PowerState.lit ≠ .dormant by decide), fun _ => .inr (.inr rfl)⟩
  exact ⟨fun e => absurd e (show PowerState.lit ≠ .powering by decide), fun e => absurd (powering.2 e) (by decide)⟩

theorem State.reverseDimming_keeps (s : State) (h : s.power.state = .dimming) : Keeps s s.reverseDimming :=
  (((s.resume_keeps h _ _).trans (State.relight_keeps _)).trans (State.reloadDark_keeps _)).trans
    (State.raisePower_keeps _ _ _)

/-- POWERING is abandoned in the power fields, once no chain runs (R175). -/
theorem State.abandon_keeps (u : State) (h : u.power.state = .powering) (off : ∀ i : Fin 4, u.chains[i].mode = .off) :
    Keeps u ((u.setSupplyEn false).setPower { (u.setSupplyEn false).power with
      state := .standby, settle := none, awaited := 0, cause := none, pendingWake := false }) := by
  refine u.transition_keeps (p := { u.power with
    state := .standby, settle := none, awaited := 0, cause := none, pendingWake := false })
    (timer := u.composer.timer) (supply := false) fun awake inv => ?_
  obtain ⟨-, timer, dest, -, wake, dark, -, -, -, -⟩ := inv
  rw [h] at timer dest wake dark
  refine ⟨(Bool.and_false _).symm, timer, dest, rfl, wake, fun d => absurd (dark d) (by decide), ?_,
    fun _ => off, fun d => absurd d (show PowerState.standby ≠ .dormant by decide), fun p => by cases p⟩
  refine ⟨fun e => absurd e (show PowerState.standby ≠ .powering by decide), ?_⟩
  rintro (e | e)
  · cases e
  · exact absurd rfl e

theorem State.abandonPowering_keeps (s : State) (h : s.power.state = .powering) : Keeps s s.abandonPowering :=
  (s.stopChains_keeps.trans (State.abandon_keeps _ (by rw [s.stopChains_power]; exact h) s.stopChains_off)).trans
    (State.raisePower_keeps _ _ _)

/-- POWERING is entered from STANDBY or WAKING with these power fields (R175). -/
theorem State.powerUp_keeps (s : State) {p : Power} (state : p.state = .powering) (settle : p.settle.isSome = true)
    (cause : p.cause.isSome = true) (dest : p.dest = s.power.dest) (dark : p.darkRemaining = s.power.darkRemaining)
    (from' : s.power.state = .standby ∧ p.wakeTimer = s.power.wakeTimer ∨ s.power.state = .waking ∧ p.wakeTimer = none) :
    Keeps s (s.transition p s.composer.timer true) := by
  refine s.transition_keeps fun awake inv => ?_
  obtain ⟨-, timer, dest', -, wake, dark', -, -, -, -⟩ := inv
  have before : s.power.state.framesRun = false ∧ (s.power.state == .dimming) = false ∧ s.power.state ≠ .lit := by
    rcases from' with ⟨e, -⟩ | ⟨e, -⟩ <;> rw [e] <;> exact ⟨rfl, rfl, by decide⟩
  obtain ⟨frames, dimming, lit⟩ := before
  refine ⟨?_, ?_, ?_, ?_, ?_, fun d => ?_, ⟨fun _ => .inl settle, fun _ => state⟩, fun d => ?_, fun d => ?_,
    fun _ => .inr (.inl state)⟩
  · show true = (!s.resetLow && p.state.supplied)
    rw [awake, state]
    rfl
  · show s.composer.timer.isSome = p.state.framesRun
    rw [timer, frames, state]
    rfl
  · show p.dest.isSome = (p.state == .dimming)
    rw [dest, dest', dimming, state]
    rfl
  · show p.cause.isSome = (p.state == .powering)
    rw [cause, state]
    rfl
  · show p.wakeTimer.isSome = (p.state == .waking)
    rw [state]
    rcases from' with ⟨e, w⟩ | ⟨-, w⟩
    · rw [w, wake, e]
      rfl
    · rw [w]
      rfl
  · have : s.power.darkRemaining.isSome = true := by rw [← dark]; exact d
    exact absurd (dark' this) lit
  · have : p.state.chainsOff = true := d
    rw [state] at this
    cases this
  · exact absurd (state.symm.trans d) (by decide)

/-- A part in WAKING takes an intent (R173): a pending wake start goes with the continue intent. -/
theorem State.intend_keeps (s : State) (h : s.power.state = .waking) {c p : Bool} (both : p = true → c = true) :
    Keeps s (s.setPower { s.power with continueIntent := c, pendingWake := p }) :=
  s.setPower_keeps fun _ ⟨supply, timer, dest, cause, wake, dark, powering, off, frame, _⟩ =>
    ⟨supply, timer, dest, cause, wake, dark, powering, off, frame, fun hp => .inl ⟨h, both hp⟩⟩

/-- The part wakes (R172). -/
theorem State.wakeUp_keeps (s : State) (h : s.power.state = .dormant) (w) : Keeps s (s.setPower (s.power.wakeUp w)) := by
  refine s.setPower_keeps fun _ ⟨supply, timer, dest, cause, _, dark, powering, off, _, _⟩ => ?_
  rw [h] at supply timer dest cause dark powering off
  refine ⟨supply, timer, dest, cause, rfl, fun d => absurd (dark d) (by decide), ?_, fun _ => off rfl,
    fun d => absurd d (show PowerState.waking ≠ .dormant by decide), fun p => .inl ⟨rfl, p⟩⟩
  exact ⟨fun e => absurd e (show PowerState.waking ≠ .powering by decide), fun e => absurd (powering.2 e) (by decide)⟩

theorem State.wakeByChipSelect_keeps (s : State) (h : s.power.state = .dormant) (n) : Keeps s (s.wakeByChipSelect n) :=
  ((s.wakeUp_keeps h false).trans (State.setSdo_keeps _ _)).trans (State.setReply_keeps _ _)

theorem State.armedEdge_keeps (s : State) : Keeps s s.armedEdge := by
  unfold State.armedEdge
  cases h : s.power.state with
  | dormant => exact .refl s
  | waking => exact s.intend_keeps h id
  | standby =>
    exact s.powerUp_keeps (p := { s.power with
      state := .powering, settle := some s.power.settleTime, awaited := 0, cause := some .wake, pendingWake := true })
      rfl rfl rfl rfl rfl (.inl ⟨h, rfl⟩)
  | powering =>
    exact s.setPower_keeps fun _ ⟨supply, timer, dest, cause, wake, dark, powering, off, frame, _⟩ =>
      ⟨supply, timer, dest, cause, wake, dark, powering, off, frame, fun _ => .inr (.inl h)⟩
  | lit => exact s.wakeStart_keeps
  | dimming => exact (s.reverseDimming_keeps h).trans (State.wakeStart_keeps _)

theorem State.wakeEdge_keeps (s : State) : Keeps s s.wakeEdge :=
  .ite (fun h => s.wakeUp_keeps h _) fun _ => .ite (fun _ => s.armedEdge_keeps) fun _ => .refl s

theorem State.wakeDelayExpiry_keeps (s : State) : Keeps s s.wakeDelayExpiry := by
  refine .ite (fun h => .ite (fun _ => ?_) fun stay => ?_) fun _ => .refl s
  · exact (s.raisePower_keeps .standby .woken).trans (State.powerUp_keeps (s.raisePower .standby .woken) (p := { s.power with
      state := .powering, wakeTimer := none, continueIntent := false, settle := some s.power.settleTime, awaited := 0,
      cause := some (if s.power.pendingWake then PathCause.wake else PathCause.command) }) rfl rfl rfl rfl rfl
      (.inr ⟨h, rfl⟩))
  · refine (s.setPower_keeps fun _ ⟨supply, timer, dest, cause, _, dark, powering, off, _, pending⟩ => ?_).trans
      (State.raisePower_keeps _ _ _)
    rw [h] at supply timer dest cause dark powering off pending
    refine ⟨supply, timer, dest, cause, rfl, fun d => absurd (dark d) (by decide), ?_, fun _ => off rfl,
      fun d => absurd d (show PowerState.standby ≠ .dormant by decide), fun p => ?_⟩
    · exact ⟨fun e => absurd e (show PowerState.standby ≠ .powering by decide), fun e => absurd (powering.2 e) (by decide)⟩
    · rcases pending p with ⟨-, go⟩ | e | e
      · exact absurd go stay
      · cases e
      · cases e

theorem State.settleExpiry_keeps (s : State) : Keeps s s.settleExpiry := by
  refine .ite (fun ⟨h, _⟩ => ?_) fun _ => .refl s
  by_cases some' : s.enabledChains = 0
  · dsimp only
    rw [if_pos some', some']
    show Keeps s (s.setPower { s.power with awaited := 0, settle := none }).lightUp.orderEntryWake
    rw [State.lightUp_awaited]
    exact s.enterLit_keeps h
  · dsimp only
    rw [if_neg some']
    refine (s.setPower_keeps (v := { s.power with settle := none, awaited := s.enabledChains })
      fun _ ⟨supply, timer, dest, cause, wake, dark, _, off, frame, pending⟩ =>
      ⟨supply, timer, dest, cause, wake, dark, ⟨fun _ => .inr some', fun _ => h⟩, off, frame, pending⟩).trans
      (State.foldl_startChain_keeps _ _ ?_)
    show s.power.state.chainsOff = false
    rw [h]
    rfl

theorem Power.dimmed_state {p : Power} (h : p.dimmed = true) : p.state = .dimming := by
  simp only [Power.dimmed, Bool.and_eq_true, beq_iff_eq] at h
  exact h.1

theorem Power.darkDue_state {p : Power} (h : p.darkDue = true) : p.state = .lit := by
  simp only [Power.darkDue, Bool.and_eq_true, beq_iff_eq] at h
  exact h.1

theorem State.dimmingEnd_keeps (s : State) : Keeps s s.dimmingEnd :=
  .ite (fun h => s.endOfDimming_keeps (Power.dimmed_state h)) fun _ => .refl s

theorem State.darkExpiry_keeps (s : State) : Keeps s s.darkExpiry :=
  .ite (fun h => s.enterDimming_keeps (Power.darkDue_state h) _) fun _ => .refl s

/-! ## The time base (R8) -/

theorem Phase.tick_isFadingOut (p : Phase) : p.tick.isFadingOut = p.isFadingOut := by cases p <;> rfl

theorem State.tick_keeps (s : State) : Keeps s s.tick := by
  refine ((s.setPower_keeps_of (p := s.tickPower) ⟨rfl, rfl, rfl, rfl, rfl, rfl, rfl, rfl⟩ fun d => .inl ?_).trans
    (State.mapCues_keeps _ (f := Cue.tick) (fun c => Phase.tick_isFadingOut c.phase) (s.cues.timeBase + 1))).trans
    (State.setSeq_keeps _ (v := s.seq.tick) (SameRuns.runner ⟨fun r => ?_, fun _ => rfl⟩))
  · unfold State.tickPower at d
    dsimp only at d
    split at d
    · rwa [Option.isSome_map] at d
    · exact d
  · simp [State.setSeq, Sequencer.tick, Runner.tick, State.setCues, State.setPower]

theorem State.settleSlot_keeps (s : State) (k) : Keeps s (s.settleSlot k) :=
  ((s.fadeInCompletion_keeps k).trans (State.lifetimeExpiry_keeps _ k)).trans (State.fadeOutCompletion_keeps _ k)

theorem State.settleRunner_keeps (s : State) (r) : Keeps s (s.settleRunner r) :=
  (s.waitExpiry_keeps r).trans (State.waitSignalTimeout_keeps _ r)

theorem State.settle_keeps (s : State) : Keeps s s.settle :=
  (((Keeps.foldl _ State.settleSlot_keeps _ s).trans (Keeps.foldl _ State.settleRunner_keeps _ _)).trans
    (State.dimmingEnd_keeps _)).trans (State.darkExpiry_keeps _)

theorem State.nextMillisecond_keeps (s : State) : Keeps s s.nextMillisecond := by
  have settled : Keeps s (if s.due then s.settle else s) := .ite (fun _ => s.settle_keeps) fun _ => .refl s
  exact .ite (fun _ => .ite (fun _ => settled.trans (State.tick_keeps _)) fun _ => settled) fun _ => .refl s

end Sys2Proof.Machine

/-! PROOFS. What keeps the invariants, continued: the commands of the host, every event, and the step (O13 to O20). -/

namespace Sys2Proof.Machine

open Sys2Proof

/-! ## The zones and the watches (R56, R57, R69 to R71) -/

theorem Composer.discardZone_latest (c : Composer) (z y : Fin 16) :
    (c.discardZone z).latest[y] = if y = z then none else c.latest[y] := getElem_setFin _ _ _ _

theorem Composer.discardZone_frame {c : Composer} {z : Fin 16} {f : Frame} (h : f ∈ (c.discardZone z).frame) :
    ∃ g ∈ c.frame, f.snap = g.snap ∧ f.left = g.left ∧
      ∀ y : Fin 16, f.discarded.getLsbD y = false → y ≠ z ∧ g.discarded.getLsbD y = false := by
  obtain ⟨g, hg, rfl⟩ := Option.map_eq_some_iff.1 h
  refine ⟨g, hg, rfl, rfl, fun y kept => ?_⟩
  rw [BitVec.getLsbD_or, Bool.or_eq_false_iff] at kept
  refine ⟨?_, kept.1⟩
  rintro rfl
  simp at kept

/-- A list that a zone may hold beside the others: named once, in range, and of no other zone (R56). -/
def State.mayList (s : State) (z : Fin 16) (ns : List NodeRef) : Prop :=
  ns.Nodup ∧ ns.length ≤ 64 ∧ (∀ n ∈ ns, 1 ≤ n.position ∧ n.position ≤ 60) ∧
    ∀ y : Fin 16, y ≠ z → ∀ n ∈ ns, n ∉ s.zones[y].nodes

/-- A zone that is not held gets another list, and loses its composites (R57). -/
theorem State.replaceNodes_keeps (s : State) {z : Fin 16} {ns : List NodeRef} (may : s.mayList z ns)
    (clear : s.zones[z].hold = .clear) :
    Keeps s ((s.setZones (modifyAt s.zones z fun x => { x with nodes := ns })).setComposer (s.composer.discardZone z)) where
  awake := id
  notice _ := id
  cue := id
  watch := id
  zone := by
    rintro ⟨each, apart⟩
    obtain ⟨once, few, inRange, free⟩ := may
    have record : ∀ y : Fin 16, (modifyAt s.zones z fun x => { x with nodes := ns })[y] =
        if y = z then { s.zones[z] with nodes := ns } else s.zones[y] := fun y => getElem_modifyAt _ _ _ _
    refine ⟨fun y => ?_, fun x y ne n hn => ?_⟩
    · obtain ⟨nodup, size, trim, fits, places, latest, frame⟩ := each y
      simp only [State.setComposer_zones, State.setZones_zones, State.setComposer_composer, record,
        Composer.discardZone_latest]
      by_cases e : y = z
      · subst e
        simp only [if_true]
        refine ⟨once, few, trim, by rw [clear]; rfl, inRange, fun c hc => (by cases hc), fun f hf kept => ?_⟩
        obtain ⟨g, -, -, -, others⟩ := Composer.discardZone_frame hf
        exact absurd rfl (others y kept).1
      · simp only [if_neg e]
        refine ⟨nodup, size, trim, fits, places, latest, fun f hf kept => ?_⟩
        obtain ⟨g, hg, snap, -, others⟩ := Composer.discardZone_frame hf
        rw [snap]
        exact frame g hg (others y kept).2
    · simp only [State.setComposer_zones, State.setZones_zones, record] at hn ⊢
      by_cases ex : x = z
      · subst ex
        rw [if_pos rfl] at hn
        rw [if_neg (Ne.symm ne)]
        exact free y (Ne.symm ne) n hn
      · rw [if_neg ex] at hn
        split
        · exact fun listed => free x ex n listed hn
        · exact apart x y ne n hn
  level inv := by
    obtain ⟨cond, budgets, frames⟩ := (levelInv_iff s).1 inv
    refine (levelInv_iff _).2 ⟨cond, budgets, fun f hf => ?_⟩
    obtain ⟨g, hg, snap, -, -⟩ := Composer.discardZone_frame hf
    rw [snap]
    exact frames g hg
  runner := id
  power _ := fun ⟨supply, timer, dest, cause, wake, dark, powering, off, frame, pending⟩ =>
    ⟨supply, timer, dest, cause, wake, dark, powering, off, fun d => (by simp [Composer.discardZone, frame d]), pending⟩
  chain := fun ⟨records, marks⟩ => ⟨records, fun f hf i unmarked => by
    obtain ⟨g, hg, snap, left, -⟩ := Composer.discardZone_frame hf
    rw [snap]
    exact marks g hg i (left ▸ unmarked)⟩

theorem State.mapZone_keeps (s : State) {z : Fin 16} {ns : List NodeRef} (may : s.mayList z ns)
    (clear : s.zones[z].hold = .clear) : Keeps s (s.mapZone z ns) :=
  (s.replaceNodes_keeps may clear).trans (State.zoneEvent_keeps _ _ _)

/-- The slot of a new entry is its own, or the table has no entry of that client on that zone (R69 to R71). -/
theorem WatchTable.entryOf_placeFor {t : WatchTable} {e : WatchEntry} :
    t.entryOf e = some (t.placeFor e) ∨ t.entryOf e = none := by
  unfold WatchTable.placeFor
  cases t.entryOf e with
  | none => exact .inr rfl
  | some w => exact .inl rfl

theorem WatchTable.write_slot (t : WatchTable) (w v : Fin 8) (e : WatchEntry) :
    (t.write w e).slots[v] = if v = w then { gen := t.slots[w].gen + 1, entry := some e } else t.slots[v] :=
  getElem_modifyAt _ _ _ _

theorem WatchTable.write_listed {t : WatchTable} (h : t.listed) (e : WatchEntry) :
    (t.write (t.placeFor e) e).listed := by
  obtain ⟨nodup, live, single⟩ := h
  have alone : ∀ v : Fin 8, v ≠ t.placeFor e → t.slots[v].entry ≠ some e := by
    intro v ne has
    rcases WatchTable.entryOf_placeFor (t := t) (e := e) with own | none'
    · have at_ : t.slots[t.placeFor e].entry = some e := by
        simpa [-Fin.getElem_fin] using List.find?_some own
      exact ne (single v _ (by rw [has]; rfl) (has.trans at_.symm))
    · have := List.find?_eq_none.1 none' v (by simp [indices])
      simp [-Fin.getElem_fin, has] at this
  generalize t.placeFor e = w at *
  refine ⟨?_, fun v => ?_, fun u v hu same => ?_⟩
  · refine List.nodup_append.2 ⟨nodup.filter _, by simp, fun a ha b hb => ?_⟩
    rw [List.mem_singleton.1 hb]
    simpa using (List.mem_filter.1 ha).2
  · rw [WatchTable.write_slot]
    simp only [WatchTable.write, List.mem_append, List.mem_filter, List.mem_singleton, bne_iff_ne]
    split
    · next h => simp [h]
    · next h => simp [h, live v, -Fin.getElem_fin]
  · rw [WatchTable.write_slot] at hu same
    rw [WatchTable.write_slot] at same
    by_cases eu : u = w <;> by_cases ev : v = w
    · rw [eu, ev]
    · rw [if_pos eu, if_neg ev] at same
      exact absurd same.symm (alone v ev)
    · rw [if_neg eu, if_pos ev] at same
      exact absurd same (alone u eu)
    · rw [if_neg eu, if_neg ev] at same
      rw [if_neg eu] at hu
      exact single u v hu same

/-! ## The Output Conditioner (R104 to R107, R112) -/

theorem clampMax_le (hi x : Nat) : (clampMax hi x).1 ≤ hi := by
  rw [clampMax_eq]
  exact Nat.min_le_left _ _

theorem clampRange_bounds {lo hi : Nat} (h : lo ≤ hi) (x : Nat) : lo ≤ (clampRange lo hi x).1 ∧ (clampRange lo hi x).1 ≤ hi := by
  unfold clampRange clampMax
  split_ifs <;> dsimp only <;> omega

theorem clampInt_bounds {lo hi : Int} (h : lo ≤ hi) (x : Int) : lo ≤ (clampInt lo hi x).1 ∧ (clampInt lo hi x).1 ≤ hi := by
  unfold clampInt
  split_ifs <;> dsimp only <;> omega

theorem Conditioner.ranged.with_lux {c : Conditioner} (h : c.ranged) (x : BitVec 16) :
    ({ c with lux := x.toNat } : Conditioner).ranged := by
  obtain ⟨-, rest⟩ := h
  exact ⟨by have := x.isLt; dsimp only; omega, rest⟩

theorem Conditioner.ranged.with_master {c : Conditioner} (h : c.ranged) (x : Nat) :
    ({ c with master := (clampMax 1000 x).1 } : Conditioner).ranged := by
  obtain ⟨h1, h2, h3, h4, h5, -, rest⟩ := h
  exact ⟨h1, h2, h3, h4, h5, clampMax_le _ _, rest⟩

theorem Conditioner.ranged.with_slew {c : Conditioner} (h : c.ranged) (x : Nat) :
    ({ c with slew := (clampRange 1 1000 x).1 } : Conditioner).ranged := by
  obtain ⟨h1, h2, h3, h4, h5, h6, -, -, rest⟩ := h
  obtain ⟨lo, hi⟩ := clampRange_bounds (by decide : 1 ≤ 1000) x
  exact ⟨h1, h2, h3, h4, h5, h6, lo, hi, rest⟩

theorem Conditioner.ranged.with_curve {c : Conditioner} (h : c.ranged) {ps : List RawPoint} (size : 2 ≤ ps.length)
    (size' : ps.length ≤ 8) (rises : luxAscending (ps.map pointOf) = true) :
    ({ c with curve := ps.map pointOf } : Conditioner).ranged := by
  obtain ⟨h1, -, -, -, -, rest⟩ := h
  refine ⟨h1, by simpa using size, by simpa using size', rises, fun p hp => ?_, rest⟩
  obtain ⟨r, -, rfl⟩ := List.mem_map.1 hp
  exact ⟨by have := r.lux.isLt; simp only [pointOf]; omega, clampMax_le _ _⟩

theorem rowOf_inRange (a b c : BitVec 16) : rowInRange (rowOf a b c).1 :=
  ⟨clampInt_bounds (by decide) _, clampInt_bounds (by decide) _, clampInt_bounds (by decide) _⟩

theorem binOf_inRange (b : RawBin) : (binOf b).1.inRange :=
  ⟨rowOf_inRange _ _ _, rowOf_inRange _ _ _, rowOf_inRange _ _ _, clampMax_le _ _, clampMax_le _ _, clampMax_le _ _⟩

theorem Conditioner.ranged.with_bin {c : Conditioner} (h : c.ranged) (n : Fin 16) (b : RawBin) :
    ({ c with bins := c.bins.set n (binOf b).1 } : Conditioner).ranged := by
  obtain ⟨h1, h2, h3, h4, h5, h6, h7, h8, h9, bins, rest⟩ := h
  refine ⟨h1, h2, h3, h4, h5, h6, h7, h8, h9, fun m => ?_, rest⟩
  dsimp only
  rw [getElem_setFin]
  split
  · exact binOf_inRange b
  · exact bins m

theorem Conditioner.ranged.with_thermal {c : Conditioner} (h : c.ranged) {k l : Int}
    (below : (clampInt (-40) 150 k).1 < (clampInt (-40) 150 l).1) :
    ({ c with knee := (clampInt (-40) 150 k).1, limit := (clampInt (-40) 150 l).1 } : Conditioner).ranged := by
  obtain ⟨h1, h2, h3, h4, h5, h6, h7, h8, h9, h10, -, -, -, rest⟩ := h
  exact ⟨h1, h2, h3, h4, h5, h6, h7, h8, h9, h10, (clampInt_bounds (by decide) k).1, below,
    (clampInt_bounds (by decide) l).2, rest⟩

/-! ## Configuring chains (R123, R127) -/

theorem Chain.rejoinChanged_settings (c : Chain) (before) :
    (c.rejoinChanged before).enabled = c.enabled ∧ (c.rejoinChanged before).expected = c.expected ∧
      (c.rejoinChanged before).budget = c.budget := by
  rcases c.rejoinChanged_eq before with e | ⟨x, r, -, e⟩ <;> rw [e] <;> exact ⟨rfl, rfl, rfl⟩

theorem named_le {b : Bool} {x : Nat × Bool} {old hi : Nat} (h : x.1 ≤ hi) (h' : old ≤ hi) : (named b x old).1 ≤ hi := by
  cases b
  · exact h'
  · exact h

theorem le_named {b : Bool} {x : Nat × Bool} {old lo : Nat} (h : lo ≤ x.1) (h' : lo ≤ old) : lo ≤ (named b x old).1 := by
  cases b
  · exact h'
  · exact h

/-- Named fields are replaced in range, and no chain is left enabled with an expected count of 0 (R123). -/
theorem Chain.configured_ok {c : Chain} (h : c.Ok) {r : RawChainConfig} {enabled policy rejoin}
    (able : (c.configured r enabled policy rejoin).1.enabled = true →
      (c.configured r enabled policy rejoin).1.expected ≠ 0) : (c.configured r enabled policy rejoin).1.Ok := by
  refine (Chain.rejoinChanged_goes _ _).ok ?_
  obtain ⟨same, same', -⟩ := Chain.rejoinChanged_settings _ c.rejoin
  unfold Chain.configured at able
  rw [same, same'] at able
  obtain ⟨⟨h1, -, h3, h4, h5, h6, h7, h8, h9, h10⟩, run, brk, nodes, fresh, mode⟩ := h
  exact ⟨⟨named_le (clampMax_le _ _) h1, able, named_le (clampMax_le _ _) h3,
    le_named (clampRange_bounds (by decide) _).1 h4, named_le (clampRange_bounds (by decide) _).2 h5,
    le_named (clampRange_bounds (by decide) _).1 h6, named_le (clampRange_bounds (by decide) _).2 h7, h8, h9, h10⟩,
    run, brk, nodes, fresh, mode⟩

theorem Chain.configured_budget {c : Chain} (h : c.budget ≤ 3000) (r enabled policy rejoin) :
    (c.configured r enabled policy rejoin).1.budget ≤ 3000 := by
  unfold Chain.configured
  rw [(Chain.rejoinChanged_settings _ _).2.2]
  exact named_le (clampRange_bounds (by decide) _).2 h

theorem Chain.configured_off {c : Chain} (h : c.mode = .off) (r enabled policy rejoin) :
    (c.configured r enabled policy rejoin).1.mode = .off := (Chain.rejoinChanged_goes _ _).off h

theorem Chain.enable_goes {c : Chain} {on : Bool} (h : on = true → c.expected ≠ 0) : c.Goes { c with enabled := on } :=
  ⟨fun ⟨⟨h1, _, rest⟩, run, brk, nodes, fresh, mode⟩ => ⟨⟨h1, h, rest⟩, run, brk, nodes, fresh, mode⟩, rfl, id⟩

theorem State.enable_keeps (s : State) {i : Fin 4} {on : Bool} (h : on = true → s.chains[i].expected ≠ 0) :
    Keeps s (s.enable i on) := s.setChain_keeps (Chain.enable_goes h)

/-- An OFFLINE node of a driven chain becomes SUSPECT (R127). -/
theorem Chain.rejoin_goes {c : Chain} {k : Fin 60} (h : c.nodes[k].state = .offline) :
    c.Goes { c with nodes := c.nodes.set k { c.nodes[k] with state := .suspect, badReplies := 0, goodRun := 0 } } := by
  refine Chain.setNode_goes fun ok => ?_
  obtain ⟨⟨-, -, -, t1, t2⟩, -⟩ := ok.nodes k
  exact ⟨⟨Nat.zero_le _, fun _ _ => Nat.zero_le _, Nat.zero_le _, t1, t2⟩, by rw [h]; simp, fun _ => Nat.zero_le _⟩

/-! ## Sequence slots (R147 to R150) -/

/-- A slot that is not RUNNING changes, to one that is not. -/
theorem State.setSlot_keeps (s : State) {k : Fin 6} {f : SeqSlot → SeqSlot} (before : s.seq.slots[k].state.isRunning = false)
    (after : (f s.seq.slots[k]).state.isRunning = false) : Keeps s (s.setSlot k f) := by
  refine s.setSeq_keeps fun ⟨active, names⟩ => ?_
  show RunnerInv (s.setSlot k f)
  refine ⟨active, fun r j => ?_⟩
  rw [State.setSlot_slot]
  split
  · next e =>
    subst e
    have no : ∀ {x : SlotState}, x.isRunning = false → x ≠ .running r := by rintro x hx rfl; cases hx
    exact (names r j).trans (iff_of_false (no before) (no after))
  · exact names r j

theorem State.setTemplates_keeps (s : State) (v) : Keeps s (s.setSeq { s.seq with templates := v }) := s.setSeq_keeps id

/-! ## SOFT_RESET (R190) -/

theorem State.silence_keeps (s : State) (r) : Keeps s (s.silence r) :=
  .ite (fun _ => s.idleRunner_keeps r) fun _ => .refl s

theorem WatchTable.emptied_listed (t : WatchTable) : t.emptied.listed := by
  have none' : ∀ w : Fin 8, t.emptied.slots[w].entry = none := fun w => by simp [WatchTable.emptied]
  refine ⟨List.nodup_nil, fun w => ?_, fun v w hv => ?_⟩
  · rw [none' w]
    simp [WatchTable.emptied]
  · rw [none' v] at hv
    cases hv

theorem State.clearHolds_keeps (s : State) : Keeps s s.clearHolds :=
  s.setZones_keeps_of fun z => by simp [Hold.fits]

theorem Notices.emptied_bounded (n : Notices) : n.emptied.bounded :=
  ⟨Nat.zero_le 8, List.nodup_nil, fun _ h => absurd h List.not_mem_nil, Nat.zero_le _⟩

theorem State.softReset_keeps (s : State) : Keeps s s.softReset := by
  refine Keeps.trans (t := (((((s.setCues s.cues.emptied).setWatches s.watches.emptied).clearHolds.silence 0).silence
    1).applyStaged).reloadDark) ?_ (State.withNotices_keeps _ (n := (Notices.emptied _).raise .restarted .none .soft)
      fun _ => Notices.raise_bounded (Notices.emptied_bounded _) _ _ _)
  refine Keeps.trans ?_ (State.reloadDark_keeps _)
  refine Keeps.trans ?_ (State.applyStaged_keeps _)
  refine Keeps.trans ?_ (State.silence_keeps _ _)
  refine Keeps.trans ?_ (State.silence_keeps _ _)
  refine Keeps.trans ?_ (State.clearHolds_keeps _)
  exact (s.setCues_keeps fun _ => CueTable.emptied_listed _).trans
    (State.setWatches_keeps _ fun _ => WatchTable.emptied_listed _)

end Sys2Proof.Machine

/-! PROOFS. The step keeps the invariants (O13 to O20): every block's verdict, every event and the resets. -/

namespace Sys2Proof.Machine

open Sys2Proof

/-! ## Values that a command reads -/

theorem mapM_eq_some_iff {α β : Type} {f : α → Option β} {xs : List α} : ∀ {ys : List β},
    xs.mapM f = some ys ↔ List.Forall₂ (fun x y => f x = some y) xs ys := by
  induction xs with
  | nil =>
    intro ys
    simp [List.mapM_nil, eq_comm]
  | cons x xs ih =>
    intro ys
    rw [List.mapM_cons]
    cases hx : f x with
    | none =>
      simp only [Option.bind_eq_bind, Option.bind_none, reduceCtorEq, false_iff]
      intro h
      obtain ⟨y, ys', e, -, -⟩ := List.forall₂_cons_left_iff.1 h
      rw [hx] at e
      cases e
    | some y =>
      cases hxs : xs.mapM f with
      | none =>
        simp only [Option.bind_eq_bind, Option.bind_some, Option.bind_none, reduceCtorEq, false_iff]
        intro h
        obtain ⟨y', ys', -, tail, rfl⟩ := List.forall₂_cons_left_iff.1 h
        rw [ih.2 tail] at hxs
        cases hxs
      | some ys' =>
        simp only [Option.bind_eq_bind, Option.bind_some, Option.pure_def, Option.some.injEq]
        constructor
        · rintro rfl
          exact .cons hx (ih.1 hxs)
        · intro h
          obtain ⟨z, zs, e, tail, rfl⟩ := List.forall₂_cons_left_iff.1 h
          rw [hx] at e
          rw [ih.2 tail] at hxs
          rw [Option.some.inj e, Option.some.inj hxs]

theorem nodeRefOf_position {r : RawNodeRef} {n : NodeRef} (h : nodeRefOf r = some n) :
    1 ≤ n.position ∧ n.position ≤ 60 := by
  obtain ⟨c, -, e⟩ := Option.bind_eq_some_iff.1 h
  split at e
  · next ok =>
    rw [← Option.some.inj e]
    exact ok
  · cases e

/-- No other zone lists a node of the list (R56, 6). -/
theorem State.firstInUse_none {s : State} {z : Fin 16} {ns : List NodeRef} (h : s.firstInUse z ns = none) {y : Fin 16}
    (ne : y ≠ z) {n : NodeRef} (hn : n ∈ ns) : n ∉ s.zones[y].nodes := by
  have := List.findSome?_eq_none_iff.1 h n hn
  rw [Option.map_eq_none_iff] at this
  have := List.find?_eq_none.1 this y (by simp [indices])
  simpa [ne, -Fin.getElem_fin] using this

/-- A list that passes the tests of R56 may be listed. -/
theorem State.mayList_of_tests {s : State} {z : Fin 16} {raw : List RawNodeRef} {ns : List NodeRef}
    (size : raw.length ≤ 64) (read : raw.mapM nodeRefOf = some ns) (once : ns.Nodup)
    (free : s.firstInUse z ns = none) : s.mayList z ns := by
  have each := mapM_eq_some_iff.1 read
  refine ⟨once, each.length_eq ▸ size, fun n hn => ?_, fun y ne n hn => State.firstInUse_none free ne hn⟩
  obtain ⟨r, -, e⟩ : ∃ r ∈ raw, nodeRefOf r = some n := by
    clear size read once free
    induction each with
    | nil => cases hn
    | cons e _ ih =>
      rcases List.mem_cons.1 hn with rfl | hn
      · exact ⟨_, List.mem_cons_self .., e⟩
      · obtain ⟨r, hr, e⟩ := ih hn
        exact ⟨r, List.mem_cons_of_mem _ hr, e⟩
  exact nodeRefOf_position e

/-- A handle names a live cue (R2). -/
theorem State.resolve_live {s : State} {raw k c} (h : s.resolve raw = some (k, c)) : s.cueAt k = some c := by
  obtain ⟨x, -, e⟩ := Option.bind_eq_some_iff.1 h
  split at e
  · obtain ⟨c', live, e⟩ := Option.map_eq_some_iff.1 e
    obtain ⟨rfl, rfl⟩ := Prod.mk.injEq _ _ _ _ ▸ e
    exact live
  · cases e

/-! ## Verdicts -/

/-- What a block's verdict keeps when it carries the command out. -/
def Verdict.Keeps (s : State) : Verdict → Prop
  | .refuse _ _ => True
  | .accept _ _ s' => Machine.Keeps s s'

theorem Verdict.Keeps.require {s : State} {b : Bool} {v : Verdict} (h : b = true → v.Keeps s) :
    (Machine.require b v).Keeps s := by
  cases b
  · trivial
  · exact h rfl

theorem Verdict.Keeps.requireSome {α : Type} {s : State} {x : Option α} {k : α → Verdict}
    (h : ∀ a, x = some a → (k a).Keeps s) : (Machine.requireSome x k).Keeps s := by
  cases x
  · trivial
  · exact h _ rfl

theorem Verdict.Keeps.guardWith {s : State} {b : Bool} {x : Status} {v : Verdict} (h : b = false → v.Keeps s) :
    (Machine.guardWith b x v).Keeps s := by
  cases b
  · exact h rfl
  · trivial

theorem Verdict.Keeps.ite {s : State} {p : Prop} [Decidable p] {v w : Verdict} (h : p → v.Keeps s)
    (h' : ¬ p → w.Keeps s) : (if p then v else w).Keeps s := by
  split
  · exact h ‹_›
  · exact h' ‹_›

theorem Verdict.Keeps.guarded {s : State} {h : Header} {block : Option (Fin 8) → Verdict}
    (hb : ∀ g, (block g).Keeps s) : (Machine.guarded h s block).Keeps s := by
  unfold Machine.guarded
  split
  · trivial
  · next g _ =>
    have := hb (g.map (·.slot))
    revert this
    cases block (g.map (·.slot)) with
    | refuse x p => intro _; cases g <;> trivial
    | accept a p s' =>
      intro keeps
      cases g with
      | none => exact keeps
      | some g =>
        obtain ⟨w, c⟩ := g
        cases c
        · exact keeps
        · exact Machine.Keeps.trans keeps (s'.freeWatch_keeps w)

theorem State.store_keeps (s : State) (o n r) : Keeps s (s.store o n r) := (s.setSdo_keeps _).trans (State.setReply_keeps _ _)

theorem State.turnAway_keeps (s : State) (n x t) : Keeps s (s.turnAway n x t) := s.store_keeps _ _ _

theorem State.unheard_keeps (s : State) (n) : Keeps s (s.unheard n) := s.setSdo_keeps _

/-- A frame keeps the invariants where the verdict of its block does. -/
theorem State.takeFrame_keeps (s : State) (cls w ok n h) (block : State → Verdict) (hb : (block s).Keeps s) :
    Keeps s (s.takeFrame cls w ok n h block) := by
  rcases s.takeFrame_cases cls w ok n h block with ⟨-, e⟩ | ⟨-, dormant, e⟩ | ⟨-, -, x, -, e⟩ | ⟨-, -, e⟩ <;> rw [e]
  · exact s.unheard_keeps _
  · exact s.wakeByChipSelect_keeps dormant _
  · exact s.turnAway_keeps _ _ _
  · revert hb
    cases block s with
    | refuse x p => exact fun _ => s.store_keeps _ _ _
    | accept a p s' => exact fun keeps => Machine.Keeps.trans keeps (s'.store_keeps _ _ _)

/-! ## Blocks whose verdict reads what it writes -/

theorem State.setWatch_keeps (s : State) (e : WatchEntry) :
    Keeps s (s.setWatches (s.watches.write (s.watches.placeFor e) e)) :=
  s.setWatches_keeps fun h => WatchTable.write_listed h e

theorem State.setPeriod_keeps (s : State) (n) : Keeps s (s.setComposer { s.composer with period := n }) :=
  ⟨id, fun _ => id, id, id, id, id, id, fun _ => id, id⟩

theorem Power.refade_tied (p : Power) (n) : (p.refade n).tied p ∧ (p.refade n).darkRemaining = p.darkRemaining := by
  unfold Power.refade
  split <;> exact ⟨⟨rfl, rfl, rfl, rfl, rfl, rfl, rfl, rfl⟩, rfl⟩

theorem State.refade_keeps (s : State) (w t n) :
    Keeps s (s.setPower (Power.refade { s.power with wakeDelay := w, settleTime := t } n)) := by
  obtain ⟨tied, dark⟩ := Power.refade_tied { s.power with wakeDelay := w, settleTime := t } n
  exact s.setPower_keeps_of tied fun d => .inl (by rw [dark] at d; exact d)

theorem State.redirect_keeps (s : State) (h : s.power.state = .dimming) (d) :
    Keeps s (s.setPower { s.power with dest := some d }) :=
  s.setPower_keeps fun _ ⟨supply, timer, _, cause, wake, dark, powering, off, frame, pending⟩ =>
    ⟨supply, timer, (by show true = (s.power.state == .dimming); rw [h]; rfl), cause, wake, dark, powering, off, frame,
      pending⟩

theorem SlotState.not_running {x : SlotState} (h : x.isRunning = false) (r : Fin 2) : x ≠ .running r := by
  rintro rfl
  cases h

theorem SeqSlot.load_state {q : SeqSlot} (h : q.state.isRunning = false) (n xs) :
    (q.beginLoading.write n xs).state.isRunning = false := by
  show q.beginLoading.state.isRunning = false
  unfold SeqSlot.beginLoading
  split
  · exact h
  · rfl

theorem Cue.refreshed_phase (c : Cue) (l) : (c.refreshed l).1.phase = c.phase := by
  unfold Cue.refreshed
  split <;> rfl

/-- Some of the notices stay, and the missed count does not rise. -/
theorem Notices.bounded_of_sublist {n m : Notices} (sub : m.list.Sublist n.list) (le : m.missed ≤ n.missed)
    (h : n.bounded) : m.bounded := by
  obtain ⟨size, keys, counts, missed⟩ := h
  exact ⟨sub.length_le.trans size, keys.sublist (sub.map _), fun x hx => counts x (sub.subset hx), le.trans missed⟩

/-- A slot that has been freed holds no cue (R12). -/
theorem State.freeSlot_frees (s : State) (g) (k : Fin 48) : (s.freeSlot g k).cues.slots[k].cue = none := by
  cases h : s.cues.slots[k].cue with
  | none =>
    have same : s.freeSlot g k = s := by
      unfold State.freeSlot State.cueAt
      rw [h]
    rw [same]
    exact h
  | some c =>
    rw [(State.freeSlot_some h).1]
    simp only [CueTable.remove]
    rw [getElem_modifyAt_self]

theorem State.setInterval_keeps (s : State) (n) : Keeps s (s.setPower { s.power with darkInterval := n }).reloadDark :=
  (s.setPower_keeps_of (p := { s.power with darkInterval := n }) ⟨rfl, rfl, rfl, rfl, rfl, rfl, rfl, rfl⟩ .inl).trans
    (State.reloadDark_keeps _)

theorem State.setEntry_keeps (s : State) (e x) : Keeps s (s.setEntry e x) := s.setPalette_keeps _

/-! ## The hand-over of a command -/

/-- What the command of a frame keeps. -/
def Result.Keeps (s : State) (r : Result) : Prop := ∀ t, r = .next t → Machine.Keeps s t

theorem Result.Keeps.next {s t : State} (h : Machine.Keeps s t) : Result.Keeps s (.next t) := by
  rintro u e
  obtain rfl : t = u := by injection e
  exact h

theorem Result.Keeps.frame {s : State} {cls w ok n h} {block : State → Verdict} (hb : (block s).Keeps s) :
    Result.Keeps s (.next (s.takeFrame cls w ok n h block)) := .next (s.takeFrame_keeps _ _ _ _ _ _ hb)

theorem handOver_keeps (i : Instr) (s : State) : Result.Keeps s (handOver i s) := by
  cases i with
  | nop h => exact .frame (.require fun _ => .refl s)
  | identify h => exact .frame (.require fun _ => .refl s)
  | softReset h => exact .frame (.require fun _ => s.softReset_keeps)
  | readNotices h => exact .frame (.ite (fun _ => .refl s) fun _ => trivial)
  | ackOldest h =>
    refine .frame (.ite (fun _ => ?_) fun _ => trivial)
    split
    · trivial
    · next x rest e => exact s.withNotices_keeps (Notices.bounded_of_sublist (e ▸ List.sublist_cons_self x rest) le_rfl)
  | ackMatch h k x =>
    refine .frame (.ite (fun _ => ?_) fun _ => trivial)
    split
    · trivial
    · split
      · trivial
      · exact s.withNotices_keeps (Notices.bounded_of_sublist List.filter_sublist le_rfl)
  | ackAll h =>
    exact .frame (.ite (fun _ => s.withNotices_keeps (Notices.bounded_of_sublist (List.nil_sublist _) (Nat.zero_le _)))
      fun _ => trivial)
  | setNoticeMask h m => exact .frame (.require fun _ => s.withNotices_keeps id)
  | postCue h d =>
    refine .frame (.guarded fun g => .require fun _ => .requireSome fun d _ => ?_)
    split
    · trivial
    · next posted => exact State.post_keeps posted
  | placeCue h x d =>
    refine .frame (.guarded fun g => .require fun _ => .requireSome fun k _ => .requireSome fun d _ => ?_)
    exact Keeps.trans (s.freeSlot_keeps g k) (State.writeCue_keeps _ _ (s.freeSlot_frees g k) _ _ _)
  | modifyCue h x m d =>
    refine .frame (.guarded fun g => ?_)
    split
    · trivial
    · next named =>
      exact .guardWith fun _ => .guardWith fun _ => .require fun _ => .requireSome fun d _ =>
        s.replaceCue_keeps g (State.resolve_live named) rfl
  | retireCue h x m =>
    refine .frame (.guarded fun g => ?_)
    split
    · trivial
    · exact .guardWith fun _ => .require fun _ => .requireSome fun m _ => s.retire_keeps g m _
  | retireOwner h o m =>
    exact .frame (.require fun _ => .requireSome fun m _ => Keeps.foldl _ (fun s k => s.retire_keeps none m k) _ s)
  | refreshCue h x l =>
    refine .frame ?_
    split
    · trivial
    · next named =>
      exact .guardWith fun _ => .guardWith fun _ => .require fun _ =>
        s.putCue_keeps (State.resolve_live named) (by rw [Cue.refreshed_phase])
  | readCue h x =>
    refine .frame ?_
    split
    · trivial
    · exact .require fun _ => .refl s
  | setPalette h e r g b m =>
    exact .frame (.require fun _ => .requireSome fun e _ => .requireSome fun a _ =>
      .ite (fun _ => s.setEntry_keeps _ _) fun _ => s.setEntry_keeps _ _)
  | clearPalette h e => exact .frame (.require fun _ => .requireSome fun e _ => s.setEntry_keeps _ _)
  | setSignals h m v => exact .frame (.ite (fun _ => s.changeSignals_keeps _ _) fun _ => trivial)
  | mapZone h z ns =>
    refine .frame (.require fun _ => .requireSome fun z _ => .require fun size => .requireSome fun l read =>
      .require fun once => .guardWith fun held => ?_)
    split
    · trivial
    · next free =>
      exact s.mapZone_keeps (State.mayList_of_tests (of_decide_eq_true size) read (of_decide_eq_true once) free)
        (by simpa [-Fin.getElem_fin] using held)
  | setZoneTrim h z t =>
    exact .frame (.require fun _ => .requireSome fun z _ =>
      s.modifyZone_keeps z rfl (fun _ => clampMax_le _ _) fun _ => id)
  | holdZone h zs => exact .frame (.require fun _ => s.holdZones_keeps zs)
  | releaseZone h zs => exact .frame (.require fun _ => s.releaseZones_keeps zs)
  | readZone h z w =>
    exact .frame (.require fun _ => .requireSome fun z _ => .requireSome fun c _ =>
      .ite (fun _ => s.setWatch_keeps _) fun _ => .refl s)
  | dropWatch h x g =>
    refine .frame (.require fun _ => ?_)
    split
    · trivial
    · exact s.freeWatch_keeps _
  | setFramePeriod h p => exact .frame (.ite (fun _ => s.setPeriod_keeps _) fun _ => trivial)
  | setLux h l => exact .frame (.ite (fun _ => s.setCond_keeps_of fun k => k.with_lux l) fun _ => trivial)
  | setMaster h l => exact .frame (.ite (fun _ => s.setCond_keeps_of fun k => k.with_master _) fun _ => trivial)
  | setCurve h c ps =>
    refine .frame (.require fun counts => .require fun rises => s.setCond_keeps_of fun k => ?_)
    obtain ⟨-, lo, hi, count⟩ := by simpa using counts
    exact k.with_curve (by omega) (by omega) rises
  | setSlew h v => exact .frame (.require fun _ => s.setCond_keeps_of fun k => k.with_slew _)
  | setBin h n b => exact .frame (.require fun _ => .requireSome fun n _ => s.setCond_keeps_of fun k => k.with_bin n b)
  | setThermal h k l =>
    exact .frame (.require fun _ => .require fun below => s.setCond_keeps_of fun c =>
      c.with_thermal (of_decide_eq_true below))
  | configureChain h c r =>
    refine .frame (.require fun _ => .requireSome fun i _ => .requireSome fun e _ => .requireSome fun p _ =>
      .requireSome fun j _ => .guardWith fun _ => .require fun able => ?_)
    refine s.setChain_keeps_of (fun ok => Chain.configured_ok ok fun on none' => ?_) (fun b => Chain.configured_budget b _ _ _ _)
      fun _ off => Chain.configured_off off _ _ _ _
    simp [-Fin.getElem_fin, on, none'] at able
  | startChain h c =>
    refine .frame (.require fun _ => .requireSome fun i _ => .guardWith fun lit => .guardWith fun _ => .require fun some' => ?_)
    refine Keeps.trans (s.enable_keeps fun _ => by simpa [-Fin.getElem_fin] using some') (State.startChain_keeps _ _ ?_)
    have : (s.enable i true).power = s.power := (s.enable_only _ _).field .power
    rw [this, show s.power.state = .lit by simpa using lit]
    rfl
  | stopChain h c =>
    refine .frame (.require fun _ => .requireSome fun i _ => .guardWith fun _ => ?_)
    exact Keeps.trans (s.enable_keeps fun no => by cases no) (State.stopChain_keeps _ _)
  | restartChain h c =>
    refine .frame (.require fun _ => .requireSome fun i _ => .guardWith fun lit => .require fun some' => ?_)
    refine Keeps.trans (Keeps.trans (s.enable_keeps fun _ => by simpa [-Fin.getElem_fin] using some')
      (State.stopChain_keeps _ _)) (State.startChain_keeps _ _ ?_)
    have : ((s.enable i true).stopChain i).power = s.power :=
      ((State.stopChain_only _ _).field .power).trans ((s.enable_only _ _).field .power)
    rw [this, show s.power.state = .lit by simpa using lit]
    rfl
  | rejoinNode h c p =>
    refine .frame (.require fun _ => .requireSome fun i _ => .requireSome fun k _ => .guardWith fun may => ?_)
    refine s.setChain_keeps (Chain.rejoin_goes ?_)
    simp only [Bool.or_eq_false_iff, bne_eq_false_iff_eq] at may
    exact may.2
  | readChain h c p => exact .frame (.require fun _ => .requireSome fun i _ => .requireSome fun k _ => .refl s)
  | loadTemplate h t d =>
    exact .frame (.require fun _ => .requireSome fun t _ => .requireSome fun d _ => s.setTemplates_keeps _)
  | clearTemplate h t => exact .frame (.require fun _ => .requireSome fun t _ => s.setTemplates_keeps _)
  | loadSteps h k f xs =>
    exact .frame (.require fun _ => .requireSome fun k _ => .guardWith fun still => .require fun _ =>
      .requireSome fun xs _ => s.setSlot_keeps still (SeqSlot.load_state still _ _))
  | finishSequence h k c r =>
    refine .frame (.require fun _ => .requireSome fun k _ => .guardWith fun still => .guardWith fun _ => ?_)
    split
    · trivial
    · exact s.setSlot_keeps still rfl
  | clearSequence h k =>
    exact .frame (.require fun _ => .requireSome fun k _ => .guardWith fun still => s.setSlot_keeps still rfl)
  | startSequence h k =>
    refine .frame (.require fun _ => .requireSome fun k _ => .guardWith fun _ => ?_)
    split
    · trivial
    · next started => exact State.startSlot_keeps started
  | abortSequence h k =>
    refine .frame (.require fun _ => .requireSome fun k _ => ?_)
    split
    · exact .guardWith fun _ => s.abortRunner_keeps _ _
    · trivial
  | readSequence h k f => exact .frame (.require fun _ => .requireSome fun k _ => .refl s)
  | goDormant h =>
    refine .frame (.ite (fun _ => ?_) fun _ => trivial)
    split
    · trivial
    · trivial
    · trivial
    · next state => exact s.enterDormant_keeps state
    · next state => exact s.enterDimming_keeps state _
    · next state => exact s.redirect_keeps state _
  | goStandby h =>
    refine .frame (.ite (fun _ => ?_) fun _ => trivial)
    split
    · exact .refl s
    · exact .refl s
    · next state => exact s.intend_keeps state fun no => by cases no
    · next state => exact s.abandonPowering_keeps state
    · next state => exact s.enterDimming_keeps state _
    · next state => exact s.redirect_keeps state _
  | goLit h =>
    refine .frame (.ite (fun _ => ?_) fun _ => trivial)
    split
    · exact .refl s
    · exact .refl s
    · exact .refl s
    · next state => exact s.intend_keeps state (p := s.power.pendingWake) fun _ => rfl
    · next state => exact s.enterPowering_keeps state _
    · next state => exact s.reverseDimming_keeps state
  | setPowerTimes h m a b c => exact .frame (.require fun _ => s.refade_keeps _ _ _)
  | setDarkInterval h x =>
    exact .frame (.require fun _ => s.setInterval_keeps _)
  | armWelcome h x =>
    exact .frame (.require fun _ => .requireSome fun a _ =>
      s.setPower_keeps_of (p := { s.power with welcomeArm := a }) ⟨rfl, rfl, rfl, rfl, rfl, rfl, rfl, rfl⟩ .inl)
  | _ => exact .next (.refl s)

/-! ## A frame, the events and the resets -/

theorem execCommandFrame_keeps (bytes p) (s : State) : Result.Keeps s (execCommandFrame bytes p s) := by
  have away : ∀ n x t, Result.Keeps s (.next (s.turnAway n x t)) := fun n x t => .next (s.turnAway_keeps n x t)
  unfold execCommandFrame
  split
  · exact .next (s.unheard_keeps _)
  split
  · next dormant => exact .next (s.wakeByChipSelect_keeps dormant _)
  unfold State.takeBytes
  dsimp only
  split
  · exact away _ _ _
  split
  · exact away _ _ _
  split
  · exact away _ _ _
  unfold State.takeCommand
  split
  · exact away _ _ _
  split
  · exact away _ _ _
  split
  · exact away _ _ _
  · exact handOver_keeps _ s

theorem Result.Keeps.event {f : State → State} (h : ∀ s, Machine.Keeps s (f s)) (s : State) : Result.Keeps s (s.event f) :=
  .next (.ite (fun _ => .refl s) fun _ => h s)

theorem Result.Keeps.timed {f : State → State} (h : ∀ s, Machine.Keeps s (f s)) (s : State) :
    Result.Keeps s (s.timedEvent f) := .event (fun s => .ite (fun _ => h s) fun _ => .refl s) s

theorem State.csFall_keeps (s : State) : Keeps s
    (if s.power.state = .dormant then s.useFree.wakeByChipSelect (Config.clockedInDormant s.freeCounter) else s) :=
  .ite (fun dormant => s.useFree_keeps.trans (State.wakeByChipSelect_keeps s.useFree dormant _)) fun _ => .refl s

/-- Whether a command is a low RESET_N or a device reset, which start the invariants anew. -/
def Instr.resets : Instr → Bool
  | .resetNLow | .deviceReset => true
  | _ => false

/-- Every command but the resets keeps every invariant. -/
theorem exec_keeps (i : Instr) (h : Instr.resets i = false) (s : State) : Result.Keeps s (exec i s) := by
  have hand := handOver_keeps i s
  cases i with
  | commandFrame bytes p => exact execCommandFrame_keeps bytes p s
  | csNFallInDormant => exact .event (fun s => s.csFall_keeps) s
  | wakeRisingEdge => exact .event (fun s => s.wakeEdge_keeps) s
  | resetNLow => cases h
  | deviceReset => cases h
  | timeBaseMillisecond => exact .event (fun s => s.nextMillisecond_keeps) s
  | fadeInCompletion k => exact .timed (fun s => s.fadeInCompletion_keeps k) s
  | lifetimeExpiry k => exact .timed (fun s => s.lifetimeExpiry_keeps k) s
  | fadeOutCompletion k => exact .timed (fun s => s.fadeOutCompletion_keeps k) s
  | waitExpiry r => exact .timed (fun s => s.waitExpiry_keeps r) s
  | waitSignalTimeout r => exact .timed (fun s => s.waitSignalTimeout_keeps r) s
  | frameTimerExpiry => exact .event (fun s => s.frameExpiry_keeps) s
  | frameCompletion => exact .event (fun s => s.completeFrame_keeps) s
  | wakeDelayExpiry => exact .event (fun s => s.wakeDelayExpiry_keeps) s
  | supplySettleExpiry => exact .event (fun s => s.settleExpiry_keeps) s
  | endOfDimming => exact .event (fun s => s.dimmingEnd_keeps) s
  | darkIntervalExpiry => exact .event (fun s => s.darkExpiry_keeps) s
  | restoreTimerExpiry i => exact .event (fun s => s.updateChain_keeps (Chain.restoreExpired_goes _)) s
  | restoreAttempt i => exact .event (fun s => s.updateChain_keeps (Chain.attempt_goes _)) s
  | dutyFrameSend i => exact .event (fun s => s.updateChain_keeps (Chain.dutySend_goes _)) s
  | countReturned i f => exact .event (fun s => s.countReturned_keeps i f) s
  | countLost i => exact .event (fun s => s.countLost_keeps i) s
  | identReturned i f => exact .event (fun s => s.identReturned_keeps i f) s
  | identLost i => exact .event (fun s => s.identLost_keeps i) s
  | dutyReturned i e f => exact .event (fun s => s.dutyReturned_keeps i e f) s
  | dutyLost i e => exact .event (fun s => s.dutyLost_keeps i e) s
  | probeReturned i e f => exact .event (fun s => s.probeReturned_keeps i e f) s
  | probeLost i e => exact .event (fun s => s.probeLost_keeps i e) s
  | _ => exact hand

/-! ## The values after device reset (O12) -/

theorem noticeInv_reset : NoticeInv State.reset := by decide

theorem cueInv_reset : CueInv State.reset := by decide

theorem watchInv_reset : WatchInv State.reset := by decide

theorem zoneInv_reset : ZoneInv State.reset := by
  have empty : ∀ z : Fin 16, State.reset.zones[z] = Zone.reset := by decide
  have none' : ∀ z : Fin 16, State.reset.composer.latest[z] = none := by decide
  refine ⟨fun z => ?_, fun y z _ n hn => ?_⟩
  · rw [empty z, none' z]
    exact ⟨List.nodup_nil, Nat.zero_le _, Nat.le_refl _, rfl, fun n hn => absurd hn List.not_mem_nil,
      fun c hc => (by cases hc), fun f hf => (by cases hf)⟩
  · rw [empty y] at hn
    exact absurd hn List.not_mem_nil

theorem levelInv_reset : LevelInv State.reset := by
  have budgets : ∀ i : Fin 4, State.reset.chains[i].budget ≤ 3000 := by decide
  refine ⟨?_, ?_, ?_, ?_, ?_, ?_, ?_, ?_, ?_, ?_, ?_, ?_, ?_, ?_, budgets, fun f hf => (by cases hf)⟩ <;> decide

theorem runnerInv_reset : RunnerInv State.reset := by decide

theorem powerInv_reset : PowerInv State.reset := by
  have off : ∀ i : Fin 4, State.reset.chains[i].mode = .off := by decide
  exact ⟨rfl, rfl, rfl, rfl, rfl, fun d => (by cases d), by decide, fun _ => off, fun _ => rfl, fun p => (by cases p)⟩

theorem Chain.reset_ok : Chain.reset.Ok where
  sized := by unfold Chain.sized; decide
  run e := by cases e <;> decide
  brk := rfl
  nodes k := by
    have : Chain.reset.nodes[k] = Node.cleared := by simp [Chain.reset]
    rw [this]
    exact ⟨by decide, by simp [Node.cleared, Chain.reset]⟩
  fresh no := by cases no
  mode := rfl

theorem chainInv_reset : ChainInv State.reset := by
  have reset : ∀ i : Fin 4, State.reset.chains[i] = Chain.reset := by simp [State.reset]
  refine ⟨fun i => ?_, fun f hf => (by cases hf)⟩
  rw [reset i]
  exact (Chain.ok_iff _).2 Chain.reset_ok

/-! ## The step -/

/-- A step takes the front of the queue (log 3). -/
theorem step_cases {s t : State} (h : step s = .next t) :
    t = s ∨ ∃ c rest, s.pending = c :: rest ∧ exec c (s.setPending rest) = .next t := by
  unfold step at h
  split at h
  · injection h with e
    exact .inl e.symm
  · next c rest e => exact .inr ⟨c, rest, e, h⟩

end Sys2Proof.Machine

/-! PROOFS. What every command does to the queue and while RESET_N is low, the values after device reset, and the invariants that
every step keeps. -/

namespace Sys2Proof.Machine

open Sys2Proof

/-! ## RESET_N is low (R189) -/

theorem State.takeFrame_low {s : State} (low : s.resetLow = true) (cls w ok n h) (block : State → Verdict) :
    s.takeFrame cls w ok n h block = s.unheard (h.frameBytes n) := by
  unfold State.takeFrame
  dsimp only
  rw [if_pos low]

/-- Every frame of a command is a frame at the port, and a command without a header does nothing there. -/
theorem handOver_frame (i : Instr) (s : State) : handOver i s = .next s ∨
    ∃ cls w ok n h block, handOver i s = .next (s.takeFrame cls w ok n h block) := by
  cases i <;> first | exact .inl rfl | exact .inr ⟨_, _, _, _, _, _, rfl⟩

theorem handOver_low (i : Instr) {s : State} (low : s.resetLow = true) :
    handOver i s = .next s ∨ ∃ n, handOver i s = .next (s.unheard n) := by
  rcases handOver_frame i s with e | ⟨cls, w, ok, n, h, block, e⟩
  · exact .inl e
  · exact .inr ⟨_, e.trans (congrArg _ (State.takeFrame_low low _ _ _ _ _ _))⟩

theorem State.event_low {s : State} (low : s.resetLow = true) (f) : s.event f = .next s := by
  unfold State.event
  rw [if_pos low]

theorem execCommandFrame_unheard (bytes : List Byte) {p : Period} {s : State} (h : p = .resetRose ∨ s.resetLow = true) :
    execCommandFrame bytes p s = .next (s.unheard bytes.length) := by
  unfold execCommandFrame
  rw [if_pos]
  rcases h with rfl | low
  · simp
  · simp [low]

/-- What is not a command frame, not a reset and not handed over to a block is an event. -/
theorem exec_cases (i : Instr) (s : State) : (∃ bytes p, i = .commandFrame bytes p) ∨ Instr.resets i = true ∨
    exec i s = handOver i s ∨ ∃ f, exec i s = s.event f := by
  cases i with
  | commandFrame bytes p => exact .inl ⟨bytes, p, rfl⟩
  | resetNLow => exact .inr (.inl rfl)
  | deviceReset => exact .inr (.inl rfl)
  | restoreTimerExpiry i => exact .inr (.inr (.inr ⟨fun s => s.updateChain i Chain.restoreExpired, rfl⟩))
  | restoreAttempt i => exact .inr (.inr (.inr ⟨fun s => s.updateChain i Chain.attempt, rfl⟩))
  | dutyFrameSend i => exact .inr (.inr (.inr ⟨fun s => s.updateChain i Chain.dutySend, rfl⟩))
  | countReturned i f => exact .inr (.inr (.inr ⟨fun s => s.countReturned i f, rfl⟩))
  | countLost i => exact .inr (.inr (.inr ⟨fun s => s.countLost i, rfl⟩))
  | identReturned i f => exact .inr (.inr (.inr ⟨fun s => s.identReturned i f, rfl⟩))
  | identLost i => exact .inr (.inr (.inr ⟨fun s => s.identLost i, rfl⟩))
  | dutyReturned i e f => exact .inr (.inr (.inr ⟨fun s => s.dutyReturned i e f, rfl⟩))
  | dutyLost i e => exact .inr (.inr (.inr ⟨fun s => s.dutyLost i e, rfl⟩))
  | probeReturned i e f => exact .inr (.inr (.inr ⟨fun s => s.probeReturned i e f, rfl⟩))
  | probeLost i e => exact .inr (.inr (.inr ⟨fun s => s.probeLost i e, rfl⟩))
  | _ => first | exact .inr (.inr (.inl rfl)) | exact .inr (.inr (.inr ⟨_, rfl⟩))

/-- While RESET_N is low, nothing but the zero bytes of a period (log 28). -/
theorem exec_low (i : Instr) {s : State} (low : s.resetLow = true) (h : Instr.resets i = false) :
    exec i s = .next s ∨ ∃ n, exec i s = .next (s.unheard n) := by
  rcases exec_cases i s with ⟨bytes, p, rfl⟩ | resets | e | ⟨f, e⟩
  · exact .inr ⟨_, execCommandFrame_unheard bytes (.inr low)⟩
  · rw [h] at resets
    cases resets
  · rw [e]
    exact handOver_low i low
  · exact .inl (e.trans (State.event_low low f))

theorem Instr.resets_iff (i : Instr) : Instr.resets i = true ↔ i = .resetNLow ∨ i = .deviceReset := by
  cases i <;> simp [Instr.resets]

theorem Shift.bytes_unheard (n : Nat) : ({ frame := none, clocked := n } : Shift).bytes = List.replicate n 0 := by
  simp [Shift.bytes]

/-- Settles O11, by the cases of a command that arrives while RESET_N is low. -/
theorem deviceResetHoldsAndRestores : Obligations.DeviceResetHoldsAndRestores := by
  refine ⟨fun s => ?_, fun s => ?_, fun c s low notLow notReset => ?_, fun bytes p s h => ?_⟩
  · refine ⟨_, rfl, rfl, rfl, rfl, rfl, ?_⟩
    exact (((OnlyChanges.refl [.resetLow, .noticeLow, .supplyEn, .sdo] s).then (State.setResetLow_only _ _)).then
      (State.setNoticeLow_only _ _)).then (State.setSupplyEn_only _ _) |>.then (State.unheard_only _ _)
  · refine ⟨_, rfl, ?_, rfl, rfl⟩
    exact ((OnlyChanges.refl [.pending, .freeCounter] State.reset).then (State.setPending_only _ _)).then
      (State.setFreeCounter_only _ _)
  · have resets : Instr.resets c = false := by
      rw [← Bool.not_eq_true, Instr.resets_iff]
      exact fun h => h.elim notLow notReset
    rcases exec_low c low resets with e | ⟨n, e⟩
    · exact ⟨s, e, .inl rfl, .refl _ _⟩
    · exact ⟨_, e, .inr rfl, s.unheard_only n⟩
  · exact ⟨_, execCommandFrame_unheard bytes h, rfl, Shift.bytes_unheard _, s.unheard_only _⟩

/-! ## The queue -/

/-- Settles O1, by the definition of the step. -/
theorem stepTakesFrontCommand : Obligations.StepTakesFrontCommand := by
  refine ⟨fun c rest s h => ?_, fun s h => ?_⟩ <;> unfold step <;> rw [h]

/-- An event changes nothing but what the commands change, and the queue is none of it. -/
theorem exec_pending (i : Instr) (s : State) : ∃ t, exec i s = .next t ∧ t.pending = s.pending := by
  have queue : ∀ {r : Result}, (∃ t, r = .next t ∧ OnlyChanges effectFields s t) → ∃ t, r = .next t ∧ t.pending = s.pending :=
    fun ⟨t, e, only⟩ => ⟨t, e, only.field .pending⟩
  have event : ∀ {l : List Field} {f : State → State}, (∀ s, OnlyChanges l s (f s)) → (∀ x ∈ l, x ∈ effectFields) →
      ∃ t, s.event f = .next t ∧ t.pending = s.pending := fun {l f} only sub =>
    queue ((s.event_only f (only s)).imp fun t h => ⟨h.1, h.2.mono sub⟩)
  have timed : ∀ {l : List Field} {f : State → State}, (∀ s, OnlyChanges l s (f s)) → (∀ x ∈ l, x ∈ effectFields) →
      ∃ t, s.timedEvent f = .next t ∧ t.pending = s.pending := fun {l f} only sub =>
    queue ((s.timedEvent_only f (only s)).imp fun t h => ⟨h.1, h.2.mono sub⟩)
  have hand := queue (handOver_only i s)
  cases i with
  | commandFrame bytes p => exact queue (execCommandFrame_only bytes p s)
  | csNFallInDormant =>
    exact event (l := [.power, .reply, .sdo, .freeCounter]) (f := fun s =>
        if s.power.state = .dormant then s.useFree.wakeByChipSelect (Config.clockedInDormant s.freeCounter) else s)
      (fun s => .ite (((OnlyChanges.refl _ s).then s.useFree_only).then (State.wakeByChipSelect_only _ _)) (.refl _ _)) (by decide)
  | wakeRisingEdge => exact event (fun s => s.wakeEdge_only) (by decide)
  | resetNLow => exact ⟨_, rfl, rfl⟩
  | deviceReset => exact ⟨_, rfl, rfl⟩
  | timeBaseMillisecond => exact event (fun s => s.nextMillisecond_only) (by decide)
  | fadeInCompletion k => exact timed (f := fun s => s.fadeInCompletion k) (fun s => s.fadeInCompletion_only k) (by decide)
  | lifetimeExpiry k => exact timed (f := fun s => s.lifetimeExpiry k) (fun s => s.lifetimeExpiry_only k) (by decide)
  | fadeOutCompletion k => exact timed (f := fun s => s.fadeOutCompletion k) (fun s => s.fadeOutCompletion_only k) (by decide)
  | waitExpiry r => exact timed (f := fun s => s.waitExpiry r) (fun s => s.waitExpiry_only r) (by decide)
  | waitSignalTimeout r => exact timed (f := fun s => s.waitSignalTimeout r) (fun s => s.waitSignalTimeout_only r) (by decide)
  | frameTimerExpiry => exact event (fun s => s.frameExpiry_only) (by decide)
  | frameCompletion => exact event (fun s => s.completeFrame_only) (by decide)
  | wakeDelayExpiry => exact event (fun s => s.wakeDelayExpiry_only) (by decide)
  | supplySettleExpiry => exact event (fun s => s.settleExpiry_only) (by decide)
  | endOfDimming => exact event (fun s => s.dimmingEnd_only) (by decide)
  | darkIntervalExpiry => exact event (fun s => s.darkExpiry_only) (by decide)
  | restoreTimerExpiry i => exact event (fun s => s.updateChain_only i Chain.restoreExpired) (by decide)
  | restoreAttempt i => exact event (fun s => s.updateChain_only i Chain.attempt) (by decide)
  | dutyFrameSend i => exact event (fun s => s.updateChain_only i Chain.dutySend) (by decide)
  | countReturned i f => exact event (fun s => s.countReturned_only i f) (by decide)
  | countLost i => exact event (fun s => s.countLost_only i) (by decide)
  | identReturned i f => exact event (fun s => s.identReturned_only i f) (by decide)
  | identLost i => exact event (fun s => s.identLost_only i) (by decide)
  | dutyReturned i e f => exact event (fun s => s.dutyReturned_only i e f) (by decide)
  | dutyLost i e => exact event (fun s => s.dutyLost_only i e) (by decide)
  | probeReturned i e f => exact event (fun s => s.probeReturned_only i e f) (by decide)
  | probeLost i e => exact event (fun s => s.probeLost_only i e) (by decide)
  | _ => exact hand

/-- Settles O2, by what each command may change. -/
theorem everyCommandAnswers : Obligations.EveryCommandAnswers := exec_pending

/-! ## The values after device reset -/

/-- Settles O12: the values by evaluation, the invariants by their lemmas. -/
theorem resetValuesMeetTheInvariants : Obligations.ResetValuesMeetTheInvariants := by
  refine ⟨?_, noticeInv_reset, cueInv_reset, watchInv_reset, zoneInv_reset, levelInv_reset, runnerInv_reset,
    powerInv_reset, chainInv_reset⟩
  have nodes : ∀ (i : Fin 4) (k : Fin 60), State.reset.chains[i].nodes[k] = Node.cleared := fun i k => by
    simp [State.reset, Chain.reset]
  refine ⟨?_, rfl, rfl, ?_, rfl, ?_, ?_, rfl, rfl, rfl, rfl, ?_, rfl, rfl, rfl, rfl, rfl, rfl, rfl, ?_, ?_, ?_, nodes,
    ?_, ?_, ?_, rfl, rfl, rfl, rfl, rfl, rfl, rfl, rfl, rfl, rfl, rfl, rfl, rfl⟩ <;> decide

/-! ## The invariants that every step keeps -/

/-- An invariant of a part that is not held in reset is kept by every step, where it does not read what is shifted out. -/
theorem step_invariant_awake {P : State → Prop} (keeps : ∀ {s t : State}, Keeps s t → s.resetLow = false → P s → P t)
    (queue : ∀ s q, P s → P (s.setPending q)) (shift : ∀ s n, P s → P (s.unheard n))
    (low : ∀ s, P s → P (((s.setResetLow true).setNoticeLow false).setSupplyEn false))
    (reset : ∀ q n, P ((State.reset.setPending q).setFreeCounter n)) {s t : State} (inv : P s) (h : step s = .next t) :
    P t := by
  rcases step_cases h with rfl | ⟨c, rest, -, h⟩
  · exact inv
  · have inv' := queue s rest inv
    by_cases resets : Instr.resets c = true
    · rcases (Instr.resets_iff c).1 resets with rfl | rfl
      · obtain rfl : _ = t := by injection h
        exact shift _ _ (low _ inv')
      · obtain rfl : _ = t := by injection h
        exact reset _ _
    · have resets := Bool.eq_false_of_not_eq_true resets
      cases awake : (s.setPending rest).resetLow with
      | false => exact keeps (exec_keeps c resets _ t h) awake inv'
      | true =>
        rcases exec_low c awake resets with e | ⟨n, e⟩ <;> rw [h] at e <;> injection e with e <;> rw [e]
        · exact inv'
        · exact shift _ _ inv'

/-- Settles O13, by the invariants that every operation keeps. -/
theorem stepKeepsNoticeList : Obligations.StepKeepsNoticeList := fun _ _ =>
  step_invariant_awake Keeps.notice (fun _ _ => id) (fun _ _ => id)
    (fun _ ⟨size, keys, counts, missed, _⟩ => ⟨size, keys, counts, missed, rfl⟩) fun _ _ => noticeInv_reset

/-- Settles O14, by the invariants that every operation keeps. -/
theorem stepKeepsCueLists : Obligations.StepKeepsCueLists := fun _ _ =>
  step_invariant_awake (fun k _ => k.cue) (fun _ _ => id) (fun _ _ => id) (fun _ => id) fun _ _ => cueInv_reset

/-- Settles O15, by the invariants that every operation keeps. -/
theorem stepKeepsWatchTable : Obligations.StepKeepsWatchTable := fun _ _ =>
  step_invariant_awake (fun k _ => k.watch) (fun _ _ => id) (fun _ _ => id) (fun _ => id) fun _ _ => watchInv_reset

/-- Settles O16, by the invariants that every operation keeps. -/
theorem stepKeepsZoneMap : Obligations.StepKeepsZoneMap := fun _ _ =>
  step_invariant_awake (fun k _ => k.zone) (fun _ _ => id) (fun _ _ => id) (fun _ => id) fun _ _ => zoneInv_reset

/-- Settles O17, by the invariants that every operation keeps. -/
theorem stepKeepsLevels : Obligations.StepKeepsLevels := fun _ _ =>
  step_invariant_awake (fun k _ => k.level) (fun _ _ => id) (fun _ _ => id) (fun _ => id) fun _ _ => levelInv_reset

/-- Settles O18, by the invariants that every operation keeps. -/
theorem stepKeepsRunners : Obligations.StepKeepsRunners := fun _ _ =>
  step_invariant_awake (fun k _ => k.runner) (fun _ _ => id) (fun _ _ => id) (fun _ => id) fun _ _ => runnerInv_reset

/-- Settles O19, by the invariants that every operation keeps. -/
theorem stepKeepsPowerState : Obligations.StepKeepsPowerState := fun _ _ =>
  step_invariant_awake Keeps.power (fun _ _ => id) (fun _ _ => id)
    (fun _ ⟨_, rest⟩ => ⟨rfl, rest⟩) fun _ _ => powerInv_reset

/-- Settles O20, by the invariants that every operation keeps. -/
theorem stepKeepsChainRecords : Obligations.StepKeepsChainRecords := fun _ _ =>
  step_invariant_awake (fun k _ => k.chain) (fun _ _ => id) (fun _ _ => id) (fun _ => id) fun _ _ => chainInv_reset

end Sys2Proof.Machine

/-! PROOFS. The port (chapter 10): what it refuses, how it tests a whole frame, and the commands that the port and the Notice
List own. -/

namespace Sys2Proof.Machine

open Sys2Proof

/-! ## A command at the port -/

/-- The class of a command (R187). -/
def classOf (i : Instr) : CommandClass := if isConfiguring i then .configuring else .open_

theorem classOf_configuring {i : Instr} (h : isConfiguring i = true) : classOf i = .configuring := if_pos h

theorem classOf_configuring_iff (i : Instr) : classOf i = .configuring ↔ isConfiguring i = true := by
  unfold classOf
  cases isConfiguring i <;> simp

/-- A command is a frame of its class, whose block refuses flags that may not stand with BAD_VALUE, but where it acts on a
cue. -/
def IsFrame (i : Instr) (h : Header) : Prop :=
  ∃ n block, (∀ s, exec i s = .next (s.takeFrame (classOf i) (isGo i) true n h block)) ∧
    (isCueCommand i = false → h.plain = false → ∀ s, ∃ p, block s = .refuse .badValue p)

theorem IsFrame.of_test {i : Instr} {h : Header} {n : Nat} {block : State → Verdict}
    (frame : ∀ s, exec i s = .next (s.takeFrame (classOf i) (isGo i) true n h fun s => require h.plain (block s))) :
    IsFrame i h :=
  ⟨n, _, frame, fun _ plain s => ⟨.empty, by rw [plain]; rfl⟩⟩

theorem IsFrame.of_cue {i : Instr} {h : Header} (cue : isCueCommand i = true) {n : Nat} {block : State → Verdict}
    (frame : ∀ s, exec i s = .next (s.takeFrame (classOf i) (isGo i) true n h block)) : IsFrame i h :=
  ⟨n, block, frame, fun none => by rw [cue] at none; cases none⟩

/-- A block that answers with a payload of its own where the flags may not stand (log 23). -/
theorem IsFrame.of_split {i : Instr} {h : Header} {n : Nat} {block : State → Verdict} {p : State → Payload}
    (frame : ∀ s, exec i s = .next (s.takeFrame (classOf i) (isGo i) true n h fun s =>
      if h.plain then block s else .refuse .badValue (p s))) : IsFrame i h :=
  ⟨n, _, frame, fun _ plain s => ⟨p s, by rw [plain]; rfl⟩⟩

/-- A block that tests the flags together with its values. -/
theorem IsFrame.of_tests {i : Instr} {h : Header} {n : Nat} {test : Bool} {block : State → Verdict}
    (frame : ∀ s, exec i s = .next (s.takeFrame (classOf i) (isGo i) true n h fun s => require (h.plain && test) (block s))) :
    IsFrame i h :=
  ⟨n, _, frame, fun _ plain s => ⟨.empty, by rw [plain]; rfl⟩⟩

theorem isFrame_of_header {i : Instr} {h : Header} (header : headerOfCommand i = some h) (well : i.wellFormed = true) :
    IsFrame i h := by
  cases i with
  | mapZone g z ns =>
    cases header
    have ok : mapZoneLengthOk ns = true := (Bool.and_eq_true_iff.1 well).1
    exact .of_test fun s => congrArg (fun ok => Host.Outcome.next (s.takeFrame _ _ ok _ _ _)) ok
  | setCurve g c ps =>
    cases header
    have ok : setCurveLengthOk ps = true := (Bool.and_eq_true_iff.1 well).1
    exact .of_tests fun s => congrArg (fun ok => Host.Outcome.next (s.takeFrame _ _ ok _ _ _)) ok
  | loadSteps g k f xs =>
    cases header
    have ok : loadStepsLengthOk xs = true := well
    exact .of_tests fun s => congrArg (fun ok => Host.Outcome.next (s.takeFrame _ _ ok _ _ _)) ok
  | setNoticeMask | retireOwner | configureChain | finishSequence | readSequence | holdZone | releaseZone | setPowerTimes =>
    cases header
    exact .of_tests fun s => rfl
  | readNotices | ackOldest | ackMatch | ackAll | setSignals | setFramePeriod | setLux | setMaster | goDormant | goStandby
  | goLit =>
    cases header
    exact .of_split fun s => rfl
  | postCue | placeCue | modifyCue | retireCue | refreshCue | readCue =>
    cases header
    exact .of_cue rfl fun s => rfl
  | nop | identify | softReset | setPalette | clearPalette | setZoneTrim | readZone | dropWatch | setSlew | setBin | setThermal
  | startChain | stopChain | restartChain | rejoinNode | readChain | loadTemplate | clearTemplate | clearSequence
  | startSequence | abortSequence | setDarkInterval | armWelcome =>
    cases header
    exact .of_test fun s => rfl
  | _ => cases header

theorem plain_iff (h : Header) : h.plain = true ↔ h.reserved = 0 ∧ h.guard = none := by
  simp [Header.plain]

/-! ## What the port refuses (R185, R187, R188) -/

section
variable {h : Header} {s : State} (cls : CommandClass) (w : Bool) (n : Nat) (block : State → Verdict)

theorem State.takeFrame_waking (awake : s.resetLow = false) (waking : s.power.state = .waking) :
    s.takeFrame cls false true n h block = s.turnAway (h.frameBytes n) .notReady h.tag := by
  simp [State.takeFrame, awake, waking]

theorem State.takeFrame_badClient (awake : s.resetLow = false) (receives : s.power.state.receives = true)
    (client : h.client = 7) : s.takeFrame cls w true n h block = s.turnAway (h.frameBytes n) .badClient h.tag := by
  simp [State.takeFrame, awake, PowerState.receives_not_dormant receives, PowerState.receives_not_waking receives, client]

theorem State.takeFrame_denied (awake : s.resetLow = false) (receives : s.power.state.receives = true)
    (client : h.client ≠ 7) (other : h.client ≠ 0) :
    s.takeFrame .configuring w true n h block = s.turnAway (h.frameBytes n) .denied h.tag := by
  simp only [State.takeFrame, awake, PowerState.receives_not_dormant receives, PowerState.receives_not_waking receives, client,
    other, ne_eq, not_false_eq_true, and_self, false_and, Bool.false_eq_true, Bool.true_eq_false, if_true, if_false]

/-- The block is asked. -/
theorem State.takeFrame_asks (awake : s.resetLow = false)
    (takes : s.power.state.receives = true ∨ s.power.state = .waking ∧ w = true) (client : h.client ≠ 7)
    (may : cls = .configuring → h.client = 0) :
    s.takeFrame cls w true n h block = (block s).stored s (h.frameBytes n) h.tag := by
  have notDormant : s.power.state ≠ .dormant := takes.elim PowerState.receives_not_dormant fun ⟨e, _⟩ => by simp [e]
  have notTurned : ¬(s.power.state = .waking ∧ w = false) :=
    takes.elim (fun r e => PowerState.receives_not_waking r e.1) fun ⟨_, e⟩ e' => by simp [e] at e'
  have notDenied : ¬(cls = .configuring ∧ h.client ≠ 0) := fun ⟨c, other⟩ => other (may c)
  simp only [State.takeFrame, awake, notDormant, notTurned, client, notDenied, Bool.false_eq_true, if_false,
    Bool.true_eq_false]

end

/-- What is turned away at the port changes nothing but the reply. -/
theorem turnedAway {r : Result} {s : State} {n x} {h : Header} (e : r = .next (s.turnAway n x h.tag)) :
    ∃ t, r = .next t ∧ Answers s t h x .empty ∧ OnlyChanges [.reply, .sdo] s t :=
  ⟨_, e, s.turnAway_answers n x h, s.turnAway_only n x h.tag⟩

/-- Settles O4, by the tests of the port on a command's frame. -/
theorem portRefusals : Obligations.PortRefusals := by
  intro c h s header well awake
  obtain ⟨n, block, frame, plain⟩ := isFrame_of_header header well
  refine ⟨fun waking notGo => ?_, fun receives client => ?_, fun receives client other configuring => ?_,
    fun takes client may notCue flags => ?_, plain_iff h⟩
  · exact turnedAway (by rw [frame, notGo, State.takeFrame_waking _ _ _ awake waking])
  · exact turnedAway (by rw [frame, State.takeFrame_badClient _ _ _ _ awake receives client])
  · exact turnedAway (by rw [frame, classOf_configuring configuring, State.takeFrame_denied _ _ _ awake receives client other])
  · have notPlain : h.plain = false := by
      rw [← Bool.not_eq_true, plain_iff]
      exact fun ⟨zero, unguarded⟩ => flags.elim (· zero) (· unguarded)
    obtain ⟨p, refused⟩ := plain notCue notPlain s
    refine ⟨_, p, (frame s).trans (congrArg _ ?_), Verdict.stored_refuse s (h.frameBytes n) h .badValue p⟩
    rw [State.takeFrame_asks _ _ _ _ awake takes client fun e => may ((classOf_configuring_iff c).1 e), refused]

/-! ## A refusal (R186) -/

theorem Status.refusal_done (altered : Bool) : (doneStatus altered).refusal = false := by cases altered <;> rfl

/-- A frame that is refused, at the port or by its block, changes nothing but the reply. -/
theorem State.takeFrame_refused {s : State} (awake : s.resetLow = false) (on : s.power.state ≠ .dormant) {cls w ok n h}
    {block : State → Verdict} (refused : (s.takeFrame cls w ok n h block).reply.status.refusal = true) :
    OnlyChanges [.reply, .sdo] s (s.takeFrame cls w ok n h block) := by
  rcases s.takeFrame_cases cls w ok n h block with ⟨low, -⟩ | ⟨-, off, -⟩ | ⟨-, -, x, -, e⟩ | ⟨-, -, e⟩
  · rw [awake] at low
    cases low
  · exact absurd off on
  · rw [e]
    exact s.turnAway_only _ _ _
  · rw [e] at refused ⊢
    cases v : block s with
    | refuse x p => exact (Verdict.stored_refuse s _ h x p).2
    | accept a p s' =>
      rw [v] at refused
      exact absurd ((Status.refusal_done a).symm.trans refused) Bool.false_ne_true

theorem handOver_refused {i : Instr} {s t : State} (awake : s.resetLow = false) (on : s.power.state ≠ .dormant)
    (e : handOver i s = .next t) (refused : t.reply.status.refusal = true) : OnlyChanges [.reply, .sdo] s t := by
  rcases handOver_frame i s with f | ⟨cls, w, ok, n, h, block, f⟩ <;> rw [f] at e <;> injection e with e <;> subst e
  · exact .refl _ _
  · exact State.takeFrame_refused awake on refused

/-- A command with a header is handed to its block. -/
theorem exec_of_header {i : Instr} (header : headerOfCommand i ≠ none) (s : State) : exec i s = handOver i s := by
  cases i <;> first | rfl | exact absurd rfl header

theorem State.takeCommand_cases (s : State) (n code flags tag payload) :
    (∃ x g, s.takeCommand n code flags tag payload = .next (s.turnAway n x g)) ∨
      ∃ i, s.takeCommand n code flags tag payload = handOver i s := by
  unfold State.takeCommand
  split
  · exact .inl ⟨_, _, rfl⟩
  · split
    · exact .inl ⟨_, _, rfl⟩
    · split
      · exact .inl ⟨_, _, rfl⟩
      · exact .inr ⟨_, rfl⟩

/-- A frame at the port is turned away or its command is handed over. -/
theorem State.takeBytes_cases (s : State) (bytes p) : (∃ n x g, s.takeBytes bytes p = .next (s.turnAway n x g)) ∨
    ∃ i, s.takeBytes bytes p = handOver i s := by
  unfold State.takeBytes
  dsimp only
  split
  · exact .inl ⟨_, _, _, rfl⟩
  · split
    · exact .inl ⟨_, _, _, rfl⟩
    · split
      · exact .inl ⟨_, _, _, rfl⟩
      · exact (s.takeCommand_cases _ _ _ _ _).imp_left fun h => ⟨_, h⟩

/-- Settles O3: a refusal of the port or of a block stores a reply alone. -/
theorem refusalLeavesEveryBlock : Obligations.RefusalLeavesEveryBlock := by
  rintro c s t (header | ⟨bytes, p, rfl⟩) awake on e refused
  · exact handOver_refused awake on ((exec_of_header header s).symm.trans e) refused
  · replace e : execCommandFrame bytes p s = .next t := e
    unfold execCommandFrame at e
    split_ifs at e with rose
    · injection e with e
      exact e ▸ (s.unheard_only _).mono
    · rcases s.takeBytes_cases bytes p with ⟨n, x, g, away⟩ | ⟨i, hand⟩
      · rw [away] at e
        injection e with e
        exact e ▸ s.turnAway_only n x g
      · exact handOver_refused awake on (hand.symm.trans e) refused

/-! ## A whole frame (R185, R197) -/

theorem crc8_append (bytes : List Byte) (b : Byte) : crc8 (bytes ++ [b]) = crcShift^[8] (crc8 bytes ^^^ b) := by
  simp only [crc8, List.foldl_append, List.foldl_cons, List.foldl_nil]
  rfl

theorem exec_commandFrame_received {p : Period} {s : State} (period : p ≠ .resetRose) (awake : s.resetLow = false)
    (receives : s.power.state.receives = true) (bytes : List Byte) :
    exec (.commandFrame bytes p) s = s.takeBytes bytes p := by
  change execCommandFrame bytes p s = _
  have notRose : (s.resetLow || p == .resetRose) = false := by simp [awake, period]
  rw [execCommandFrame, notRose, if_neg Bool.false_ne_true, if_neg (PowerState.receives_not_dormant receives)]

theorem frameLengthOk_iff (bytes : List Byte) (p : Period) : frameLengthOk bytes p = true ↔
    p ≠ .partialByte ∧ 5 ≤ bytes.length ∧ (byteAt bytes 3).toNat ≤ 248 ∧ bytes.length = (byteAt bytes 3).toNat + 5 := by
  simp [frameLengthOk, and_assoc]

theorem frameCheckOk_iff (bytes : List Byte) :
    frameCheckOk bytes = true ↔ crc8 bytes.dropLast = byteAt bytes (bytes.length - 1) := by
  simp [frameCheckOk]

/-- A frame whose bytes pass is taken by its code. -/
theorem State.takeBytes_sound {s : State} (receives : s.power.state.receives = true) {bytes p}
    (length : frameLengthOk bytes p = true) (check : crc8 bytes.dropLast = byteAt bytes (bytes.length - 1)) :
    s.takeBytes bytes p =
      s.takeCommand bytes.length (byteAt bytes 0) (byteAt bytes 1) (byteAt bytes 2) ((bytes.drop 4).dropLast) := by
  simp only [State.takeBytes, length, (frameCheckOk_iff bytes).2 check, PowerState.receives_not_waking receives,
    false_and, Bool.true_eq_false, if_false]

theorem payload_length {bytes : List Byte} {p : Period} (length : frameLengthOk bytes p = true) :
    ((bytes.drop 4).dropLast).length = (byteAt bytes 3).toNat := by
  obtain ⟨-, -, -, size⟩ := (frameLengthOk_iff bytes p).1 length
  rw [List.length_dropLast, List.length_drop]
  omega

/-- The guard bytes and what is left of a payload, by their lengths. -/
theorem guardAt_cases (flags : Byte) (payload : List Byte) :
    (guardAt flags payload = none ∧ payload.length < if flags.getLsbD 3 then 3 else 0) ∨
      ∃ g rest, guardAt flags payload = some (g, rest) ∧
        payload.length = rest.length + if flags.getLsbD 3 then 3 else 0 := by
  unfold guardAt guardedOf
  split
  · match payload with
    | a :: b :: c :: rest => exact .inr ⟨_, _, rfl, rfl⟩
    | [] | [_] | [_, _] => exact .inl ⟨rfl, by simp⟩
  · exact .inr ⟨_, _, rfl, rfl⟩

/-- A payload of a length that the row does not give spells nothing (R197). -/
theorem commandOf_none {row : CommandRow} {flags tag : Byte} {payload : List Byte}
    (length : payload.length < (if flags.getLsbD 3 then 3 else 0) ∨
      row.accepts (payload.length - if flags.getLsbD 3 then 3 else 0) = false) :
    commandOf row flags tag payload = none := by
  unfold commandOf
  rcases guardAt_cases flags payload with ⟨e, -⟩ | ⟨g, rest, e, size⟩ <;> simp only [e]
  rw [size, Nat.add_sub_cancel] at length
  rcases length with short | refused
  · omega
  · rw [refused, if_neg Bool.false_ne_true]

/-- Every row spells a command with the frame's header. -/
theorem commandRow_header {code : Byte} {row : CommandRow} (h : commandRow code = some row) (g : Header) (p : List Byte) :
    headerOfCommand (row.command g p) ≠ none := by
  unfold commandRow at h
  split at h <;> cases h <;> exact Option.some_ne_none g

theorem commandOf_header {code : Byte} {row : CommandRow} (h : commandRow code = some row) {flags tag payload i}
    (e : commandOf row flags tag payload = some i) : headerOfCommand i ≠ none := by
  unfold commandOf at e
  split at e
  · cases e
  · split at e
    · injection e with e
      exact e ▸ commandRow_header h _ _
    · cases e

/-- What the port turns away stores its status with the tag, and SDO has shifted out the reply before it. -/
theorem turnedAway_shifted {r : Result} {s : State} {n x} {g : Byte} (e : r = .next (s.turnAway n x g)) :
    ∃ t, r = .next t ∧ t.sdo = { frame := some s.reply, clocked := n } ∧
      t.reply = { status := x, tag := g, payload := .empty } ∧ OnlyChanges [.reply, .sdo] s t :=
  ⟨_, e, rfl, rfl, s.turnAway_only n x g⟩

/-- Settles O5, by the tests of R185 in their order. -/
theorem commandFrameIsTestedAndHandedOver : Obligations.CommandFrameIsTestedAndHandedOver := by
  refine ⟨⟨rfl, crc8_append⟩, fun bytes p s period awake receives => ?_⟩
  have taken := exec_commandFrame_received period awake receives bytes
  refine ⟨⟨fun wrong => turnedAway_shifted ?length, fun length check => turnedAway_shifted ?check,
    fun length check unknown => turnedAway_shifted ?unknown⟩, fun row length check code => ⟨fun client =>
    turnedAway_shifted ?client, fun client wrong => turnedAway_shifted ?payload⟩,
    fun row i length check code client spells => ?handed⟩
  case length =>
    have bad : frameLengthOk bytes p = false := by
      rw [← Bool.not_eq_true, frameLengthOk_iff]
      rintro ⟨whole, least, most, size⟩
      rcases wrong with e | e | e | e
      · exact whole e
      · omega
      · omega
      · exact e size
    rw [taken, State.takeBytes]
    exact if_pos bad
  case check =>
    have bad : frameCheckOk bytes = false := by
      rw [← Bool.not_eq_true, frameCheckOk_iff]
      exact check
    simp only [taken, State.takeBytes, length, bad, Bool.true_eq_false, if_true, if_false]
  all_goals rw [taken, State.takeBytes_sound receives length check, State.takeCommand]
  case unknown => simp only [unknown]
  all_goals simp only [code]
  case client => rw [if_pos client]
  all_goals rw [if_neg client]
  case payload =>
    rw [← payload_length length] at wrong
    rw [commandOf_none wrong]
  case handed => rw [spells, exec_of_header (commandOf_header code spells)]

end Sys2Proof.Machine

/-! PROOFS. What a block answers, and the commands of the Notice List and SOFT_RESET (chapter 10). -/

namespace Sys2Proof.Machine

open Sys2Proof

/-! ## The answer of a block (R186) -/

/-- What the block refuses. -/
theorem refused {i : Instr} {s : State} {n} {h : Header} {v : Verdict} {x p} (e : exec i s = .next (v.stored s n h.tag))
    (refuses : v = .refuse x p) : Refuses h x p i s :=
  ⟨_, e, refuses ▸ Verdict.stored_refuse s n h x p⟩

/-- What the block carries out, in the state `s'`. -/
def CarriesOut (h : Header) (altered : Bool) (p : Payload) (i : Instr) (s s' : State) : Prop :=
  ∃ t, exec i s = .next t ∧ Answers s t h (doneStatus altered) p ∧ OnlyChanges [.reply, .sdo] s' t

theorem carriedOut {i : Instr} {s s' : State} {n} {h : Header} {v : Verdict} {a p}
    (e : exec i s = .next (v.stored s n h.tag)) (accepts : v = .accept a p s') : CarriesOut h a p i s s' :=
  ⟨_, e, accepts ▸ Verdict.stored_accept s s' n h a p⟩

section
variable {h : Header} {s : State} {i : Instr} {n : Nat} {block : State → Verdict}

theorem open_refused (r : Reaches .open_ h s) (frame : exec i s = s.takeOpen n h block) {x p}
    (v : block s = .refuse x p) : Refuses h x p i s := refused (frame.trans (State.takeOpen_reaches r n block)) v

theorem open_done (r : Reaches .open_ h s) (frame : exec i s = s.takeOpen n h block) {a p s'}
    (v : block s = .accept a p s') : CarriesOut h a p i s s' :=
  carriedOut (frame.trans (State.takeOpen_reaches r n block)) v

theorem configuring_refused (r : Reaches .configuring h s) (frame : exec i s = s.takeConfiguring n h block) {x p}
    (v : block s = .refuse x p) : Refuses h x p i s := refused (frame.trans (State.takeConfiguring_reaches r n block)) v

theorem configuring_done (r : Reaches .configuring h s) (frame : exec i s = s.takeConfiguring n h block) {a p s'}
    (v : block s = .accept a p s') : CarriesOut h a p i s s' :=
  carriedOut (frame.trans (State.takeConfiguring_reaches r n block)) v

end

/-- What a command may change, from what its effect may change. -/
theorem OnlyChanges.answered {l m : List Field} {s s' t : State} (effect : OnlyChanges l s s')
    (stored : OnlyChanges [.reply, .sdo] s' t) (sub : ∀ f ∈ l ++ [.reply, .sdo], f ∈ m := by decide) : OnlyChanges m s t :=
  (effect.mono fun f h => sub f (List.mem_append_left _ h)).then stored fun f h => sub f (List.mem_append_right _ h)

theorem require_true {v : Verdict} {b : Bool} (h : b = true) : require b v = v := by rw [h]; rfl

theorem require_false {v : Verdict} {b : Bool} (h : b = false) : require b v = .refuse .badValue .empty := by rw [h]; rfl

theorem requireSome_some {α : Type} {x : Option α} {a : α} (h : x = some a) (k : α → Verdict) : requireSome x k = k a := by
  rw [h]; rfl

theorem requireSome_none {α : Type} {x : Option α} (h : x = none) (k : α → Verdict) :
    requireSome x k = .refuse .badValue .empty := by rw [h]; rfl

theorem guardWith_false {b : Bool} (h : b = false) (x : Status) (v : Verdict) : guardWith b x v = v := by rw [h]; rfl

theorem guardWith_true {b : Bool} (h : b = true) (x : Status) (v : Verdict) : guardWith b x v = .refuse x .empty := by
  rw [h]; rfl

/-! ## The line (R196) -/

theorem State.withNotices_line (s : State) (n : Notices) : (s.withNotices n).noticeLow = true ↔ lineLow n :=
  Notices.drivesLine_iff n

/-! ## SET_NOTICE_MASK (R196) -/

theorem reserved_mask (mask : BitVec 16) :
    (mask.extractLsb' 10 6 == 0) = true ↔ ∀ n : Fin 16, 10 ≤ n.val → mask.getLsbD n = false := by
  rw [beq_iff_eq]
  constructor
  · intro zero n high
    have bit := congrArg (fun x : BitVec 6 => x.getLsbD (n.val - 10)) zero
    simpa [BitVec.getLsbD_extractLsb', show n.val - 10 < 6 by omega, show 10 + (n.val - 10) = n.val by omega] using bit
  · intro clear
    ext j hj
    have bit := clear ⟨10 + j, by omega⟩ (Nat.le_add_right _ _)
    simpa [BitVec.getLsbD_eq_getElem (show 10 + j < 16 by omega)] using bit

/-- Settles O9, by the reserved bits of the mask. -/
theorem noticeMaskIsReplaced : Obligations.NoticeMaskIsReplaced := by
  refine ⟨rfl, fun h mask s r plain => ⟨fun clear => ?_, fun ⟨n, high, set⟩ => ?_⟩⟩
  · obtain ⟨t, e, answers, stored⟩ := configuring_done (i := .setNoticeMask h mask) r rfl
      (require_true (by rw [plain, (reserved_mask mask).2 clear]; rfl))
    refine ⟨t, e, answers, ?_, ?_, fun n => ?_, ?_, OnlyChanges.answered (s.withNotices_only _) stored⟩ <;>
      rw [stored.field .notices]
    · rfl
    · rfl
    · exact (BitVec.getLsbD_extractLsb' ..).trans (by simp)
    · rw [stored.field .noticeLow]
      exact s.withNotices_line _
  · refine configuring_refused r rfl (require_false ?_)
    rw [plain, Bool.true_and, ← Bool.not_eq_true, reserved_mask]
    intro clear
    rw [clear n high] at set
    cases set

/-! ## Acknowledgements (R195) -/

theorem noticeKindOf_eq_some {kind : Byte} {k : NoticeKind} : noticeKindOf kind = some k ↔ kind.toNat = k.code.val := by
  unfold noticeKindOf
  split
  case h_11 => cases k <;> simp_all [NoticeKind.code]
  all_goals next e => rw [e]; cases k <;> simp [NoticeKind.code]

theorem index?_eq_some {n x : Nat} {k : Fin n} : index? n x = some k ↔ x = k.val := by
  unfold index?
  split
  · next h => simp [Fin.ext_iff]
  · next h => simp; omega

theorem ofNat_fin_eq {n : Nat} (k : Fin n) (fits : n ≤ 65536) (w : BitVec 16) : BitVec.ofNat 16 k.val = w ↔ w.toNat = k.val := by
  have := k.isLt
  constructor
  · rintro rfl
    exact Nat.mod_eq_of_lt (by omega)
  · intro e
    rw [← e]
    exact BitVec.eq_of_toNat_eq (by simp)

theorem append_bytes (w : BitVec 16) : highByte w ++ lowByte w = w := by
  unfold highByte lowByte
  rw [BitVec.extractLsb'_append_extractLsb'_eq_extractLsb' (by omega)]
  simp

theorem toNat_append_eq {m n : Nat} (x : BitVec m) (y : BitVec n) : (x ++ y).toNat = x.toNat * 2 ^ n + y.toNat := by
  rw [BitVec.toNat_append, ← Nat.shiftLeft_add_eq_or_of_lt y.isLt, Nat.shiftLeft_eq]

theorem highByte_toNat (w : BitVec 16) : (highByte w).toNat = w.toNat / 256 := by
  unfold highByte
  simp only [BitVec.extractLsb'_toNat, Nat.shiftRight_eq_div_pow]
  omega

theorem lowByte_toNat (w : BitVec 16) : (lowByte w).toNat = w.toNat % 256 := by
  unfold lowByte
  simp only [BitVec.extractLsb'_toNat, Nat.shiftRight_zero]

theorem nodeRefOf_eq_some {r : RawNodeRef} {n : NodeRef} : nodeRefOf r = some n ↔
    r.chain.toNat = n.chain.val ∧ r.position.toNat = n.position ∧ 1 ≤ n.position ∧ n.position ≤ 60 := by
  unfold nodeRefOf
  rw [Option.bind_eq_some_iff]
  constructor
  · rintro ⟨c, e, named⟩
    split at named
    · next ok =>
      cases named
      exact ⟨index?_eq_some.1 e, rfl, ok⟩
    · cases named
  · rintro ⟨chain, position, ok⟩
    refine ⟨n.chain, index?_eq_some.2 chain, ?_⟩
    rw [position, if_pos ok]

theorem index?_map_eq_some {n : Nat} {α : Type} {f : Fin n → α} {w x} :
    (index? n w).map f = some x ↔ ∃ k, w = k.val ∧ f k = x := by
  simp only [Option.map_eq_some_iff, index?_eq_some]

/-- Which bytes name a subject that the kind can have (R195, 11.4). -/
theorem subjectOf_eq_some (k : NoticeKind) (w : BitVec 16) (x : Subject) :
    subjectOf k w = some x ↔ MayConcern k x ∧ x.bits = w := by
  cases k with
  | restarted =>
    change (if w = 0 then some Subject.none else none) = some x ↔ x = .none ∧ x.bits = w
    constructor
    · intro e
      split at e <;> cases e
      next zero => exact ⟨rfl, zero.symm⟩
    · rintro ⟨rfl, rfl⟩
      rfl
  | powerState =>
    change (if w = 0 then some Subject.standby else if w = 1 then some .lit else none) = some x ↔
      (x = .standby ∨ x = .lit) ∧ x.bits = w
    constructor
    · intro e
      split at e
      · next zero => cases e; exact ⟨.inl rfl, zero.symm⟩
      · split at e <;> cases e
        next one => exact ⟨.inr rfl, one.symm⟩
    · rintro ⟨rfl | rfl, rfl⟩ <;> rfl
  | nodeFault =>
    unfold subjectOf MayConcern
    rw [Option.map_eq_some_iff]
    constructor
    · rintro ⟨n, e, rfl⟩
      obtain ⟨chain, position, least, most⟩ := nodeRefOf_eq_some.1 e
      refine ⟨⟨n, rfl, least, most⟩, ?_⟩
      rw [Subject.bits, ← chain, ← position, BitVec.ofNat_toNat, BitVec.ofNat_toNat]
      exact append_bytes w
    · rintro ⟨⟨n, rfl, least, most⟩, rfl⟩
      have bits := toNat_append_eq (BitVec.ofNat 8 n.chain.val) (BitVec.ofNat 8 n.position)
      simp only [BitVec.toNat_ofNat, Nat.mod_eq_of_lt (show n.chain.val < 2 ^ 8 by omega),
        Nat.mod_eq_of_lt (show n.position < 2 ^ 8 by omega)] at bits
      refine ⟨n, nodeRefOf_eq_some.2 ⟨?_, ?_, least, most⟩, rfl⟩
      · rw [highByte_toNat, Subject.bits, bits]
        omega
      · rw [lowByte_toNat, Subject.bits, bits]
        omega
  | stepTimeout | sequenceEnd =>
    unfold subjectOf MayConcern
    rw [index?_map_eq_some]
    constructor
    · rintro ⟨k, e, rfl⟩
      exact ⟨⟨k, rfl⟩, (ofNat_fin_eq k (by decide) w).2 e⟩
    · rintro ⟨⟨k, rfl⟩, e⟩
      exact ⟨k, (ofNat_fin_eq k (by decide) w).1 e, rfl⟩
  | chainState | countMismatch | budgetLimit | thermalLimit =>
    unfold subjectOf MayConcern
    rw [index?_map_eq_some]
    constructor
    · rintro ⟨k, e, rfl⟩
      exact ⟨⟨k, rfl⟩, (ofNat_fin_eq k (by decide) w).2 e⟩
    · rintro ⟨⟨k, rfl⟩, e⟩
      exact ⟨k, (ofNat_fin_eq k (by decide) w).1 e, rfl⟩
  | cueEvicted =>
    change (if w.toNat < 8 then some (Subject.client (w.extractLsb' 0 3)) else none) = some x ↔
      (∃ c, x = .client c) ∧ x.bits = w
    constructor
    · intro e
      split at e <;> cases e
      next small =>
      refine ⟨⟨_, rfl⟩, BitVec.eq_of_toNat_eq ?_⟩
      simp only [Subject.bits, BitVec.toNat_setWidth, BitVec.extractLsb'_toNat, Nat.shiftRight_zero]
      omega
    · rintro ⟨⟨c, rfl⟩, rfl⟩
      have size : (Subject.client c).bits.toNat = c.toNat := by
        simp only [Subject.bits, BitVec.toNat_setWidth]
        omega
      rw [if_pos (by omega)]
      refine congrArg _ (congrArg _ (BitVec.eq_of_toNat_eq ?_))
      rw [BitVec.extractLsb'_toNat, size, Nat.shiftRight_zero]
      omega

/-! ### The commands -/

theorem matchKey_none {kind : Byte} {subject : BitVec 16}
    (h : noticeKindOf kind = none ∨ ∃ k, noticeKindOf kind = some k ∧ subjectOf k subject = none) :
    matchKey kind subject = none := by
  rcases h with none' | ⟨k, e, none'⟩ <;> simp [matchKey, *]

theorem matchKey_some {kind : Byte} {subject : BitVec 16} {k x} (hk : noticeKindOf kind = some k)
    (hx : subjectOf k subject = some x) : matchKey kind subject = some (k, x) := by simp [matchKey, hk, hx]

/-- The list without its one notice of a key. -/
theorem filter_key {before after : List Notice} {n : Notice} (nodup : ((before ++ n :: after).map Notice.key).Nodup)
    {k x} (key : n.key = (k, x)) : (before ++ n :: after).filter (fun y => !y.isOf k x) = before ++ after := by
  have other : ∀ y ∈ before ++ after, (!y.isOf k x) = true := fun y hy => by
    rw [Bool.not_eq_true', ← Bool.not_eq_true, Notice.isOf_iff]
    intro same
    have perm : (before ++ n :: after).Perm (n :: (before ++ after)) := List.perm_middle
    have nodup' := (perm.map Notice.key).nodup_iff.1 nodup
    rw [List.map_cons, List.nodup_cons] at nodup'
    exact nodup'.1 (List.mem_map.2 ⟨y, hy, same.trans key.symm⟩)
  have self : (!n.isOf k x) = false := by rw [(n.isOf_iff k x).2 key]; rfl
  rw [List.filter_append, List.filter_cons, self, if_neg Bool.false_ne_true, ← List.filter_append]
  exact List.filter_eq_self.2 other

theorem find_key {before after : List Notice} {n : Notice} (nodup : ((before ++ n :: after).map Notice.key).Nodup)
    {k x} (key : n.key = (k, x)) : (before ++ n :: after).find? (fun y => y.isOf k x) = some n := by
  rw [List.find?_eq_some_iff_append]
  refine ⟨(n.isOf_iff k x).2 key, before, after, rfl, fun y hy => ?_⟩
  rw [Bool.not_eq_true', ← Bool.not_eq_true, Notice.isOf_iff]
  intro same
  rw [List.map_append, List.nodup_append] at nodup
  exact nodup.2.2 _ (List.mem_map.2 ⟨y, hy, rfl⟩) _ (List.mem_map.2 ⟨n, List.mem_cons_self, rfl⟩) (same.trans key.symm)

/-- What a replacement of the list leaves, once answered. -/
theorem CarriesOut.withNotices {h : Header} {a p i} {s : State} {n : Notices}
    (done : CarriesOut h a p i s (s.withNotices n)) : ∃ t, exec i s = .next t ∧ Answers s t h (doneStatus a) p ∧
      t.notices = n ∧ (t.noticeLow = true ↔ lineLow t.notices) ∧ OnlyChanges [.notices, .noticeLow, .reply, .sdo] s t := by
  obtain ⟨t, e, answers, stored⟩ := done
  have list : t.notices = n := stored.field .notices
  refine ⟨t, e, answers, list, ?_, OnlyChanges.answered (s.withNotices_only _) stored⟩
  rw [list, stored.field .noticeLow]
  exact s.withNotices_line n

/-- Settles O8, by the codes of kinds and subjects and the cases of the list. -/
theorem acknowledgementsRemoveNotices : Obligations.AcknowledgementsRemoveNotices := by
  refine ⟨fun _ _ => noticeKindOf_eq_some, subjectOf_eq_some, fun h s r plain => ⟨fun x rest list => ?_, fun list => ?_,
    fun kind subject none' => ?_, fun kind subject k x hk hx => ⟨fun n before after list key nodup => ?_, fun absent => ?_⟩, ?_⟩⟩
  · exact (open_done (i := .ackOldest h) r rfl (by simp only [plain, if_true, list]; rfl)).withNotices
  · exact open_refused (i := .ackOldest h) r rfl (by simp only [plain, if_true, list, Notices.ackReply, List.length_nil])
  · exact open_refused (i := .ackMatch h kind subject) r rfl
      (by simp only [plain, if_true, matchKey_none none', Notices.ackReply])
  · rw [list] at nodup
    exact (open_done (i := .ackMatch h kind subject) r rfl (by
      simp only [plain, if_true, matchKey_some hk hx, list, find_key nodup key, filter_key nodup key,
        Notices.ackReply]
      rfl)).withNotices
  · have missing : s.notices.list.find? (fun y => y.isOf k x) = none := List.find?_eq_none.2 fun y hy => by
      rw [Notice.isOf_iff]
      exact fun key => absent (List.mem_map.2 ⟨y, hy, key⟩)
    exact open_refused (i := .ackMatch h kind subject) r rfl
      (by simp only [plain, if_true, matchKey_some hk hx, missing, Notices.ackReply])
  · obtain ⟨t, e, answers, list, line, only⟩ :=
      (open_done (i := .ackAll h) r rfl (by simp only [plain, if_true]; rfl)).withNotices
    refine ⟨t, e, answers, list, ?_, only⟩
    rw [← Bool.not_eq_true, line, list]
    simp [lineLow]

/-! ## SOFT_RESET (R190) -/

theorem State.silence_runner (s : State) (r q : Fin 2) : (s.silence r).seq.runners[q] =
    if q = r ∧ s.seq.runners[r].state.active = true then { Runner.idle with index := s.seq.runners[r].index }
    else s.seq.runners[q] := by
  unfold State.silence
  split
  · next on => rw [State.idleRunner_runner]; simp only [on, and_true]
  · next off => exact (if_neg fun h => off h.2).symm

theorem State.silence_slot (s : State) (r : Fin 2) (k : Fin 6) : (s.silence r).seq.slots[k] =
    if s.seq.runners[r].state.active = true ∧ s.seq.runners[r].slot = some k then { s.seq.slots[k] with state := .ready }
    else s.seq.slots[k] := by
  unfold State.silence
  split
  · next on => rw [State.idleRunner_slot]; simp only [on, true_and]
  · next off => exact (if_neg fun h => off h.1).symm

theorem State.silence_templates (s : State) (r : Fin 2) : (s.silence r).seq.templates = s.seq.templates := by
  unfold State.silence State.idleRunner
  split
  · dsimp only
    split <;> rfl
  · rfl

/-- Both runners are silenced, the lower-numbered first. -/
def State.silenced (s : State) : State := (s.silence 0).silence 1

theorem State.silenced_runner (s : State) (r : Fin 2) : s.silenced.seq.runners[r] =
    if s.seq.runners[r].state.active = true then { Runner.idle with index := s.seq.runners[r].index }
    else s.seq.runners[r] := by
  unfold State.silenced
  rw [State.silence_runner, State.silence_runner, State.silence_runner]
  match r with
  | 0 => simp
  | 1 => simp

theorem State.silenced_slot (s : State) (k : Fin 6) : s.silenced.seq.slots[k] =
    if ∃ r : Fin 2, s.seq.runners[r].state.active = true ∧ s.seq.runners[r].slot = some k then
      { s.seq.slots[k] with state := .ready }
    else s.seq.slots[k] := by
  have other : (s.silence 0).seq.runners[(1 : Fin 2)] = s.seq.runners[(1 : Fin 2)] := by
    rw [State.silence_runner]
    simp
  unfold State.silenced
  rw [State.silence_slot, State.silence_slot, other]
  simp only [Fin.exists_fin_two]
  split <;> split <;> simp_all

theorem State.silenced_only (s : State) : OnlyChanges [.seq] s s.silenced := (s.silence_only 0).trans (State.silence_only _ 1)

/-- SOFT_RESET before it empties the list (R190, 1 to 3). -/
def State.quieted (s : State) : State :=
  ((((s.setCues s.cues.emptied).setWatches s.watches.emptied).clearHolds).silenced.applyStaged).reloadDark

theorem State.softReset_eq (s : State) :
    s.softReset = (s.quieted.setNotices s.quieted.notices.emptied).raise .restarted .none .soft := rfl

theorem State.quieted_only (s : State) : OnlyChanges [.cues, .watches, .zones, .palette, .seq, .power] s s.quieted :=
  (((((((OnlyChanges.refl _ s).then (s.setCues_only _)).then (State.setWatches_only _ _)).then (State.setZones_only _ _)).then
    (State.silenced_only _)).then (State.applyStaged_only _)).then (State.reloadDark_only _))

theorem State.quieted_seq (s : State) : s.quieted.seq = s.silenced.seq := by
  have same : ∀ (u v : State) (r : Fin 2), u.seq = v.seq → (u.silence r).seq = (v.silence r).seq := fun u v r e => by
    unfold State.silence State.idleRunner
    rw [e]
    split
    · dsimp only
      split <;> simp [State.setSlot, State.setRunner, e]
    · exact e
  exact same _ _ _ (same _ _ _ rfl)

/-- What SOFT_RESET leaves in the blocks it empties. -/
theorem State.quieted_tables (s : State) : s.quieted.cues = s.cues.emptied ∧ s.quieted.watches = s.watches.emptied ∧
    s.quieted.zones = (s.zones.map fun z => { z with hold := .clear }) ∧
    s.quieted.palette = s.palette.map PaletteEntry.apply ∧ s.quieted.power = s.power.reloadDark := by
  have seq := ((s.setCues s.cues.emptied).setWatches s.watches.emptied).clearHolds.silenced_only
  refine ⟨seq.field .cues, seq.field .watches, seq.field .zones, ?_, ?_⟩
  · exact congrArg (·.map PaletteEntry.apply) (seq.field .palette)
  · exact congrArg Power.reloadDark (seq.field .power)

theorem PaletteEntry.apply_eq_settled (e : PaletteEntry) : e.apply = e.settled := rfl

theorem Power.reloadDark_fields (p : Power) : p.reloadDark = { p with darkRemaining :=
    if p.state = .lit then (if p.darkInterval = 0 then none else some (1000 * p.darkInterval)) else p.darkRemaining } := by
  unfold Power.reloadDark
  split <;> rfl

theorem State.idle_of_silenced (s : State) (r : Fin 2) : s.silenced.seq.runners[r].state = .idle := by
  rw [State.silenced_runner]
  split
  · rfl
  · next off =>
    revert off
    cases s.seq.runners[r].state <;> simp [RunnerState.active]

/-- Settles O10, by what each of its operations leaves. -/
theorem softResetEmptiesTheTables : Obligations.SoftResetEmptiesTheTables := by
  intro h s r plain
  obtain ⟨t, e, answers, stored⟩ := configuring_done (i := .softReset h) r rfl (require_true plain)
  have only : OnlyChanges [.notices, .noticeLow, .reply, .sdo] s.quieted t :=
    OnlyChanges.answered (((OnlyChanges.refl [.notices, .noticeLow] _).then (State.setNotices_only _ _)).then
      (State.raise_only _ _ _ _)) stored
  obtain ⟨cues, watches, zones, palette, power⟩ := s.quieted_tables
  replace cues := (only.field .cues).trans cues
  replace watches := (only.field .watches).trans watches
  replace zones := (only.field .zones).trans zones
  replace palette := (only.field .palette).trans palette
  replace power := (only.field .power).trans power
  have seq : t.seq = s.silenced.seq := (only.field .seq).trans s.quieted_seq
  have notices : t.notices = { list := [{ kind := .restarted, subject := .none, detail := .soft, count := 1 }], missed := 0,
                               mask := s.notices.mask } := by
    have list : s.quieted.notices = s.notices := s.quieted_only.field .notices
    rw [stored.field .notices, State.softReset_eq, list]
    rfl
  have line : t.noticeLow = !s.notices.mask.getLsbD 0 := by
    have list : s.quieted.notices = s.notices := s.quieted_only.field .notices
    rw [stored.field .noticeLow, State.softReset_eq, list]
    change Notices.drivesLine { list := [{ kind := .restarted, subject := .none, detail := .soft, count := 1 }], missed := 0,
                                mask := s.notices.mask } = _
    simp [Notices.drivesLine, NoticeKind.code]
  refine ⟨t, e, answers, fun k => ?_, ?_, ?_, ?_, fun w => ?_, ?_, fun z => ?_, fun e => ?_, fun r => ?_, ?_, fun k => ?_,
    fun r k active slot => ?_, fun k other => ?_, ?_, notices, line,
    (s.quieted_only.mono).then only⟩
  · rw [cues]
    simp [CueTable.emptied]
  · rw [cues]; rfl
  · rw [cues]; rfl
  · rw [cues]; rfl
  · rw [watches]
    simp [WatchTable.emptied]
  · rw [watches]; rfl
  · rw [zones]
    simp
  · rw [palette]
    exact (Vector.getElem_map ..).trans (PaletteEntry.apply_eq_settled _)
  · rw [seq]
    exact s.idle_of_silenced r
  · rw [seq]
    exact (State.silence_templates _ _).trans (State.silence_templates _ _)
  · rw [seq, State.silenced_slot]
    split <;> exact ⟨rfl, rfl, rfl, rfl⟩
  · rw [seq, State.silenced_slot, if_pos ⟨r, active, slot⟩]
  · rw [seq, State.silenced_slot, if_neg fun ⟨r, active, slot⟩ => other r active slot]
  · rw [power, Power.reloadDark_fields]

/-! ## NOP, IDENTIFY, and the bytes of a reply (R184, R191) -/

theorem Shift.bytes_length (x : Shift) : x.bytes.length = x.clocked := by
  simp [Shift.bytes]

theorem Shift.bytes_silent {x : Shift} (h : x.frame = none) : x.bytes = List.replicate x.clocked 0 := by
  simp [Shift.bytes, h]

theorem Shift.bytes_at {x : Shift} {r : Reply} (h : x.frame = some r) {n : Nat} (hn : n < x.clocked) :
    x.bytes[n]? = some (if n < r.bytes.length then byteAt r.bytes n else 0) := by
  simp only [Shift.bytes, h, Option.map_some, Option.getD_some, List.getElem?_take, hn, if_true, List.getElem?_append,
    byteAt]
  split
  · next inside => rw [List.getElem?_eq_getElem inside, List.getD_eq_getElem _ _ inside]
  · rw [List.getElem?_replicate, if_pos (by omega)]

theorem Notice.bytes_length (n : Notice) : n.bytes.length = 6 := rfl

theorem flatMap_bytes_length (l : List Notice) : (l.flatMap Notice.bytes).length = 6 * l.length := by
  induction l with
  | nil => rfl
  | cons n l ih =>
    rw [List.flatMap_cons, List.length_append, ih, Notice.bytes_length, List.length_cons]
    omega

/-- A payload has at most 248 bytes (R184). -/
theorem Payload.bytes_length_le {p : Payload} (h : p.records.length ≤ 8) : p.bytes.length ≤ 248 := by
  unfold Payload.bytes
  split
  · exact Nat.zero_le _
  · exact (show 2 ≤ 248 by decide)
  · dsimp only
    rw [List.length_append, List.length_take, flatMap_bytes_length]
    omega

/-- A reply frame but its check. -/
def Reply.body (r : Reply) : List Byte :=
  BitVec.ofNat 8 r.status.code :: r.tag :: BitVec.ofNat 8 r.payload.bytes.length :: r.payload.bytes

theorem Reply.bytes_eq (r : Reply) : r.bytes = r.body ++ [crc8 r.body] := rfl

theorem Reply.bytes_length (r : Reply) : r.bytes.length = r.payload.bytes.length + 4 := by
  simp [Reply.bytes_eq, Reply.body]

theorem Reply.bytes_layout (r : Reply) (h : r.payload.records.length ≤ 8) : r.payload.bytes.length ≤ 248 ∧
    r.bytes.length = r.payload.bytes.length + 4 ∧ byteAt r.bytes 0 = BitVec.ofNat 8 r.status.code ∧
    byteAt r.bytes 1 = r.tag ∧ (byteAt r.bytes 2).toNat = r.payload.bytes.length ∧
    (r.bytes.drop 3).dropLast = r.payload.bytes ∧ byteAt r.bytes (r.bytes.length - 1) = crc8 r.bytes.dropLast := by
  have size := Payload.bytes_length_le h
  refine ⟨size, r.bytes_length, rfl, rfl, ?_, ?_, ?_⟩
  · exact Nat.mod_eq_of_lt (show r.payload.bytes.length < 2 ^ 8 by omega)
  · change (r.payload.bytes ++ [crc8 r.body]).dropLast = _
    exact List.dropLast_concat
  · rw [r.bytes_eq, List.dropLast_concat, byteAt, List.length_append, List.length_singleton, Nat.add_sub_cancel,
      List.getD_append_right _ _ _ _ (Nat.le_refl _), Nat.sub_self]
    rfl

theorem handle_bytes (k : Fin 48) (gen : BitVec 10) : ∃ x y : Byte,
    (Payload.handle { slot := k, gen := gen }).bytes = [x, y] ∧ x.toNat * 256 + y.toNat = k.val * 1024 + gen.toNat := by
  refine ⟨_, _, rfl, ?_⟩
  have bits : (Handle.bits { slot := k, gen := gen }).toNat = k.val * 1024 + gen.toNat := by
    refine (toNat_append_eq _ _).trans ?_
    rw [BitVec.toNat_ofNat, Nat.mod_eq_of_lt (show k.val < 2 ^ 6 by omega)]
    rfl
  rw [highByte_toNat, lowByte_toNat, bits]
  omega

theorem ofNat_toNat_small {n : Nat} (h : n < 65536) : (BitVec.ofNat 16 n).toNat = n := Nat.mod_eq_of_lt h

theorem split_bits {b : Break} (out : b.lastOut ≤ 60) (inn : b.firstIn ≤ 61) :
    (Detail.chain (.split b)).bits.toNat = 32768 + 256 * b.lastOut + b.firstIn := by
  change ((((1 : BitVec 1) ++ BitVec.ofNat 7 b.lastOut) ++ BitVec.ofNat 8 b.firstIn : BitVec 16)).toNat = _
  rw [toNat_append_eq, toNat_append_eq, BitVec.toNat_ofNat, BitVec.toNat_ofNat, Nat.mod_eq_of_lt (by omega),
    Nat.mod_eq_of_lt (by omega)]
  change (1 * 2 ^ 7 + b.lastOut) * 2 ^ 8 + b.firstIn = _
  omega

theorem node_bits {n : NodeRef} (h : n.position ≤ 60) : (Subject.node n).bits.toNat = 256 * n.chain.val + n.position := by
  change (BitVec.ofNat 8 n.chain.val ++ BitVec.ofNat 8 n.position : BitVec 16).toNat = _
  rw [toNat_append_eq, BitVec.toNat_ofNat, BitVec.toNat_ofNat, Nat.mod_eq_of_lt (by omega), Nat.mod_eq_of_lt (by omega)]
  omega

/-- Settles O6, by the layout of a reply frame and the codes of chapter 11. -/
theorem nopAndIdentifyReply : Obligations.NopAndIdentifyReply := by
  refine ⟨fun h s r plain => ⟨?_, ?_⟩, fun x => ⟨x.bytes_length, Shift.bytes_silent, fun r n hr hn => Shift.bytes_at hr hn⟩,
    Reply.bytes_layout, rfl, handle_bytes, fun n => ⟨_, _, _, _, rfl, append_bytes _, append_bytes _⟩,
    ⟨rfl, rfl, rfl, fun i => ofNat_toNat_small (by omega), fun k => ofNat_toNat_small (by omega), fun c => ?_,
      fun n hn => node_bits hn⟩,
    ⟨rfl, rfl, rfl, rfl, rfl, rfl, rfl, rfl, rfl, fun n hn => ofNat_toNat_small hn, fun b out inn => split_bits out inn⟩⟩
  · have e : exec (.nop h) s = .next ((Verdict.accept false .empty s).stored s (h.frameBytes 0) h.tag) :=
      (State.takeOpen_reaches r 0 _).trans (by simp only [require_true plain])
    refine ⟨_, e, ⟨rfl, rfl⟩, ?_, s.store_only _ _ _⟩
    have unguarded := ((plain_iff h).1 plain).2
    change h.frameBytes 0 = 5
    simp [Header.frameBytes, Header.guardBytes, unguarded]
  · exact open_done (i := .identify h) r rfl (require_true plain)
  · simp only [Subject.bits, BitVec.toNat_setWidth]
    omega

end Sys2Proof.Machine

/-! PROOFS. The lifecycle events of a cue (chapter 1), the Palette and the signals (chapter 2). -/

namespace Sys2Proof.Machine

open Sys2Proof

/-! ## Events -/

theorem exec_fadeInCompletion (k : Fin 48) (s : State) :
    exec (.fadeInCompletion k) s = s.timedEvent fun s => s.fadeInCompletion k := rfl

theorem exec_lifetimeExpiry (k : Fin 48) (s : State) :
    exec (.lifetimeExpiry k) s = s.timedEvent fun s => s.lifetimeExpiry k := rfl

theorem exec_fadeOutCompletion (k : Fin 48) (s : State) :
    exec (.fadeOutCompletion k) s = s.timedEvent fun s => s.fadeOutCompletion k := rfl

/-- Time runs in the states in which the time base does. -/
theorem PowerState.timeRuns_stopped {p : PowerState} (h : p = .dormant ∨ p = .waking) : p.timeRuns = false := by
  rcases h with rfl | rfl <;> rfl

section
variable {s : State} {k : Fin 48} {c : Cue} (live : s.cues.slots[k].cue = some c)
include live

theorem State.fadeInCompletion_due (due : c.fadeInDue = true) : s.fadeInCompletion k = s.putCue k { c with phase := .steady } := by
  simp only [State.fadeInCompletion, State.cueAt, live, due, if_true]

theorem State.lifetimeExpiry_due (due : c.lifetimeDue = true) :
    s.lifetimeExpiry k = s.beginFade none Cue.ownFade k := by
  simp only [State.lifetimeExpiry, State.cueAt, live, Option.any_some, due, if_true]

theorem State.fadeOutCompletion_due (due : c.fadeOutDue = true) : s.fadeOutCompletion k = s.freeSlot none k := by
  simp only [State.fadeOutCompletion, State.cueAt, live, Option.any_some, due, if_true]

/-- What a freeing reports to the Sequence Engine (R157). -/
theorem State.freeSlot_seq (g) : (s.freeSlot g k).seq = match c.tag with
    | none => s.seq
    | some x => { s.seq with runners := modifyAt s.seq.runners x.runner fun r => r.forget (s.handleAt k) } := by
  simp only [State.freeSlot, State.cueAt, live]
  cases c.tag with
  | none => exact State.zoneEvents_seq _ _ _
  | some x => simp [State.reportFreed]

end

theorem Runner.forget_labels (x : Runner) (h : Handle) (m : Fin 8) : (x.forget h).labels[m] ≠ some h := by
  simp only [Runner.forget, Fin.getElem_fin, Vector.getElem_map]
  split
  · exact nofun
  · next other => exact other

theorem Cue.lifetimeDue_of {c : Cue} (on : c.phase.isFadingOut = false) (zero : c.remaining = some 0) :
    c.lifetimeDue = true := by simp [Cue.lifetimeDue, on, zero]

/-- Settles O28, by the effect of each event on a cue of which it is due. -/
theorem cueLifecycleEvents : Obligations.CueLifecycleEvents := by
  refine ⟨fun k s stopped => ?_, fun k c s awake runs live => ⟨fun t0 phase due => ?_, fun on zero long => ?_,
    fun on zero short => ?_, fun t0 exit start phase due => ?_⟩⟩
  · have stopped := PowerState.timeRuns_stopped stopped
    rw [exec_fadeInCompletion, exec_lifetimeExpiry, exec_fadeOutCompletion]
    exact ⟨State.timedEvent_stopped stopped _, State.timedEvent_stopped stopped _, State.timedEvent_stopped stopped _⟩
  · have isDue : c.fadeInDue = true := by simp [Cue.fadeInDue, phase, due]
    rw [exec_fadeInCompletion, State.timedEvent_runs awake runs, State.fadeInCompletion_due live isDue]
    refine ⟨_, rfl, ?_⟩
    refine ⟨?_, fun j other => ?_, rfl, rfl, s.putCue_only _ _⟩
    · rw [State.putCue_slot, if_pos rfl]
    · rw [State.putCue_slot, if_neg other]
  · rw [exec_lifetimeExpiry, State.timedEvent_runs awake runs, State.lifetimeExpiry_due live (Cue.lifetimeDue_of on zero)]
    refine ⟨_, rfl, ?_⟩
    obtain ⟨cues, events, only⟩ := State.beginFade_some (g := none) (exit := Cue.ownFade) live on long
    refine ⟨?_, fun j other => ?_, ?_, ?_, events, only⟩ <;> rw [cues]
    · exact getElem_modifyAt_self _ _ _
    · exact getElem_modifyAt_ne _ _ other
  · rw [exec_lifetimeExpiry, State.timedEvent_runs awake runs, State.lifetimeExpiry_due live (Cue.lifetimeDue_of on zero)]
    refine ⟨_, rfl, ?_⟩
    refine ⟨?_, fun j other => ?_, s.beginFade_only _ _ _⟩ <;> rw [State.beginFade_zero live on short]
    · rw [if_pos rfl]
    · rw [if_neg other]
  · have isDue : c.fadeOutDue = true := by simp [Cue.fadeOutDue, phase, due]
    rw [exec_fadeOutCompletion, State.timedEvent_runs awake runs, State.fadeOutCompletion_due live isDue]
    refine ⟨_, rfl, ?_⟩
    obtain ⟨cues, events, -⟩ := State.freeSlot_some (g := none) live
    refine ⟨?_, fun j other => ?_, ?_, ?_, events, fun r l tag m => ?_, s.freeSlot_only _ _⟩
    · rw [cues]
      exact CueTable.remove_self _ _
    · rw [cues]
      exact CueTable.remove_other _ other
    · rw [cues]
      rfl
    · rw [cues]
      rfl
    · rw [State.freeSlot_seq live, tag]
      exact (congrArg (fun x : Runner => x.labels[m]) (getElem_modifyAt_self _ _ _)).trans_ne (Runner.forget_labels _ _ m)

/-! ## The Palette (R34, R35, R37) -/

theorem Sequencer.anyActive_eq (q : Sequencer) :
    q.anyActive = (q.runners[(0 : Fin 2)].state.active || q.runners[(1 : Fin 2)].state.active) := by
  rw [Bool.eq_iff_iff]
  simp only [Sequencer.anyActive, List.any_eq_true, Vector.mem_toList_iff, Vector.mem_iff_getElem, Bool.or_eq_true]
  constructor
  · rintro ⟨x, ⟨i, small, rfl⟩, active⟩
    match i, small with
    | 0, _ => exact .inl active
    | 1, _ => exact .inr active
  · rintro (active | active)
    · exact ⟨_, ⟨0, by decide, rfl⟩, active⟩
    · exact ⟨_, ⟨1, by decide, rfl⟩, active⟩

theorem State.setEntry_self (s : State) (e : Fin 32) (x) : (s.setEntry e x).palette[e] = x :=
  (getElem_setFin _ _ _ _).trans (if_pos rfl)

theorem State.setEntry_other (s : State) {e f : Fin 32} (x) (h : f ≠ e) : (s.setEntry e x).palette[f] = s.palette[f] :=
  (getElem_setFin _ _ _ _).trans (if_neg h)

theorem rgbOf_eq (r g b : BitVec 16) : rgbOf r g b = ({ r := min 4095 r.toNat, g := min 4095 g.toNat, b := min 4095 b.toNat },
    decide (4095 < r.toNat ∨ 4095 < g.toNat ∨ 4095 < b.toNat)) := by
  simp [rgbOf, clampMax_eq, Bool.or_assoc]

theorem applyModeOf_none {mode : Byte} (h : 1 < mode.toNat) : applyModeOf mode = none := by
  unfold applyModeOf
  split
  · omega
  · omega
  · rfl

theorem applyModeOf_code (after : Bool) : applyModeOf (if after then 1 else 0) = some after := by cases after <;> rfl

/-- What a new entry leaves, once answered. -/
theorem CarriesOut.setEntry {h : Header} {a p i} {s : State} {e x} (done : CarriesOut h a p i s (s.setEntry e x)) :
    ∃ t, exec i s = .next t ∧ Answers s t h (doneStatus a) p ∧ t.palette[e] = x ∧
      (∀ f : Fin 32, f ≠ e → t.palette[f] = s.palette[f]) ∧ OnlyChanges [.palette, .reply, .sdo] s t := by
  obtain ⟨t, run, answers, stored⟩ := done
  have palette : t.palette = (s.setEntry e x).palette := stored.field .palette
  refine ⟨t, run, answers, ?_, fun f other => ?_, OnlyChanges.answered (s.setPalette_only _) stored⟩ <;> rw [palette]
  · exact s.setEntry_self e x
  · exact s.setEntry_other x other

/-- SET_PALETTE of an entry that exists (R34, R35). -/
theorem setPalette_done {h : Header} {s : State} (r : Reaches .open_ h s) (plain : h.plain = true) {entry : Byte}
    {e : Fin 32} (named : entry.toNat = e.val) (red green blue : BitVec 16) {mode : Byte} {after : Bool}
    (code : applyModeOf mode = some after) :
    CarriesOut h (rgbOf red green blue).2 (.palette (after && s.seq.anyActive)) (.setPalette h entry red green blue mode) s
      (s.setEntry e (if (after && s.seq.anyActive) = true then
        { colour := s.palette[e].colour, staged := some (rgbOf red green blue).1 }
      else { colour := some (rgbOf red green blue).1, staged := none })) := by
  refine open_done r rfl ?_
  simp only [require_true plain, requireSome_some (index?_eq e named), requireSome_some code]
  cases after && s.seq.anyActive <;> rfl

/-! ## Signals (R42, R45) -/

theorem signalsAfter_bit (old mask values : BitVec 16) (n : Fin 16) :
    (signalsAfter old mask values).getLsbD n = if mask.getLsbD n then values.getLsbD n else old.getLsbD n := by
  simp only [signalsAfter, BitVec.getLsbD_or, BitVec.getLsbD_and, BitVec.getLsbD_not]
  cases mask.getLsbD n <;> simp

/-- A cue whose gate has been restarted for each signal of a list (R45). -/
def Cue.restarted (signals : BitVec 16) (ns : List (Fin 16)) (c : Cue) : Cue :=
  ns.foldl (fun c n => c.restartGate n signals) c

theorem Cue.restartGate_other {c : Cue} {n : Fin 16} (h : ∀ g ∈ c.desc.gate, g.signal ≠ n) (signals) :
    c.restartGate n signals = c := by
  unfold Cue.restartGate
  split
  · rfl
  · next g e => rw [if_neg (h g e)]

theorem Cue.restartGate_desc (c : Cue) (n signals) : (c.restartGate n signals).desc = c.desc := by
  unfold Cue.restartGate
  split
  · rfl
  · split <;> rfl

theorem Cue.restarted_other {signals : BitVec 16} {ns : List (Fin 16)} {c : Cue} (h : ∀ g ∈ c.desc.gate, g.signal ∉ ns) :
    c.restarted signals ns = c := by
  induction ns with
  | nil => rfl
  | cons n ns ih =>
    change Cue.restarted signals ns (c.restartGate n signals) = c
    rw [Cue.restartGate_other fun g hg e => h g hg (e ▸ List.mem_cons_self)]
    exact ih fun g hg hm => h g hg (List.mem_cons_of_mem _ hm)

/-- A gate restarts once, from its present envelope, where its signal is one of the list. -/
theorem Cue.restarted_eq {signals : BitVec 16} {ns : List (Fin 16)} (nodup : ns.Nodup) (c : Cue) :
    c.restarted signals ns = match c.desc.gate with
      | none => c
      | some g => if g.signal ∈ ns then
          { c with gateRun := some { opened := g.isOpen signals, start := c.gateEnvelope, elapsed := 0 } }
        else c := by
  cases gate : c.desc.gate with
  | none => exact Cue.restarted_other fun g hg => by rw [gate] at hg; cases hg
  | some g =>
    dsimp only
    split
    · next mem =>
      induction ns with
      | nil => cases mem
      | cons n ns ih =>
        obtain ⟨fresh, nodup⟩ := List.nodup_cons.1 nodup
        change Cue.restarted signals ns (c.restartGate n signals) = _
        by_cases e : g.signal = n
        · have once : c.restartGate n signals =
              { c with gateRun := some { opened := g.isOpen signals, start := c.gateEnvelope, elapsed := 0 } } := by
            simp only [Cue.restartGate, gate, e, if_true]
          rw [once]
          refine Cue.restarted_other fun g' hg' => ?_
          obtain rfl : g = g' := Option.some.inj (gate.symm.trans hg')
          exact e ▸ fresh
        · rw [Cue.restartGate_other fun g' hg' => by rwa [← Option.some.inj (gate.symm.trans hg')]]
          exact ih nodup ((List.mem_cons.1 mem).resolve_left e)
    · next absent =>
      exact Cue.restarted_other fun g' hg' => by rwa [← Option.some.inj (gate.symm.trans hg')]

/-- The Cue Table after the gates have been restarted for each signal of a list. -/
def CueTable.restarted (t : CueTable) (signals : BitVec 16) (ns : List (Fin 16)) : CueTable :=
  { t with slots := t.slots.map fun x => { x with cue := x.cue.map (Cue.restarted signals ns) } }

theorem CueTable.restarted_cue (t : CueTable) (signals : BitVec 16) (ns) (k : Fin 48) :
    (t.restarted signals ns).slots[k].cue = t.slots[k].cue.map (Cue.restarted signals ns) := by
  simp [CueTable.restarted]

theorem CueTable.restarted_nil (t : CueTable) (signals : BitVec 16) : t.restarted signals [] = t := by
  have same : Cue.restarted signals [] = id := rfl
  simp [CueTable.restarted, same]

theorem State.restartGates_restarted (s : State) (n : Fin 16) (ns : List (Fin 16)) :
    (s.restartGates n).cues.restarted s.signals ns = s.cues.restarted s.signals (n :: ns) := by
  have both : (Cue.restarted s.signals ns ∘ fun c => c.restartGate n s.signals) = Cue.restarted s.signals (n :: ns) := rfl
  simp only [CueTable.restarted, State.restartGates, State.setCues, Vector.map_map, Function.comp_def, Option.map_map]
  rw [← both]
  rfl

/-- No runner waits on a signal. -/
def State.noneWaits (s : State) : Prop := ∀ r : Fin 2, s.seq.runners[r].state ≠ .signalWait

theorem State.wakeRunners_none {s : State} (h : s.noneWaits) (n : Fin 16) : s.wakeRunners n = s := by
  have held : ∀ r : Fin 2, s.releasedBy n r = false := fun r => by
    rw [State.releasedBy, beq_eq_false_iff_ne.2 (h r), Bool.false_and]
  have same : ∀ r : Fin 2, s.wakeRunner n r = s := fun r => by
    rw [State.wakeRunner, held r, if_neg Bool.false_ne_true]
  rw [State.wakeRunners, held 0, Bool.false_and, if_neg Bool.false_ne_true, same 0, same 1]

theorem State.signalChange_none {s : State} (h : s.noneWaits) (n : Fin 16) : s.signalChange n = s.restartGates n :=
  State.wakeRunners_none (s := s.restartGates n) h n

/-- While no runner waits on a signal, its change restarts gates alone. -/
theorem State.foldl_signalChange {s : State} (h : s.noneWaits) (ns : List (Fin 16)) :
    ns.foldl State.signalChange s = s.setCues (s.cues.restarted s.signals ns) := by
  induction ns generalizing s with
  | nil =>
    rw [CueTable.restarted_nil]
    rfl
  | cons n ns ih =>
    rw [List.foldl_cons, State.signalChange_none h, ih (s := s.restartGates n) h, ← s.restartGates_restarted n ns]
    rfl

theorem State.changeSignals_signals (s : State) (mask values : BitVec 16) :
    (s.changeSignals mask values).signals = signalsAfter s.signals mask values := by
  unfold State.changeSignals
  generalize members _ = ns
  have only := OnlyChanges.foldl State.signalChange (fun s n => s.signalChange_only n) ns
    (s.setSignals (signalsAfter s.signals mask values))
  exact only.field .signals

theorem mem_changed (old mask values : BitVec 16) (n : Fin 16) : n ∈ members (old ^^^ signalsAfter old mask values) ↔
    (signalsAfter old mask values).getLsbD n ≠ old.getLsbD n := by
  rw [mem_members, BitVec.getLsbD_xor, bne_iff_ne]
  exact ne_comm

/-- Settles O29: an entry is set, and the changes of signals restart gates. -/
theorem paletteAndSignalsAreWritten : Obligations.PaletteAndSignalsAreWritten := by
  refine ⟨fun h entry e s r plain named => ⟨fun red green blue after => ?_, ?_⟩, fun h mask values s r plain => ?_,
    fun h mask values s r plain => ?_, fun h entry mode red green blue s r plain => ⟨fun bad => ?_, fun bad => ?_⟩⟩
  · obtain ⟨t, run, answers, entry', others, only⟩ :=
      (setPalette_done r plain named red green blue (applyModeOf_code after)).setEntry
    rw [Sequencer.anyActive_eq, rgbOf_eq] at answers entry'
    exact ⟨t, run, ⟨answers, entry'⟩, others, only⟩
  · exact (open_done (i := .clearPalette h entry) r rfl
      (by simp only [require_true plain, requireSome_some (index?_eq e named)]; rfl)).setEntry
  · obtain ⟨t, run, answers, stored⟩ := configuring_done (i := .setSignals h mask values) r rfl
      (by simp only [plain, if_true]; rfl)
    have signals : t.signals = signalsAfter s.signals mask values :=
      (stored.field .signals).trans (s.changeSignals_signals mask values)
    refine ⟨t, run, fun n => ?_, ?_, fun none => ?_⟩
    · rw [signals, signalsAfter_bit]
    · rw [signals]
      exact answers
    · have changed : s.changeSignals mask values = _ :=
        State.foldl_signalChange (s := s.setSignals (signalsAfter s.signals mask values)) none _
      have cues : t.cues = s.cues.restarted (signalsAfter s.signals mask values)
          (members (s.signals ^^^ signalsAfter s.signals mask values)) := by
        rw [stored.field .cues, changed]
        rfl
      refine ⟨fun k => ?_, ?_, ?_, ?_⟩
      · rw [cues, signals]
        refine ⟨by simp [CueTable.restarted], ?_⟩
        rw [CueTable.restarted_cue]
        refine congrArg (fun f => s.cues.slots[k].cue.map f) (funext fun c => ?_)
        rw [Cue.restarted_eq (members_nodup _)]
        cases c.desc.gate with
        | none => rfl
        | some g => simp only [mem_changed, Gate.isOpen, ne_eq, ite_not]
      · rw [cues]; rfl
      · rw [cues]; rfl
      · rw [changed] at stored
        exact OnlyChanges.answered (((OnlyChanges.refl [.signals, .cues] s).then (s.setSignals_only _)).then
          (State.setCues_only _ _)) stored
  · exact configuring_refused (i := .setSignals h mask values) r rfl (by simp only [plain]; rfl)
  · refine open_refused (i := .setPalette h entry red green blue mode) r rfl ?_
    simp only [require_true plain]
    rcases bad with bad | bad
    · rw [requireSome_none (index?_none bad)]
    · cases index? 32 entry.toNat with
      | none => rfl
      | some e =>
        change requireSome (applyModeOf mode) _ = _
        rw [requireSome_none (applyModeOf_none bad)]
  · exact open_refused (i := .clearPalette h entry) r rfl
      (by simp only [require_true plain, requireSome_none (index?_none (n := 32) bad)])

end Sys2Proof.Machine

/-! PROOFS. Mapping and holding zones, reading them, and watches (chapters 3 and 4). -/

namespace Sys2Proof.Machine

open Sys2Proof

/-! ## Lists that are read entry by entry -/

theorem map_eq_of_mapM {α β : Type} {f : α → Option β} {xs : List α} {ys : List β} (h : xs.mapM f = some ys) :
    xs.map f = ys.map some := by
  have each := mapM_eq_some_iff.1 h
  clear h
  induction each with
  | nil => rfl
  | cons e _ ih => rw [List.map_cons, List.map_cons, e, ih]

theorem exists_mapM {α β : Type} {f : α → Option β} {xs : List α} (h : ∀ x ∈ xs, ∃ y, f x = some y) :
    ∃ ys, xs.mapM f = some ys := by
  simp only [mapM_eq_some_iff]
  induction xs with
  | nil => exact ⟨[], .nil⟩
  | cons x xs ih =>
    obtain ⟨y, hy⟩ := h x List.mem_cons_self
    obtain ⟨ys, hys⟩ := ih fun z hz => h z (List.mem_cons_of_mem _ hz)
    exact ⟨y :: ys, .cons hy hys⟩

theorem mem_of_mapM {α β : Type} {f : α → Option β} {xs : List α} {ys : List β} (h : xs.mapM f = some ys) {x : α}
    (hx : x ∈ xs) : ∃ y, f x = some y := by
  have mem : f x ∈ ys.map some := map_eq_of_mapM h ▸ List.mem_map_of_mem hx
  obtain ⟨y, -, e⟩ := List.mem_map.1 mem
  exact ⟨y, e.symm⟩

/-! ## MAP_ZONE (R56, R57) -/

/-- A node reference as a frame carries it (11.2). -/
def NodeRef.raw (n : NodeRef) : RawNodeRef := { chain := BitVec.ofNat 8 n.chain, position := BitVec.ofNat 8 n.position }

theorem NodeRef.raw_reads {n : NodeRef} (least : 1 ≤ n.position) (most : n.position ≤ 60) : nodeRefOf n.raw = some n :=
  nodeRefOf_eq_some.2 ⟨Nat.mod_eq_of_lt (show n.chain.val < 2 ^ 8 by omega),
    Nat.mod_eq_of_lt (show n.position < 2 ^ 8 by omega), least, most⟩

theorem mapM_raw {ns : List NodeRef} (inRange : ∀ n ∈ ns, 1 ≤ n.position ∧ n.position ≤ 60) :
    (ns.map NodeRef.raw).mapM nodeRefOf = some ns := by
  rw [mapM_eq_some_iff, List.forall₂_map_left_iff, List.forall₂_same]
  exact fun n hn => NodeRef.raw_reads (inRange n hn).1 (inRange n hn).2

/-- A reference that is refused (R56, 3). -/
abbrev refOutOfRange (r : RawNodeRef) : Prop := 3 < r.chain.toNat ∨ r.position.toNat = 0 ∨ 60 < r.position.toNat

theorem nodeRefOf_outOfRange {r : RawNodeRef} : (∃ n, nodeRefOf r = some n) ↔ ¬ refOutOfRange r := by
  constructor
  · rintro ⟨n, e⟩ out
    obtain ⟨chain, position, least, most⟩ := nodeRefOf_eq_some.1 e
    have := n.chain.isLt
    rcases out with out | out | out <;> omega
  · intro inRange
    simp only [not_or, Nat.not_lt] at inRange
    refine ⟨{ chain := ⟨r.chain.toNat, by omega⟩, position := r.position.toNat }, nodeRefOf_eq_some.2 ⟨rfl, rfl, ?_, ?_⟩⟩ <;>
      dsimp only <;> omega

theorem nodeRefOf_injective {r q : RawNodeRef} {n : NodeRef} (hr : nodeRefOf r = some n) (hq : nodeRefOf q = some n) : r = q := by
  obtain ⟨chain, position, -⟩ := nodeRefOf_eq_some.1 hr
  obtain ⟨chain', position', -⟩ := nodeRefOf_eq_some.1 hq
  obtain ⟨c, p⟩ := r
  obtain ⟨c', p'⟩ := q
  have : c = c' := BitVec.eq_of_toNat_eq (chain.trans chain'.symm)
  have : p = p' := BitVec.eq_of_toNat_eq (position.trans position'.symm)
  simp_all

/-- A list names a node twice just where its raw form does (R56, 4). -/
theorem nodup_of_mapM {raw : List RawNodeRef} {ns : List NodeRef} (h : raw.mapM nodeRefOf = some ns) :
    ns.Nodup ↔ raw.Nodup := by
  have same := map_eq_of_mapM h
  constructor
  · intro once
    have : (raw.map nodeRefOf).Nodup := same ▸ once.map (Option.some_injective _)
    exact this.of_map
  · intro once
    refine List.Nodup.of_map some (same ▸ once.map_on fun r hr q _ e => ?_)
    obtain ⟨n, hn⟩ := mem_of_mapM h hr
    exact nodeRefOf_injective hn (e ▸ hn)

theorem State.listedBy_none {s : State} {z : Fin 16} {n : NodeRef} (h : ∀ y : Fin 16, y ≠ z → n ∉ s.zones[y].nodes) :
    s.listedBy z n = none :=
  List.find?_eq_none.2 fun y _ => by simpa [-Fin.getElem_fin] using h y

theorem State.listedBy_only {s : State} {z y : Fin 16} {n : NodeRef} (ne : y ≠ z) (listed : n ∈ s.zones[y].nodes)
    (only : ∀ x : Fin 16, x ≠ z → n ∈ s.zones[x].nodes → x = y) : s.listedBy z n = some y := by
  cases e : s.listedBy z n with
  | none => exact absurd (List.find?_eq_none.1 e y (List.mem_finRange y)) (by simp [-Fin.getElem_fin, ne, listed])
  | some x =>
    have found := List.find?_some e
    simp only [Bool.and_eq_true, bne_iff_ne, List.contains_iff_mem] at found
    rw [only x found.1 found.2]

theorem State.firstInUse_free {s : State} {z : Fin 16} {ns : List NodeRef}
    (h : ∀ y : Fin 16, y ≠ z → ∀ n ∈ ns, n ∉ s.zones[y].nodes) : s.firstInUse z ns = none :=
  List.findSome?_eq_none_iff.2 fun n hn => by rw [State.listedBy_none fun y ne => h y ne n hn]; rfl

theorem State.firstInUse_first {s : State} {z y : Fin 16} {n : NodeRef} {before rest : List NodeRef}
    (free : ∀ m ∈ before, ∀ x : Fin 16, x ≠ z → m ∉ s.zones[x].nodes) (used : s.listedBy z n = some y) :
    s.firstInUse z (before ++ n :: rest) = some (n, y) := by
  have none' : s.firstInUse z before = none := State.firstInUse_free fun x ne m hm => free m hm x ne
  unfold State.firstInUse at none' ⊢
  rw [List.findSome?_append, none', List.findSome?_cons, used]
  rfl

theorem State.mapZone_only (s : State) (z ns) : OnlyChanges [.zones, .watches, .composer] s (s.mapZone z ns) :=
  (((OnlyChanges.refl _ s).then (s.setZones_only _)).then (State.setComposer_only _ _)).then (State.zoneEvent_only _ _ _)

theorem State.zoneEvent_zone (g) (s : State) (z y : Fin 16) : (s.zoneEvent g z).zones[y] =
    if y = z then { s.zones[z] with count := s.zones[z].count + 1 } else s.zones[y] := getElem_modifyAt _ _ _ _

theorem State.zoneEvent_watch (s : State) (z : Fin 16) (w : Fin 8) :
    (s.zoneEvent none z).watches.slots[w].entry = s.watches.slots[w].entry.filter fun e => e.zone != z := by
  refine (congrArg WatchSlot.entry (WatchTable.invalidate_slot s.watches none z w)).trans ?_
  refine congrArg (fun p => s.watches.slots[w].entry.filter p) (funext fun e => ?_)
  rw [show ((none : Option (Fin 8)) != some w) = true from rfl, Bool.and_true]
  rfl

theorem State.mapZone_zone (s : State) (z y : Fin 16) (ns) : (s.mapZone z ns).zones[y] =
    if y = z then { s.zones[z] with nodes := ns, count := s.zones[z].count + 1 } else s.zones[y] := by
  have list : ∀ x : Fin 16, (modifyAt s.zones z fun q => { q with nodes := ns })[x] =
    if x = z then { s.zones[z] with nodes := ns } else s.zones[x] := fun x => getElem_modifyAt _ _ _ _
  refine (State.zoneEvent_zone _ _ _ _).trans ?_
  simp only [State.setComposer_zones, State.setZones_zones, list, if_true]
  split <;> rfl

/-- A list of a length that the port accepts is a frame of a configuring command. -/
theorem list_frame {i : Instr} {s : State} {h : Header} {n : Nat} {block : State → Verdict} {ok : Bool} (accepted : ok = true)
    (frame : exec i s = .next (s.takeFrame .configuring false ok n h block)) : exec i s = s.takeConfiguring n h block := by
  subst accepted
  exact frame

section
variable {h : Header} {s : State} (r : Reaches .configuring h s) (plain : h.plain = true) {zone : Byte}
  {raw : List RawNodeRef}

theorem mapZone_length (size : raw.length ≤ 123) : mapZoneLengthOk raw = true := decide_eq_true size

section
variable {z : Fin 16} (named : zone.toNat = z.val) (size : raw.length ≤ 64) {ns : List NodeRef}
  (read : raw.mapM nodeRefOf = some ns) (once : ns.Nodup)
include r plain named size read once

theorem mapZone_held (held : s.zones[z].hold ≠ .clear) : Refuses h .wrongState .empty (.mapZone h zone raw) s := by
  refine configuring_refused r (list_frame (mapZone_length (by omega)) rfl) ?_
  simp only [require_true plain, requireSome_some (index?_eq z named), require_true (decide_eq_true size),
    requireSome_some read, require_true (decide_eq_true once)]
  exact guardWith_true (bne_iff_ne.2 held) _ _

theorem mapZone_used (clear : s.zones[z].hold = .clear) {n y} (used : s.firstInUse z ns = some (n, y)) :
    Refuses h .inUse (.inUse n y) (.mapZone h zone raw) s := by
  refine configuring_refused r (list_frame (mapZone_length (by omega)) rfl) ?_
  simp only [require_true plain, requireSome_some (index?_eq z named), require_true (decide_eq_true size),
    requireSome_some read, require_true (decide_eq_true once), clear, used]
  rfl

theorem mapZone_done (clear : s.zones[z].hold = .clear) (free : s.firstInUse z ns = none) :
    CarriesOut h false .empty (.mapZone h zone raw) s (s.mapZone z ns) := by
  refine configuring_done r (list_frame (mapZone_length (by omega)) rfl) ?_
  simp only [require_true plain, requireSome_some (index?_eq z named), require_true (decide_eq_true size),
    requireSome_some read, require_true (decide_eq_true once), clear, free]
  rfl

end

include r plain

theorem mapZone_refused (size : raw.length ≤ 123)
    (bad : 15 < zone.toNat ∨ 64 < raw.length ∨ ¬ raw.Nodup ∨ ∃ n ∈ raw, refOutOfRange n) :
    Refuses h .badValue .empty (.mapZone h zone raw) s := by
  refine configuring_refused r (list_frame (mapZone_length size) rfl) ?_
  simp only [require_true plain]
  cases named : index? 16 zone.toNat with
  | none => rfl
  | some z =>
    change require (decide (raw.length ≤ 64)) _ = _
    by_cases few : raw.length ≤ 64
    · rw [require_true (decide_eq_true few)]
      cases read : raw.mapM nodeRefOf with
      | none => rfl
      | some ns =>
        change require (decide ns.Nodup) _ = _
        refine require_false (decide_eq_false ?_)
        rw [nodup_of_mapM read]
        rcases bad with high | many | twice | ⟨n, hn, out⟩
        · rw [index?_eq_some] at named
          omega
        · omega
        · exact twice
        · exact absurd out (nodeRefOf_outOfRange.1 (mem_of_mapM read hn))
    · exact require_false (decide_eq_false few)

end

/-- Settles O30, by the tests of R56 in their order. -/
theorem mapZoneReplacesTheList : Obligations.MapZoneReplacesTheList := by
  refine ⟨fun h zone z ns s r plain named size once inRange clear => ⟨fun free => ?_, fun y n before rest split apart ne
    listed only => ?_⟩, fun h zone raw s r plain size => ⟨fun bad => mapZone_refused r plain size bad,
      fun z named good held => ?_⟩⟩
  · obtain ⟨t, e, answers, stored⟩ := mapZone_done r plain named (by simpa using size) (mapM_raw inRange) once clear
      (State.firstInUse_free free)
    have zones : t.zones = (s.mapZone z ns).zones := stored.field .zones
    have composer : t.composer = s.composer.discardZone z := stored.field .composer
    have watches : t.watches = (s.mapZone z ns).watches := stored.field .watches
    refine ⟨t, e, answers, ?_, fun y ne => ?_, ?_, fun y ne => ?_, fun f flight => ?_, ?_, ?_, fun w => ?_,
      OnlyChanges.answered (s.mapZone_only z ns) stored⟩
    · rw [zones, State.mapZone_zone, if_pos rfl]
    · rw [zones, State.mapZone_zone, if_neg ne]
    · rw [composer, Composer.discardZone_latest, if_pos rfl]
    · rw [composer, Composer.discardZone_latest, if_neg ne]
    · refine ⟨{ f with discarded := f.discarded ||| BitVec.twoPow 16 z }, ?_, rfl, ?_⟩
      · rw [composer, Composer.discardZone, flight]
        rfl
      · simp
    · rw [composer]; rfl
    · rw [composer]; rfl
    · rw [watches]
      exact State.zoneEvent_watch _ z w
  · refine mapZone_used r plain named (by simpa using size) (mapM_raw inRange) once clear ?_
    rw [split]
    exact State.firstInUse_first apart (State.listedBy_only ne listed only)
  · have few : raw.length ≤ 64 := Nat.le_of_not_lt fun many => good (.inl many)
    obtain ⟨ns, read⟩ := exists_mapM (f := nodeRefOf) (xs := raw) fun n hn =>
      nodeRefOf_outOfRange.2 fun out => good (.inr (.inr ⟨n, hn, out⟩))
    exact mapZone_held r plain named few read
      ((nodup_of_mapM read).2 (Decidable.not_not.1 fun twice => good (.inr (.inl twice)))) held

/-! ## HOLD_ZONE and RELEASE_ZONE (R60, R62) -/

/-- An operation on a zone that satisfies `p` replaces its hold and raises its event, and does nothing to another. -/
structure HoldOp (p : Zone → Bool) (hold : Hold) (op : State → Fin 16 → State) : Prop where
  zone : ∀ s z y, (op s z).zones[y] =
    if y = z ∧ p s.zones[z] = true then { s.zones[z] with hold := hold, count := s.zones[z].count + 1 } else s.zones[y]
  watch : ∀ (s : State) z (w : Fin 8), (op s z).watches.slots[w].entry =
    s.watches.slots[w].entry.filter fun e => !(e.zone == z && p s.zones[z])

theorem holdZone_op : HoldOp (fun x => x.hold == .clear) .pending State.holdZone := by
  constructor <;> intro s z y <;> unfold State.holdZone
  · split
    · next clear =>
      refine (State.zoneEvent_zone _ _ _ _).trans ?_
      have record : ∀ x : Fin 16, (modifyAt s.zones z fun q => { q with hold := .pending })[x] =
        if x = z then { s.zones[z] with hold := .pending } else s.zones[x] := fun x => getElem_modifyAt _ _ _ _
      simp only [State.setZones_zones, record, if_true, clear, beq_self_eq_true, and_true]
      split <;> rfl
    · next held => exact (if_neg fun h => held (beq_iff_eq.1 h.2)).symm
  · split
    · next clear =>
      simp only [clear, beq_self_eq_true, Bool.and_true]
      exact State.zoneEvent_watch _ z y
    · next held =>
      simp only [beq_eq_false_iff_ne.2 held, Bool.and_false]
      cases s.watches.slots[y].entry <;> rfl

theorem releaseZone_op : HoldOp (fun x => x.hold != .clear) .clear State.releaseZone := by
  constructor <;> intro s z y <;> unfold State.releaseZone
  · split
    · next clear => exact (if_neg fun h => bne_iff_ne.1 h.2 clear).symm
    · next held =>
      refine (State.zoneEvent_zone _ _ _ _).trans ?_
      have record : ∀ x : Fin 16, (modifyAt s.zones z fun q => { q with hold := .clear })[x] =
        if x = z then { s.zones[z] with hold := .clear } else s.zones[x] := fun x => getElem_modifyAt _ _ _ _
      simp only [State.setZones_zones, record, if_true, bne_iff_ne.2 held, and_true]
      split <;> rfl
  · split
    · next clear =>
      simp only [clear, bne_self_eq_false, Bool.and_false]
      cases s.watches.slots[y].entry <;> rfl
    · next held =>
      simp only [bne_iff_ne.2 held, Bool.and_true]
      exact State.zoneEvent_watch _ z y

section
variable {p : Zone → Bool} {hold : Hold} {op : State → Fin 16 → State}

/-- The operation, zone by zone. -/
theorem HoldOp.foldl (h : HoldOp p hold op) {zs : List (Fin 16)} (nodup : zs.Nodup) (s : State) :
    (∀ y : Fin 16, (zs.foldl op s).zones[y] = if y ∈ zs ∧ p s.zones[y] = true then
      { s.zones[y] with hold := hold, count := s.zones[y].count + 1 } else s.zones[y]) ∧
    ∀ w : Fin 8, (zs.foldl op s).watches.slots[w].entry =
      s.watches.slots[w].entry.filter fun e => !(decide (e.zone ∈ zs) && p s.zones[e.zone]) := by
  induction zs generalizing s with
  | nil =>
    refine ⟨fun y => by simp, fun w => ?_⟩
    rw [List.foldl_nil]
    cases s.watches.slots[w].entry <;> rfl
  | cons z zs ih =>
    obtain ⟨fresh, nodup⟩ := List.nodup_cons.1 nodup
    obtain ⟨zones, watches⟩ := ih nodup (op s z)
    have later : ∀ y, y ∈ zs → (op s z).zones[y] = s.zones[y] := fun y hy => by
      rw [h.zone, if_neg]
      rintro ⟨rfl, -⟩
      exact fresh hy
    refine ⟨fun y => ?_, fun w => ?_⟩
    · rw [List.foldl_cons, zones]
      by_cases hy : y ∈ zs
      · simp only [later y hy, List.mem_cons, hy, or_true, true_and]
      · rw [if_neg fun e => hy e.1, h.zone]
        by_cases e : y = z
        · subst e
          simp only [List.mem_cons, true_or, true_and]
        · rw [if_neg fun e' => e e'.1, if_neg fun e' => (List.mem_cons.1 e'.1).elim e hy]
    · rw [List.foldl_cons, watches, h.watch]
      cases s.watches.slots[w].entry with
      | none => rfl
      | some e =>
        simp only [Option.filter_some, List.mem_cons]
        by_cases here : e.zone = z
        · subst here
          by_cases ready : p s.zones[e.zone] = true <;> simp [-Fin.getElem_fin, ready, fresh, Option.filter]
        · by_cases there : e.zone ∈ zs
          · simp [-Fin.getElem_fin, here, there, later _ there, Option.filter]
          · simp [here, there, Option.filter]

theorem countZones_eq (s : State) (zones : BitVec 16) (p : Zone → Bool) :
    s.countZones zones p = (List.finRange 16).countP fun z : Fin 16 => zones.getLsbD z && p s.zones[z] := by
  rw [State.countZones, members, indices, List.filter_filter, ← List.countP_eq_length_filter]
  refine congrArg (fun f => (List.finRange 16).countP f) (funext fun z => ?_)
  exact Bool.and_comm _ _

/-- What the operation on a set of zones leaves, once answered. -/
theorem HoldOp.answered (op' : HoldOp p hold op) {h : Header} {i : Instr} {s : State} {zones : BitVec 16}
    (only : OnlyChanges [.zones, .watches] s ((members zones).foldl op s))
    (done : CarriesOut h false (.count (s.countZones zones p)) i s ((members zones).foldl op s)) :
    ∃ t, exec i s = .next t ∧
      Answers s t h .ok (.count ((List.finRange 16).countP fun z : Fin 16 => zones.getLsbD z && p s.zones[z])) ∧
      (∀ z : Fin 16, t.zones[z] = if zones.getLsbD z = true ∧ p s.zones[z] = true then
        { s.zones[z] with hold := hold, count := s.zones[z].count + 1 } else s.zones[z]) ∧
      (∀ w : Fin 8, t.watches.slots[w].entry = s.watches.slots[w].entry.filter fun e =>
        !(zones.getLsbD e.zone && p s.zones[e.zone])) ∧ OnlyChanges [.zones, .watches, .reply, .sdo] s t := by
  obtain ⟨t, e, answers, stored⟩ := done
  obtain ⟨zoneOf, watchOf⟩ := op'.foldl (members_nodup zones) s
  refine ⟨t, e, countZones_eq s zones p ▸ answers, fun z => ?_, fun w => ?_, OnlyChanges.answered only stored⟩
  · rw [stored.field .zones, zoneOf]
    simp only [mem_members]
  · rw [stored.field .watches, watchOf]
    simp only [mem_members, Bool.decide_eq_true]

end

/-- Settles O32, by what each operation does zone by zone. -/
theorem holdAndReleaseZones : Obligations.HoldAndReleaseZones := by
  refine ⟨fun h zones s r plain some' => ⟨?_, ?_⟩, fun h s r plain => ⟨?_, ?_⟩⟩
  · have done := configuring_done (i := .holdZone h zones) r rfl
      (require_true (by rw [plain, bne_iff_ne.2 some']; rfl))
    have := holdZone_op.answered (s.holdZones_only zones) done
    simpa only [beq_iff_eq] using this
  · have done := configuring_done (i := .releaseZone h zones) r rfl
      (require_true (by rw [plain, bne_iff_ne.2 some']; rfl))
    have := releaseZone_op.answered (s.releaseZones_only zones) done
    simpa only [bne_iff_ne] using this
  · exact configuring_refused (i := .holdZone h 0) r rfl (require_false (by simp))
  · exact configuring_refused (i := .releaseZone h 0) r rfl (require_false (by simp))

/-! ## READ_ZONE and DROP_WATCH (R66, R69 to R71, R78) -/

/-- The lowest place that satisfies a test is found first. -/
theorem find_lowest {n : Nat} {p : Fin n → Bool} {k : Fin n} (here : p k = true) (below : ∀ j < k, p j = false) :
    (indices n).find? p = some k := by
  rw [List.find?_eq_some_iff_getElem]
  refine ⟨here, k.val, by simp [indices], by simp [indices], fun j hj => ?_⟩
  have := below ⟨j, by omega⟩ hj
  simp [indices, this]

theorem find_nowhere {n : Nat} {p : Fin n → Bool} (h : ∀ j, p j = false) : (indices n).find? p = none :=
  List.find?_eq_none.2 fun j _ => by rw [h j]; exact Bool.false_ne_true

/-- A slot is where the entry goes: its own, else the lowest free one, else that of the oldest entry (R69 to R71). -/
theorem WatchTable.placeFor_eq {t : WatchTable} {e : WatchEntry} {w : Fin 8}
    (h : (t.slots[w].entry = some e ∧ ∀ v : Fin 8, v < w → t.slots[v].entry ≠ some e) ∨
      (t.slots[w].entry = none ∧ (∀ v : Fin 8, v < w → t.slots[v].entry ≠ none) ∧ ∀ v : Fin 8, t.slots[v].entry ≠ some e) ∨
      ((∀ v : Fin 8, t.slots[v].entry ≠ none ∧ t.slots[v].entry ≠ some e) ∧ t.order.head? = some w)) :
    t.placeFor e = w := by
  rcases h with ⟨own, first⟩ | ⟨free, first, none'⟩ | ⟨full, oldest⟩
  · have entry : t.entryOf e = some w := find_lowest (beq_iff_eq.2 own) fun v hv => beq_eq_false_iff_ne.2 (first v hv)
    simp only [WatchTable.placeFor, entry]
  · have entry : t.entryOf e = none := find_nowhere fun v => beq_eq_false_iff_ne.2 (none' v)
    have lowest : ((indices 8).find? fun w => t.slots[w].entry.isNone) = some w :=
      find_lowest (Option.isNone_iff_eq_none.2 free) fun v hv => by
        rw [← Bool.not_eq_true, Option.isNone_iff_eq_none]
        exact first v hv
    simp only [WatchTable.placeFor, entry, lowest]
  · have entry : t.entryOf e = none := find_nowhere fun v => beq_eq_false_iff_ne.2 (full v).2
    have lowest : ((indices 8).find? fun w => t.slots[w].entry.isNone) = none := find_nowhere fun v => by
      rw [← Bool.not_eq_true, Option.isNone_iff_eq_none]
      exact (full v).1
    simp only [WatchTable.placeFor, entry, lowest, oldest, Option.getD_some]

/-- Whether a hold is set, pending or captured. -/
def Hold.isHeld : Hold → Bool
  | .clear => false
  | .pending => true
  | .captured _ => true

theorem Hold.bne_clear (x : Hold) : (x != .clear) = x.isHeld := by cases x <;> rfl

theorem State.zoneReport_eq (s : State) (z : Fin 16) (watch) : s.zoneReport z watch =
    { nodes := s.zones[z].nodes, trim := s.zones[z].trim, held := s.zones[z].hold.isHeld
      captured := s.zones[z].hold.isCaptured, count := s.zones[z].count
      layers := [Layer.foundation, .theme, .accent, .alert].map (s.layerReport z), coverages := s.coverages z
      watch := watch } := by
  rw [State.zoneReport, Hold.bne_clear]
  rfl

theorem boolOf_none {code : Byte} (h : 1 < code.toNat) : boolOf code = none := by
  unfold boolOf
  split
  · omega
  · omega
  · rfl

theorem WatchTable.find_eq_some {t : WatchTable} {client : BitVec 3} {slot gen : Byte} {w : Fin 8} :
    t.find client slot gen = some w ↔ slot.toNat = w.val ∧ t.slots[w].gen = gen ∧
      ∃ e, t.slots[w].entry = some e ∧ e.client = client := by
  rw [WatchTable.find, Option.filter_eq_some_iff, index?_eq_some]
  simp [-Fin.getElem_fin, Option.any_eq_true]

theorem State.freeWatch_slot (s : State) (w v : Fin 8) : (s.freeWatch w).watches.slots[v] =
    if v = w then { s.watches.slots[w] with entry := none } else s.watches.slots[v] := by
  refine (WatchTable.freeWhere_slot _ _ _).trans ?_
  split
  · next e =>
    subst e
    cases s.watches.slots[v].entry <;> simp
  · next e =>
    rw [beq_eq_false_iff_ne.2 e]
    rcases s.watches.slots[v] with ⟨gen, _ | x⟩ <;> rfl

theorem State.freeWatch_order {s : State} {w : Fin 8} (live : s.watches.slots[w].entry ≠ none) :
    (s.freeWatch w).watches.order = s.watches.order.filter fun x => x != w := by
  refine congrArg (fun p => s.watches.order.filter p) (funext fun v => ?_)
  by_cases e : v = w
  · subst e
    cases h : s.watches.slots[v].entry with
    | none => exact absurd h live
    | some x => simp
  · dsimp only
    rw [beq_eq_false_iff_ne.2 e, bne_iff_ne.2 e]
    cases s.watches.slots[v].entry <;> rfl

/-- Settles O33, by where an entry goes and what the report holds. -/
theorem readZoneAndWatches : Obligations.ReadZoneAndWatches := by
  refine ⟨fun h zone z s r plain named => ⟨⟨?_, fun w place => ?_⟩, fun w e entry client => ?_⟩,
    fun h x y s r plain => ⟨fun bad => ?_, fun none' => ?_⟩⟩
  · obtain ⟨t, e, answers, only⟩ := open_done (i := .readZone h zone 0) r rfl
      (by simp only [require_true plain, requireSome_some (index?_eq z named), requireSome_some (show boolOf 0 = some false from rfl)]; rfl)
    rw [State.zoneReport_eq] at answers
    exact ⟨t, e, only, answers⟩
  · have placed := WatchTable.placeFor_eq place
    obtain ⟨t, e, answers, stored⟩ := open_done (i := .readZone h zone 1) r rfl
      (by simp only [require_true plain, requireSome_some (index?_eq z named), requireSome_some (show boolOf 1 = some true from rfl), if_true, placed]; rfl)
    have watches : t.watches = s.watches.write w { client := h.client, zone := z } := stored.field .watches
    have id : (s.watches.write w { client := h.client, zone := z }).idOf w = { slot := w, gen := s.watches.slots[w].gen + 1 } := by
      rw [WatchTable.idOf, WatchTable.write_slot, if_pos rfl]
    rw [State.zoneReport_eq, id] at answers
    refine ⟨t, e, ?_, fun v ne => ?_, ?_, OnlyChanges.answered (s.setWatches_only _) stored, answers⟩ <;> rw [watches]
    · rw [WatchTable.write_slot, if_pos rfl]
    · rw [WatchTable.write_slot, if_neg ne]
    · rfl
  · have found : s.watches.find h.client (BitVec.ofNat 8 w) s.watches.slots[w].gen = some w :=
      WatchTable.find_eq_some.2 ⟨Nat.mod_eq_of_lt (show w.val < 2 ^ 8 by omega), rfl, e, entry, client⟩
    obtain ⟨t, run, answers, stored⟩ := open_done (i := .dropWatch h (BitVec.ofNat 8 w) s.watches.slots[w].gen) r rfl
      (by simp only [require_true plain, found]; rfl)
    have watches : t.watches = (s.freeWatch w).watches := stored.field .watches
    refine ⟨t, run, answers, ?_, fun v ne => ?_, ?_, OnlyChanges.answered (s.freeWatch_only _) stored⟩ <;> rw [watches]
    · rw [State.freeWatch_slot, if_pos rfl]
    · rw [State.freeWatch_slot, if_neg ne]
    · exact State.freeWatch_order (by rw [entry]; exact Option.some_ne_none e)
  · refine open_refused (i := .readZone h x y) r rfl ?_
    simp only [require_true plain]
    rcases bad with bad | bad
    · rw [requireSome_none (index?_none bad)]
    · cases index? 16 x.toNat with
      | none => rfl
      | some z => exact requireSome_none (boolOf_none bad) _
  · have missing : s.watches.find h.client x y = none := by
      cases found : s.watches.find h.client x y with
      | none => rfl
      | some w =>
        obtain ⟨slot, gen, e, entry, client⟩ := WatchTable.find_eq_some.1 found
        exact absurd client (none' w e slot gen.symm entry)
    exact open_refused (i := .dropWatch h x y) r rfl (by simp only [require_true plain, missing])

end Sys2Proof.Machine

/-! PROOFS. The settings of the Output Conditioner and the frame period (chapters 5 and 6). -/

namespace Sys2Proof.Machine

open Sys2Proof

/-! ## Values brought into a range -/

theorem clampRange_eq {lo hi : Nat} (h : lo ≤ hi) (x : Nat) :
    clampRange lo hi x = (max lo (min hi x), decide (x < lo ∨ hi < x)) := by
  unfold clampRange
  split
  · next below => simp [below]; omega
  · next within =>
    rw [clampMax_eq]
    simp [within]; omega

theorem clampInt_eq {lo hi : Int} (h : lo ≤ hi) (x : Int) :
    clampInt lo hi x = (max lo (min hi x), decide (x < lo ∨ hi < x)) := by
  unfold clampInt
  split
  · next below => simp [below]; omega
  · next within =>
    split
    · next above => simp [above]; omega
    · next below => simp [within, below]; omega

theorem decide_altered {lo hi : Int} (h : lo ≤ hi) (x : Int) : decide (x < lo ∨ hi < x) = decide (max lo (min hi x) ≠ x) := by
  rw [decide_eq_decide]
  omega

/-! ## The curve (R101, R105) -/

theorem luxAscending_iff (ps : List CurvePoint) : luxAscending ps = true ↔ (ps.map (·.lux)).IsChain (· < ·) := by
  induction ps with
  | nil => simp [luxAscending]
  | cons a ps ih =>
    cases ps with
    | nil => simp [luxAscending]
    | cons b ps => simp only [luxAscending, Bool.and_eq_true, decide_eq_true_eq, ih, List.map_cons, List.isChain_cons_cons]

theorem segmentLevel_start (a b : CurvePoint) : segmentLevel a b a.lux = a.level := by
  simp [segmentLevel]

/-- At a point of the curve, its level. -/
theorem curveLevelFrom_start {a : CurvePoint} {rest : List CurvePoint} (rises : ∀ b ∈ rest, a.lux < b.lux) :
    curveLevelFrom a rest a.lux = a.level := by
  cases rest with
  | nil => rfl
  | cons b rest =>
    rw [curveLevelFrom, if_pos (rises b List.mem_cons_self)]
    exact segmentLevel_start a b

/-- The points at or below a lux value are passed over. -/
theorem curveLevelFrom_skip {x : Nat} {init : List CurvePoint} (a b : CurvePoint) (rest : List CurvePoint)
    (below : ∀ p ∈ init, p.lux ≤ x) (here : b.lux ≤ x) : curveLevelFrom a (init ++ b :: rest) x = curveLevelFrom b rest x := by
  induction init generalizing a with
  | nil => rw [List.nil_append, curveLevelFrom, if_neg (Nat.not_lt.2 here)]
  | cons c init ih =>
    rw [List.cons_append, curveLevelFrom, if_neg (Nat.not_lt.2 (below c List.mem_cons_self))]
    exact ih c fun p hp => below p (List.mem_cons_of_mem _ hp)

/-- From a point on, the level depends on what follows it. -/
theorem curveLevelOf_from {init rest : List CurvePoint} {b : CurvePoint} {x : Nat}
    (rises : ((init ++ b :: rest).map (·.lux)).IsChain (· < ·)) (here : b.lux ≤ x) :
    curveLevelOf (init ++ b :: rest) x = curveLevelFrom b rest x := by
  rw [List.isChain_iff_pairwise, List.pairwise_map, List.pairwise_append, List.pairwise_cons] at rises
  obtain ⟨inside, ⟨after, -⟩, across⟩ := rises
  cases init with
  | nil =>
    change (if x ≤ b.lux then b.level else curveLevelFrom b rest x) = _
    split
    · next low =>
      obtain rfl : b.lux = x := Nat.le_antisymm here low
      exact (curveLevelFrom_start after).symm
    · rfl
  | cons a init =>
    have first : a.lux < b.lux := across a List.mem_cons_self b List.mem_cons_self
    change (if x ≤ a.lux then a.level else curveLevelFrom a (init ++ b :: rest) x) = _
    rw [if_neg (by omega)]
    refine curveLevelFrom_skip a b rest (fun p hp => ?_) here
    exact Nat.le_trans (Nat.le_of_lt (across p (List.mem_cons_of_mem _ hp) b List.mem_cons_self)) here

theorem part_le {d n m : Nat} (h : n ≤ m) : d * n / m ≤ d :=
  Nat.div_le_of_le_mul (by rw [Nat.mul_comm m d]; exact Nat.mul_le_mul_left d h)

theorem curveLevelOf_segment {init rest : List CurvePoint} {a b : CurvePoint} {x : Nat}
    (rises : ((init ++ a :: b :: rest).map (·.lux)).IsChain (· < ·)) (from_ : a.lux ≤ x) (below : x < b.lux) :
    (a.level ≤ b.level →
      curveLevelOf (init ++ a :: b :: rest) x = a.level + (b.level - a.level) * (x - a.lux) / (b.lux - a.lux) ∧
        curveLevelOf (init ++ a :: b :: rest) x ≤ b.level) ∧
    (b.level < a.level →
      curveLevelOf (init ++ a :: b :: rest) x = a.level - (a.level - b.level) * (x - a.lux) / (b.lux - a.lux) ∧
        b.level ≤ curveLevelOf (init ++ a :: b :: rest) x) := by
  have inside : x - a.lux ≤ b.lux - a.lux := by omega
  rw [curveLevelOf_from rises from_, curveLevelFrom, if_pos below]
  refine ⟨fun up => ?_, fun down => ?_⟩
  · have part := part_le (d := b.level - a.level) inside
    rw [segmentLevel, if_pos up]
    exact ⟨rfl, by omega⟩
  · have part := part_le (d := a.level - b.level) inside
    rw [segmentLevel, if_neg (by omega)]
    exact ⟨rfl, by omega⟩

/-! ## Bins (R107) -/

/-- A coefficient that is out of its range. -/
abbrev coefficientOff (w : BitVec 16) : Prop := w.toInt < -2048 ∨ 2047 < w.toInt

theorem coefficientOf_eq (w : BitVec 16) :
    coefficientOf w = (max (-2048) (min 2047 w.toInt), decide (coefficientOff w)) := clampInt_eq (by decide) _

theorem rowOf_eq (a b c : BitVec 16) : rowOf a b c = ((max (-2048) (min 2047 a.toInt), max (-2048) (min 2047 b.toInt),
    max (-2048) (min 2047 c.toInt)), decide (coefficientOff a ∨ coefficientOff b ∨ coefficientOff c)) := by
  simp only [rowOf, coefficientOf_eq, Bool.decide_or, Bool.or_assoc]

theorem currentsOf_eq (a b c : BitVec 16) : currentsOf a b c = ((min 1000 a.toNat, min 1000 b.toNat, min 1000 c.toNat),
    decide (1000 < a.toNat ∨ 1000 < b.toNat ∨ 1000 < c.toNat)) := by
  simp only [currentsOf, clampMax_eq, Bool.decide_or, Bool.or_assoc]

/-! ## The commands -/

/-- What a new conditioner leaves, once answered. -/
theorem CarriesOut.setCond {h : Header} {a p i} {s : State} {c : Conditioner} (done : CarriesOut h a p i s (s.setCond c)) :
    ∃ t, exec i s = .next t ∧ t.cond = c ∧ Answers s t h (doneStatus a) p ∧ OnlyChanges [.cond, .reply, .sdo] s t := by
  obtain ⟨t, e, answers, stored⟩ := done
  exact ⟨t, e, stored.field .cond, answers, OnlyChanges.answered (s.setCond_only _) stored⟩

theorem setCurve_length {points : List RawPoint} (h : points.length ≤ 61) : setCurveLengthOk points = true := decide_eq_true h

theorem pointOf_eq (p : RawPoint) : pointOf p = { lux := p.lux.toNat, level := min 1000 p.level.toNat } := by
  simp [pointOf, clampMax_eq]

theorem luxAscending_points (points : List RawPoint) :
    luxAscending (points.map pointOf) = true ↔ (points.map (·.lux.toNat)).IsChain (· < ·) := by
  rw [luxAscending_iff, List.map_map]
  rfl

/-- Settles O34, setting by setting. -/
theorem outputSettingsAreReplaced : Obligations.OutputSettingsAreReplaced := by
  refine ⟨fun h x s plain => ⟨fun r p => ?period, fun r => ?lux, fun r => ?master, fun r => ?slew⟩,
    fun h s r plain => ⟨fun count points size least most => ⟨fun rises => ?curve, fun falls => ?curveFalls⟩,
      fun count points size bad => ?curveCount, fun bin b raw named => ?bin, fun bin raw high => ?binNumber,
      fun knee limit => ⟨fun below => ?thermal, fun above => ?thermalOrder⟩⟩,
    fun h x p s flags => ⟨fun r => ?periodFlags, fun r => ⟨?luxFlags, ?masterFlags⟩⟩,
    fun curve x rises => ⟨fun a rest e low => ?start, fun init b e high => ?ends, fun init a b rest e from_ below => ?segment⟩⟩
  case period =>
    obtain ⟨t, e, answers, stored⟩ := configuring_done (i := .setFramePeriod h p) r rfl (by simp only [plain, if_true]; rfl)
    rw [clampRange_eq (by decide)] at answers stored
    exact ⟨t, e, answers, stored.field .composer, OnlyChanges.answered (s.setComposer_only _) stored⟩
  case lux =>
    exact (open_done (i := .setLux h x) r rfl (by simp only [plain, if_true]; rfl)).setCond
  case master =>
    have done := (open_done (i := .setMaster h x) r rfl (by simp only [plain, if_true]; rfl)).setCond
    rwa [clampMax_eq] at done
  case slew =>
    obtain ⟨t, e, cond, answers, only⟩ := (configuring_done (i := .setSlew h x) r rfl (require_true plain)).setCond
    rw [clampRange_eq (by decide)] at cond answers
    refine ⟨t, e, cond, ?_, only⟩
    simpa only [Nat.lt_one_iff] using answers
  case curve =>
    have counted : (h.plain && decide (2 ≤ count.toNat ∧ count.toNat ≤ 8 ∧ points.length = count.toNat)) = true := by
      simp [plain]; omega
    obtain ⟨t, e, cond, answers, only⟩ := (configuring_done (i := .setCurve h count points) r
      (list_frame (setCurve_length (by omega)) rfl)
      (by simp only [require_true counted, require_true ((luxAscending_points points).2 rises)]; rfl)).setCond
    refine ⟨t, e, ?_, ?_, only⟩
    · simpa only [clampMax_eq] using answers
    · simpa only [pointOf_eq, funext pointOf_eq] using cond
  case curveFalls =>
    have counted : (h.plain && decide (2 ≤ count.toNat ∧ count.toNat ≤ 8 ∧ points.length = count.toNat)) = true := by
      simp [plain]; omega
    refine configuring_refused (i := .setCurve h count points) r (list_frame (setCurve_length (by omega)) rfl) ?_
    simp only [require_true counted]
    exact require_false (Bool.eq_false_iff.2 fun up => falls ((luxAscending_points points).1 up))
  case curveCount =>
    refine configuring_refused (i := .setCurve h count points) r (list_frame (setCurve_length size) rfl) (require_false ?_)
    rw [plain, Bool.true_and, decide_eq_false_iff_not]
    omega
  case bin =>
    obtain ⟨t, e, cond, answers, only⟩ := (configuring_done (i := .setBin h bin raw) r rfl
      (by simp only [require_true plain, requireSome_some (index?_eq b named)]; rfl)).setCond
    simp only [binOf, rowOf_eq, currentsOf_eq] at cond answers
    refine ⟨t, e, ?_, ?_, fun a ne => ?_, ?_, only⟩
    · rw [cond]
      exact (getElem_setFin _ _ _ _).trans (if_pos rfl)
    · simpa only [Bool.decide_or, Bool.or_assoc, coefficientOff] using answers
    · rw [cond]
      exact (getElem_setFin _ _ _ _).trans (if_neg ne)
    · rw [cond]
  case binNumber =>
    exact configuring_refused (i := .setBin h bin raw) r rfl
      (by simp only [require_true plain, requireSome_none (index?_none (n := 16) high)])
  case thermal =>
    have range : (-40 : Int) ≤ 150 := by decide
    have done := (configuring_done (i := .setThermal h knee limit) r rfl
      (by simp only [require_true plain, clampInt_eq range, require_true (decide_eq_true below)]; rfl)).setCond
    obtain ⟨t, e, cond, answers, only⟩ := done
    refine ⟨t, e, ?_, cond, only⟩
    simpa only [decide_altered range, Bool.decide_or] using answers
  case thermalOrder =>
    refine configuring_refused (i := .setThermal h knee limit) r rfl ?_
    simp only [require_true plain, clampInt_eq (show (-40 : Int) ≤ 150 by decide)]
    exact require_false (decide_eq_false (Int.not_lt.2 above))
  case periodFlags =>
    exact configuring_refused (i := .setFramePeriod h p) r rfl (by simp only [flags]; rfl)
  case luxFlags => exact open_refused (i := .setLux h x) r rfl (by simp only [flags]; rfl)
  case masterFlags => exact open_refused (i := .setMaster h x) r rfl (by simp only [flags]; rfl)
  case start =>
    subst e
    exact if_pos low
  case ends =>
    subst e
    exact curveLevelOf_from rises high
  case segment =>
    subst e
    exact curveLevelOf_segment rises from_ below

end Sys2Proof.Machine

/-! PROOFS. The settings of the Power Controller, GO_LIT and the time base (chapter 9, section 1.3). -/

namespace Sys2Proof.Machine

open Sys2Proof

/-! ## The settings (R181, R182) -/

/-- What new power fields leave, once answered. -/
theorem CarriesOut.setPower {h : Header} {a p i} {s : State} {v : Power} (done : CarriesOut h a p i s (s.setPower v)) :
    ∃ t, exec i s = .next t ∧ Answers s t h (doneStatus a) p ∧ t.power = v ∧ OnlyChanges [.power, .reply, .sdo] s t := by
  obtain ⟨t, e, answers, stored⟩ := done
  exact ⟨t, e, answers, stored.field .power, OnlyChanges.answered (s.setPower_only _) stored⟩

theorem named_eq {α : Type} (bit : Bool) (new : α × Bool) (old : α) :
    named bit new old = (if bit then new.1 else old, bit && new.2) := by cases bit <;> rfl

theorem Power.refade_eq (p : Power) (time : Nat) : p.refade time =
    { p with
      fadeTime := time
      envStart := if (p.state = .lit ∨ p.state = .dimming) ∧ time ≠ p.fadeTime then p.envelope else p.envStart
      envElapsed := if (p.state = .lit ∨ p.state = .dimming) ∧ time ≠ p.fadeTime then 0 else p.envElapsed } := by
  unfold Power.refade
  split <;> rfl

theorem reserved_times (mask : Byte) :
    (mask.extractLsb' 3 5 == 0) = true ↔ ∀ n : Fin 8, 3 ≤ n.val → mask.getLsbD n = false := by
  rw [beq_iff_eq]
  constructor
  · intro zero n high
    have bit := congrArg (fun x : BitVec 5 => x.getLsbD (n.val - 3)) zero
    simpa [BitVec.getLsbD_extractLsb', show n.val - 3 < 5 by omega, show 3 + (n.val - 3) = n.val by omega] using bit
  · intro clear
    ext j hj
    have bit := clear ⟨3 + j, by omega⟩ (Nat.le_add_right _ _)
    simpa [BitVec.getLsbD_eq_getElem (show 3 + j < 8 by omega)] using bit

theorem toNat_lt_one (w : BitVec 16) : w.toNat < 1 ↔ w = 0 := by
  rw [Nat.lt_one_iff, ← BitVec.toNat_inj]
  rfl

theorem armOf_slot {slot : Byte} {k : Fin 6} (h : slot.toNat = k.val) : armOf slot = some (some k) := by
  rw [armOf, if_neg, index?_eq k h]
  · rfl
  · rintro rfl
    have := k.isLt
    have : (255 : Byte).toNat = 255 := rfl
    omega

theorem armOf_beyond {slot : Byte} (least : 6 ≤ slot.toNat) (most : slot.toNat ≤ 254) : armOf slot = none := by
  rw [armOf, if_neg, index?_none least]
  · rfl
  · rintro rfl
    exact absurd most (by decide)

/-- Settles O56, setting by setting. -/
theorem powerSettingsAreReplaced : Obligations.PowerSettingsAreReplaced := by
  refine ⟨fun p => ⟨fun lit => if_pos lit, fun dark => if_neg dark⟩, fun h s r plain =>
    ⟨fun mask w t f clear => ?_, fun mask w t f ⟨n, high, set⟩ => ?_, fun seconds => ?_, fun slot =>
      ⟨fun k named => ?_, fun none' => ?_, fun least most => ?_⟩⟩⟩
  · obtain ⟨u, e, answers, power, only⟩ := (configuring_done (i := .setPowerTimes h mask w t f) r rfl
      (require_true (by rw [plain, (reserved_times mask).2 clear]; rfl))).setPower
    simp only [named_eq, clampRange_eq (show 1 ≤ 255 by decide), clampRange_eq (show 1 ≤ 50 by decide), clampMax_eq,
      toNat_lt_one] at answers power
    refine ⟨u, e, ?_, power.trans (Power.refade_eq _ _), only⟩
    simpa only [Bool.decide_or, Bool.decide_and, Bool.decide_eq_true, Bool.or_assoc] using answers
  · refine configuring_refused (i := .setPowerTimes h mask w t f) r rfl (require_false ?_)
    rw [plain, Bool.true_and, ← Bool.not_eq_true, reserved_times]
    intro clear
    rw [clear n high] at set
    cases set
  · obtain ⟨u, e, answers, stored⟩ := configuring_done (i := .setDarkInterval h seconds) r rfl (require_true plain)
    rw [clampMax_eq] at answers stored
    refine ⟨u, e, answers, ?_, OnlyChanges.answered (((OnlyChanges.refl [.power] s).then (s.setPower_only _)).then
      (State.reloadDark_only _)) stored⟩
    rw [stored.field .power]
    change Power.reloadDark { s.power with darkInterval := min 255 seconds.toNat } = _
    have zero : min 255 seconds.toNat = 0 ↔ seconds = 0 := by
      rw [← toNat_lt_one]
      omega
    rw [Power.reloadDark_fields]
    simp only [zero]
  · exact (configuring_done (i := .armWelcome h slot) r rfl
      (by simp only [require_true plain, requireSome_some (armOf_slot named)]; rfl)).setPower
  · subst none'
    exact (configuring_done (i := .armWelcome h 255) r rfl
      (by simp only [require_true plain, requireSome_some (show armOf 255 = some none from rfl)]; rfl)).setPower
  · exact configuring_refused (i := .armWelcome h slot) r rfl
      (by simp only [require_true plain, requireSome_none (armOf_beyond least most)])

/-! ## GO_LIT (R173 to R178, R182) -/

section
variable {h : Header} {s : State} {i : Instr} {block : State → Verdict} (awake : s.resetLow = false)
  (on : s.power.state ≠ .dormant) (client : h.client = 0) (frame : exec i s = s.takePower 0 h block)
include awake on client frame

/-- What a GO command leaves that is carried out; every state but DORMANT takes it. -/
theorem went {s' : State} (v : block s = s'.went) :
    ∃ t, exec i s = .next t ∧ Answers s t h .ok (goReply t) ∧ OnlyChanges [.reply, .sdo] s' t := by
  obtain ⟨t, run, answers, stored⟩ := carriedOut (frame.trans (State.takePower_reaches awake on client 0 block)) v
  have same : t.power = s'.power := stored.field .power
  refine ⟨t, run, ?_, stored⟩
  rw [goReply, same]
  exact answers

/-- What a GO command leaves that is refused. -/
theorem stayed {x : Status} (v : block s = s.stayed x) :
    ∃ t, exec i s = .next t ∧ Answers s t h x (goReply t) ∧ OnlyChanges [.reply, .sdo] s t := by
  obtain ⟨t, run, answers, stored⟩ := refused (frame.trans (State.takePower_reaches awake on client 0 block)) v
  have same : t.power = s.power := stored.field .power
  refine ⟨t, run, ?_, stored⟩
  rw [goReply, same]
  exact answers

end

/-- What the reversal of DIMMING leaves (R178). -/
theorem State.reverseDimming_leaves (s : State) (few : s.notices.list.length ≤ 8) :
    s.reverseDimming.power = { s.power with
      state := .lit, dest := none, envStart := s.power.envelope, envElapsed := 0
      darkRemaining := if s.power.darkInterval = 0 then none else some (1000 * s.power.darkInterval) } ∧
    s.reverseDimming.cond = { s.cond with level := curveLevelOf s.cond.curve s.cond.lux * s.cond.master / 1000 } ∧
    (∀ z : Fin 16, s.reverseDimming.composer.latest[z] = none) ∧
    s.reverseDimming.composer.timer = s.composer.timer ∧ s.reverseDimming.composer.period = s.composer.period ∧
    s.reverseDimming.notices = s.notices.after .powerState .lit (.power .resumed) := by
  refine ⟨?_, rfl, fun z => ?_, rfl, rfl, Notices.raise_eq _ few _ _ _⟩
  · change Power.reloadDark { s.power with state := .lit, dest := none, envStart := s.power.envelope, envElapsed := 0 } = _
    rw [Power.reloadDark, if_pos rfl]
  · exact Vector.getElem_replicate _

/-- Settles O54, state by state. -/
theorem goLitByPowerState : Obligations.GoLitByPowerState := by
  intro h s awake client plain few
  have done : ∀ {p s'}, s.power.state = p → p ≠ .dormant → (match p with
      | .dormant | .powering | .lit => s.went
      | .waking => (s.setPower { s.power with continueIntent := true }).went
      | .standby => (s.enterPowering .command).went
      | .dimming => s.reverseDimming.went) = State.went s' →
      ∃ t, exec (.goLit h) s = .next t ∧ Answers s t h .ok (goReply t) ∧ OnlyChanges [.reply, .sdo] s' t := by
    rintro p s' rfl on v
    exact went awake on client rfl (by simp only [plain, if_true]; exact v)
  refine ⟨fun e => ?_, fun e => ?_, fun e => ?_, fun e => ?_⟩
  · obtain ⟨t, run, answers, stored⟩ := done e (by decide) rfl
    exact ⟨t, run, answers, stored.field .power, OnlyChanges.answered (s.setPower_only _) stored⟩
  · obtain ⟨t, run, answers, stored⟩ := done e (by decide) rfl
    exact ⟨t, run, answers, stored.field .power, stored.field .supplyEn,
      OnlyChanges.answered (s.enterPowering_only _) stored⟩
  · rcases e with e | e <;> exact done e (by decide) rfl
  · obtain ⟨t, run, answers, stored⟩ := done e (by decide) rfl
    obtain ⟨power, cond, latest, timer, period, notices⟩ := s.reverseDimming_leaves few
    have composer : t.composer = s.reverseDimming.composer := stored.field .composer
    refine ⟨t, run, answers, (stored.field .power).trans power, (stored.field .cond).trans cond, ?_, ?_, ?_,
      (stored.field .notices).trans notices, OnlyChanges.answered s.reverseDimming_only stored⟩ <;> rw [composer]
    · exact latest
    · exact timer
    · exact period

/-! ## The power envelope (R171) -/

theorem ramp_up {start elapsed time : Nat} (h : time ≠ 0) :
    ramp true start elapsed time = min 1000 (start + 1000 * elapsed / time) := if_neg h

theorem ramp_down {start elapsed time : Nat} (h : time ≠ 0) :
    ramp false start elapsed time = start - 1000 * elapsed / time := if_neg h

theorem full_range {elapsed time : Nat} (h : time ≠ 0) (past : time ≤ elapsed) : 1000 ≤ 1000 * elapsed / time :=
  (Nat.le_div_iff_mul_le (Nat.pos_of_ne_zero h)).2 (Nat.mul_le_mul_left 1000 past)

theorem Power.envelope_lit {p : Power} (h : p.state = .lit) : p.envelope = ramp true p.envStart p.envElapsed p.fadeTime := by
  simp only [Power.envelope, h]

theorem Power.envelope_dimming {p : Power} (h : p.state = .dimming) :
    p.envelope = ramp false p.envStart p.envElapsed p.fadeTime := by
  simp only [Power.envelope, h]

/-! ## What is due (section 1.3) -/

theorem Cue.fadeInDue_iff (c : Cue) : c.fadeInDue = true ↔ ∃ x, c.phase = .fadingIn x ∧ c.desc.fadeIn ≤ x := by
  unfold Cue.fadeInDue
  cases c.phase <;> simp

theorem Cue.fadeOutDue_iff (c : Cue) :
    c.fadeOutDue = true ↔ ∃ x exit start, c.phase = .fadingOut x exit start ∧ exit ≤ x := by
  unfold Cue.fadeOutDue
  cases c.phase <;> simp

theorem Cue.lifetimeDue_iff (c : Cue) : c.lifetimeDue = true ↔ c.phase.isFadingOut = false ∧ c.remaining = some 0 := by
  simp [Cue.lifetimeDue]

theorem Cue.anyDue_iff (c : Cue) : c.anyDue = true ↔
    (∃ x, c.phase = .fadingIn x ∧ c.desc.fadeIn ≤ x) ∨ (c.phase.isFadingOut = false ∧ c.remaining = some 0) ∨
      ∃ x exit start, c.phase = .fadingOut x exit start ∧ exit ≤ x := by
  rw [Cue.anyDue, Bool.or_eq_true, Bool.or_eq_true, Cue.fadeInDue_iff, Cue.lifetimeDue_iff, Cue.fadeOutDue_iff, or_assoc]

theorem Runner.due_iff (x : Runner) : (x.waitDue || x.timeoutDue) = true ↔ x.state ≠ .idle ∧ x.wait = some 0 := by
  simp only [Runner.waitDue, Runner.timeoutDue]
  cases x.state <;> simp

theorem any_toList {α : Type} {n : Nat} (v : Vector α n) (p : α → Bool) : v.toList.any p = true ↔ ∃ i : Fin n, p v[i] = true := by
  simp only [List.any_eq_true, Vector.mem_toList_iff, Vector.mem_iff_getElem]
  constructor
  · rintro ⟨x, ⟨i, small, rfl⟩, h⟩
    exact ⟨⟨i, small⟩, h⟩
  · rintro ⟨i, h⟩
    exact ⟨_, ⟨i, i.isLt, rfl⟩, h⟩

theorem State.due_iff (s : State) : s.due = true ↔
    (∃ (k : Fin 48) (c : Cue), s.cues.slots[k].cue = some c ∧
      ((∃ x, c.phase = .fadingIn x ∧ c.desc.fadeIn ≤ x) ∨ (c.phase.isFadingOut = false ∧ c.remaining = some 0) ∨
        ∃ x exit start, c.phase = .fadingOut x exit start ∧ exit ≤ x)) ∨
    (∃ r : Fin 2, s.seq.runners[r].state ≠ .idle ∧ s.seq.runners[r].wait = some 0) ∨
    (s.power.state = .dimming ∧ s.power.envelope = 0) ∨ (s.power.state = .lit ∧ s.power.darkRemaining = some 0) := by
  simp only [State.due, Bool.or_eq_true, any_toList, Power.dimmed, Power.darkDue, Bool.and_eq_true, beq_iff_eq, or_assoc,
    Option.any_eq_true, Cue.anyDue_iff]
  simp only [← Bool.or_eq_true, Runner.due_iff]

/-! ## One millisecond (R8) -/

theorem RunnerState.active_iff (x : RunnerState) : x.active = true ↔ x ≠ .idle := by cases x <;> simp [RunnerState.active]

theorem State.darkCounts_iff (s : State) : s.darkCounts = true ↔ s.power.state = .lit ∧ s.power.darkInterval ≠ 0 ∧
    (∀ k : Fin 48, s.cues.slots[k].cue = none) ∧ ∀ r : Fin 2, s.seq.runners[r].state = .idle := by
  have live : s.cues.anyLive = true ↔ ¬ ∀ k : Fin 48, s.cues.slots[k].cue = none := by
    rw [CueTable.anyLive, any_toList, not_forall]
    simp only [Option.isSome_iff_ne_none, ne_eq]
  have active : s.seq.anyActive = true ↔ ¬ ∀ r : Fin 2, s.seq.runners[r].state = .idle := by
    rw [Sequencer.anyActive, any_toList, not_forall]
    simp only [RunnerState.active_iff, ne_eq]
  simp only [State.darkCounts, Bool.and_eq_true, Bool.not_eq_true', beq_iff_eq, bne_iff_ne, and_assoc,
    ← Bool.not_eq_true, live, active, not_not]

theorem PowerState.timeRuns_of_receives {p : PowerState} (h : p.receives = true) : p.timeRuns = true := by
  cases p <;> first | rfl | cases h

theorem exec_millisecond {s : State} (awake : s.resetLow = false) :
    exec .timeBaseMillisecond s = .next s.nextMillisecond := State.event_eq awake _

/-- Settles O60, by the condition of each event that is due and what a millisecond counts. -/
theorem millisecondAdvancesCountsAndRamps : Obligations.MillisecondAdvancesCountsAndRamps := by
  refine ⟨State.due_iff, fun s awake => ⟨fun stopped => ?_, fun receives quiet => ?_⟩, fun p => ⟨fun e zero => ?_,
    fun e zero => ?_, fun e long => ?_, fun e long => ?_, fun e e' => ?_⟩⟩
  · have stopped := PowerState.timeRuns_stopped stopped
    rw [exec_millisecond awake, State.nextMillisecond, stopped, if_neg Bool.false_ne_true]
  · have runs := PowerState.timeRuns_of_receives receives
    refine ⟨s.tick, ?_, fun k => ?_, rfl, rfl, rfl, fun r => ?_, rfl, ?_, s.tick_only.mono⟩
    · rw [exec_millisecond awake]
      simp only [State.nextMillisecond, runs, quiet, if_true, Bool.false_eq_true, if_false]
    · refine (Vector.getElem_map ..).trans ?_
      rfl
    · exact Vector.getElem_map ..
    · change s.tickPower = _
      simp only [State.tickPower, State.darkCounts_iff]
  · rw [Power.envelope_lit e, zero]
    rfl
  · rw [Power.envelope_dimming e, zero]
    rfl
  · rw [Power.envelope_lit e, ramp_up long]
    refine ⟨rfl, fun past => ?_⟩
    have := full_range long past
    omega
  · rw [Power.envelope_dimming e, ramp_down long]
    refine ⟨rfl, fun start past => ?_⟩
    have := full_range long past
    omega
  · unfold Power.envelope
    split
    · next h => exact absurd h e
    · next h => exact absurd h e'
    · rfl

end Sys2Proof.Machine

/-! PROOFS. What the operands of a cue request are read as (sections 1.10 and 11.2): refused, stored and altered. -/

namespace Sys2Proof.Machine

open Sys2Proof

/-! ## Bytes and codes -/

theorem clampMax_altered (hi x : Nat) : (clampMax hi x).2 = true ↔ hi < x := by simp [clampMax_eq]

theorem clampMax_value (hi x : Nat) : (clampMax hi x).1 = min hi x := by rw [clampMax_eq]

theorem layerOf_eq_none (code : Byte) : layerOf code = none ↔ 3 < code.toNat := by
  unfold layerOf
  split
  case h_5 => exact iff_of_true rfl (by simp only [imp_false] at *; omega)
  all_goals exact iff_of_false nofun (by omega)

theorem layerOf_eq_some {code : Byte} {l : Layer} (h : layerOf code = some l) : l = (match code.toNat with
    | 0 => .foundation
    | 1 => .theme
    | 2 => .accent
    | _ => .alert) := by
  unfold layerOf at h
  split at h <;> cases h <;> simp [*]

theorem directionOf_eq_none (code : Byte) : directionOf code = none ↔ 1 < code.toNat := by
  unfold directionOf
  split
  case h_3 => exact iff_of_true rfl (by simp only [imp_false] at *; omega)
  all_goals exact iff_of_false nofun (by omega)

theorem directionOf_eq_some {code : Byte} {d : Direction} (h : directionOf code = some d) :
    d = if code.toNat = 0 then .forward else .reverse := by
  unfold directionOf at h
  split at h <;> cases h <;> simp [*]

theorem fadeModeOf_eq_none (code : Byte) : fadeModeOf code = none ↔ 1 < code.toNat := by
  unfold fadeModeOf
  split
  case h_3 => exact iff_of_true rfl (by simp only [imp_false] at *; omega)
  all_goals exact iff_of_false nofun (by omega)

/-! ## Colours (R27, R28) -/

theorem colourOf_eq_none (kind : Byte) (v0 v1 v2 : BitVec 16) :
    colourOf kind v0 v1 v2 = none ↔ RefusedColour kind v0 v1 v2 := by
  unfold colourOf RefusedColour
  split
  · next zero => simp [zero]
  · next one =>
    split
    · next clear =>
      rw [Option.map_eq_none_iff]
      simp only [index?, one, clear]
      split <;> simp <;> omega
    · next dirty => exact iff_of_true rfl (.inr ⟨one, .inr (not_and_or.1 dirty)⟩)
  · exact iff_of_true rfl (.inl (by simp only [imp_false] at *; omega))

/-- What a colour source that is taken is stored as, and when a component of it was clamped. -/
theorem colourOf_eq_some {kind : Byte} {v0 v1 v2 : BitVec 16} {c altered} (h : colourOf kind v0 v1 v2 = some (c, altered)) :
    StoredColour kind v0 v1 v2 c ∧ (altered = true ↔ AlteredColour kind v0 v1 v2) := by
  unfold colourOf at h
  unfold StoredColour AlteredColour
  split at h
  · next zero =>
    rw [rgbOf_eq] at h
    cases h
    simp [zero]
  · next one =>
    split at h <;> try cases h
    obtain ⟨e, named, same⟩ := Option.map_eq_some_iff.1 h
    cases same
    simp [one, index?_eq_some.1 named]
  · cases h

theorem colourBOf_eq_none (kind : Byte) (v0 v1 v2 : BitVec 16) :
    colourBOf kind v0 v1 v2 = none ↔ RefusedColourB kind v0 v1 v2 := by
  unfold colourBOf RefusedColourB
  by_cases two : kind = 2
  · subst two
    simp
    tauto
  · have other : kind.toNat ≠ 2 := fun e => two (BitVec.eq_of_toNat_eq e)
    rw [if_neg two, Option.map_eq_none_iff, colourOf_eq_none]
    exact ⟨fun refused => .inr ⟨other, refused⟩, fun refused => (refused.resolve_left fun bad => other bad.1).2⟩

/-- What colour source B is read as, before it is known whether it is kept. -/
theorem colourBOf_eq_some {kind : Byte} {v0 v1 v2 : BitVec 16} {b altered}
    (h : colourBOf kind v0 v1 v2 = some (b, altered)) :
    (kind.toNat = 2 → b = none) ∧ (kind.toNat ≠ 2 → ∃ c, b = some c ∧ StoredColour kind v0 v1 v2 c) ∧
      (altered = true ↔ AlteredColour kind v0 v1 v2) := by
  unfold colourBOf at h
  by_cases two : kind = 2
  · subst two
    rw [if_pos rfl] at h
    split at h <;> cases h
    simp [AlteredColour]
  · have other : kind.toNat ≠ 2 := fun e => two (BitVec.eq_of_toNat_eq e)
    rw [if_neg two] at h
    obtain ⟨⟨c, a⟩, taken, same⟩ := Option.map_eq_some_iff.1 h
    cases same
    obtain ⟨stored, clamped⟩ := colourOf_eq_some taken
    exact ⟨fun e => absurd e other, fun _ => ⟨c, rfl, stored⟩, clamped⟩

theorem colourBOf_isNone {kind : Byte} {v0 v1 v2 : BitVec 16} {b altered}
    (h : colourBOf kind v0 v1 v2 = some (b, altered)) : b = none ↔ kind.toNat = 2 := by
  obtain ⟨absent, present, -⟩ := colourBOf_eq_some h
  refine ⟨fun e => ?_, absent⟩
  by_contra other
  obtain ⟨c, e', -⟩ := present other
  rw [e] at e'
  cases e'

/-! ## Effects (R27, R28) -/

theorem lowByte_eq_zero (w : BitVec 16) : lowByte w = 0 ↔ w.toNat % 256 = 0 := by
  rw [← lowByte_toNat]
  exact ⟨fun e => by rw [e]; rfl, fun e => BitVec.eq_of_toNat_eq e⟩

theorem effectOf_eq_none (kind : Byte) (p0 p1 p2 : BitVec 16) :
    effectOf kind p0 p1 p2 = none ↔ RefusedEffect kind p0 p1 p2 := by
  unfold effectOf RefusedEffect
  split
  · next zero =>
    simp only [zero]
    simp
    tauto
  · next one => simp [one]
  · next two =>
    simp only [two, highByte_toNat]
    split
    · next ok => simp [directionOf_eq_none, lowByte_toNat, ok.2, ok.1]
    · next bad =>
      simp only [not_and_or, Nat.not_le] at bad
      simp
      tauto
  · next three =>
    simp only [three, lowByte_eq_zero]
    split
    · next ok => simp [directionOf_eq_none, highByte_toNat, ok]
    · next bad =>
      simp only [not_and_or] at bad
      simp
      tauto
  · exact iff_of_true rfl (.inl (by simp only [imp_false] at *; omega))

/-- The gradient among the effects is kind 3 (11.2). -/
theorem effectOf_isGradient {kind : Byte} {p0 p1 p2 : BitVec 16} {e altered}
    (h : effectOf kind p0 p1 p2 = some (e, altered)) : e.isGradient = true ↔ kind.toNat = 3 := by
  unfold effectOf at h
  split at h
  · next zero => split at h <;> cases h; simp [zero, Effect.isGradient]
  · next one => cases h; simp [one, Effect.isGradient]
  · next two =>
    split at h <;> try cases h
    obtain ⟨d, -, same⟩ := Option.map_eq_some_iff.1 h
    cases same
    simp [two, Effect.isGradient]
  · next three =>
    split at h <;> try cases h
    obtain ⟨d, -, same⟩ := Option.map_eq_some_iff.1 h
    cases same
    simp [three, Effect.isGradient]
  · cases h

theorem pulseOf_stored (p0 p1 p2 : BitVec 16) : (pulseOf p0 p1 p2).1 =
    .pulse (10 * max 10 (min 1000 p0.toNat)) (min 1000 p1.toNat) (10 * (p2.toNat % max 10 (min 1000 p0.toNat))) := by
  simp [pulseOf, clampRange_eq, clampMax_eq]

theorem pulseOf_altered (p0 p1 p2 : BitVec 16) : (pulseOf p0 p1 p2).2 = true ↔
    p0.toNat < 10 ∨ 1000 < p0.toNat ∨ 1000 < p1.toNat ∨ max 10 (min 1000 p0.toNat) ≤ p2.toNat := by
  have reduced : p2.toNat % max 10 (min 1000 p0.toNat) ≠ p2.toNat ↔ max 10 (min 1000 p0.toNat) ≤ p2.toNat := by
    rw [ne_eq, Nat.mod_eq_iff_lt (by omega), Nat.not_lt]
  simp [pulseOf, clampRange_eq, clampMax_eq, reduced, or_assoc]

/-- What an effect that is taken is stored as, and when a parameter of it was altered. -/
theorem effectOf_eq_some {kind : Byte} {p0 p1 p2 : BitVec 16} {e altered}
    (h : effectOf kind p0 p1 p2 = some (e, altered)) :
    StoredEffect kind p0 p1 p2 e ∧ (altered = true ↔ AlteredEffect kind p0 p1 p2) := by
  unfold effectOf at h
  unfold StoredEffect AlteredEffect
  split at h
  · next zero => split at h <;> cases h; simp [zero]
  · next one =>
    have e1 : (pulseOf p0 p1 p2).1 = e := congrArg Prod.fst (Option.some.inj h)
    have e2 : (pulseOf p0 p1 p2).2 = altered := congrArg Prod.snd (Option.some.inj h)
    rw [← e1, ← e2, pulseOf_stored, pulseOf_altered]
    simp [one]
  · next two =>
    split at h <;> try cases h
    obtain ⟨d, named, same⟩ := Option.map_eq_some_iff.1 h
    cases same
    simp [two, clampRange_eq, directionOf_eq_some named, highByte_toNat, lowByte_toNat]
  · next three =>
    split at h <;> try cases h
    obtain ⟨d, named, same⟩ := Option.map_eq_some_iff.1 h
    cases same
    simp [three, directionOf_eq_some named, highByte_toNat]
  · cases h

/-! ## Gates (R28) -/

theorem gateSignal_toNat (g : Byte) : (g.extractLsb' 0 5).toNat = g.toNat % 32 := by
  simp [BitVec.extractLsb'_toNat]

theorem gateOf_eq_none (g : Byte) : gateOf g = none ↔ RefusedGate g := by
  unfold gateOf RefusedGate
  cases g.getLsbD 7 with
  | true =>
    cases g.getLsbD 5 with
    | true => simp
    | false =>
      simp only [gateSignal_toNat, index?]
      simp
      omega
  | false => simp

theorem gateOf_eq_some {g : Byte} {gate} (h : gateOf g = some gate) : StoredGate g gate := by
  unfold gateOf at h
  split at h
  · next on =>
    have set : g ≠ 0 := by rintro rfl; cases on
    split at h
    · cases h
    · obtain ⟨n, named, same⟩ := Option.map_eq_some_iff.1 h
      cases same
      have signal := index?_eq_some.1 named
      rw [gateSignal_toNat] at signal
      exact ⟨fun e => absurd e set, fun _ => ⟨_, rfl, signal.symm, rfl⟩⟩
  · split at h <;> cases h
    next zero => exact ⟨fun _ => rfl, fun set => absurd zero set⟩

/-! ## Descriptors (R3, R27, R28) -/

theorem lifetimeOf_value (raw : BitVec 16) :
    (lifetimeOf raw).1 = if raw = 0 then none else some (10 * min 60000 raw.toNat) := by
  unfold lifetimeOf
  split <;> simp [clampMax_eq]

theorem lifetimeOf_altered (raw : BitVec 16) : (lifetimeOf raw).2 = decide (60000 < raw.toNat) := by
  unfold lifetimeOf
  split
  · next zero => subst zero; rfl
  · rw [clampMax_eq]

theorem gradientOk_eq_false (e : Effect) (b : Option ColourSource) :
    gradientOk e b = false ↔ e.isGradient = true ∧ b = none := by
  cases e <;> simp [gradientOk, Effect.isGradient]

theorem storedB_gradient {e : Effect} (h : e.isGradient = true) (b : Option ColourSource) : storedB e b = b := by
  cases e <;> first | rfl | cases h

theorem storedB_other {e : Effect} (h : e.isGradient = false) (b : Option ColourSource) : storedB e b = none := by
  cases e <;> first | rfl | cases h

/-- The fields of a descriptor that is taken, one by one (R3, R27, R28). -/
theorem descriptorOf_eq_some {d : RawDescriptor} {d' altered} (h : descriptorOf d = some (d', altered)) :
    ∃ layer a b e gate, layerOf d.layer = some layer ∧ colourOf d.aKind d.a0 d.a1 d.a2 = some a ∧
      colourBOf d.bKind d.b0 d.b1 d.b2 = some b ∧ effectOf d.effect d.p0 d.p1 d.p2 = some e ∧ gateOf d.gate = some gate ∧
      ¬ (d.zones = 0 ∨ gradientOk e.1 b.1 = false) ∧
      d' = { layer := layer, priority := min 15 d.priority.toNat, zones := d.zones, a := a.1, b := storedB e.1 b.1,
             effect := e.1, intensity := min 1000 d.intensity.toNat, fadeIn := 10 * min 1000 d.fadeIn.toNat,
             fadeOut := 10 * min 1000 d.fadeOut.toNat,
             lifetime := if d.lifetime = 0 then none else some (10 * min 60000 d.lifetime.toNat), gate := gate } ∧
      altered = (decide (15 < d.priority.toNat) || decide (1000 < d.intensity.toNat) || decide (1000 < d.fadeIn.toNat) ||
        decide (1000 < d.fadeOut.toNat) || decide (60000 < d.lifetime.toNat) || a.2 || b.2 || e.2) := by
  simp only [descriptorOf, Option.bind_eq_bind, Option.bind_eq_some_iff] at h
  obtain ⟨layer, hl, a, ha, b, hb, e, he, gate, hg, h⟩ := h
  split at h
  · cases h
  · next ok =>
    refine ⟨layer, a, b, e, gate, hl, ha, hb, he, hg, ok, ?_⟩
    simp only [clampMax_eq, lifetimeOf_value, lifetimeOf_altered, Option.some.injEq, Prod.mk.injEq] at h
    exact ⟨h.1.symm, h.2.symm⟩

/-- Which descriptors are refused (R28, R197). -/
theorem descriptorOf_eq_none (d : RawDescriptor) : descriptorOf d = none ↔ RefusedDescriptor d := by
  simp only [RefusedDescriptor, ← layerOf_eq_none, ← colourOf_eq_none, ← colourBOf_eq_none, ← effectOf_eq_none, ← gateOf_eq_none,
    descriptorOf, Option.bind_eq_bind]
  cases layerOf d.layer with
  | none => simp
  | some layer =>
  cases colourOf d.aKind d.a0 d.a1 d.a2 with
  | none => simp
  | some a =>
  cases hb : colourBOf d.bKind d.b0 d.b1 d.b2 with
  | none => simp
  | some b =>
  cases he : effectOf d.effect d.p0 d.p1 d.p2 with
  | none => simp
  | some e =>
  cases gateOf d.gate with
  | none => simp
  | some gate =>
    simp only [Option.bind_some, gradientOk_eq_false, effectOf_isGradient he, colourBOf_isNone hb, reduceCtorEq, false_or]
    split
    · next bad => exact iff_of_true rfl bad
    · next ok => exact iff_of_false nofun ok

/-- What a descriptor is stored as, and when a value of it was altered (R3, R27). -/
theorem descriptorOf_stored {d : RawDescriptor} {d' altered} (h : descriptorOf d = some (d', altered)) :
    StoredDescriptor d d' altered := by
  obtain ⟨layer, a, b, e, gate, hl, ha, hb, he, hg, ok, rfl, rfl⟩ := descriptorOf_eq_some h
  obtain ⟨storedA, alteredA⟩ := colourOf_eq_some ha
  obtain ⟨absent, present, alteredB⟩ := colourBOf_eq_some hb
  obtain ⟨storedE, alteredE⟩ := effectOf_eq_some he
  have gradient := effectOf_isGradient he
  refine ⟨layerOf_eq_some hl, rfl, rfl, storedA, fun three => ?_, fun other => ?_, storedE, rfl, rfl, rfl, rfl,
    gateOf_eq_some hg, ?_⟩
  · have isGradient := gradient.2 three
    have some' : b.1 ≠ none := fun absent => ok (.inr ((gradientOk_eq_false _ _).2 ⟨isGradient, absent⟩))
    obtain ⟨c, hc, stored⟩ := present fun two => some' (absent two)
    exact ⟨c, (storedB_gradient isGradient _).trans hc, stored⟩
  · exact storedB_other (Bool.not_eq_true _ ▸ fun yes => other (gradient.1 yes)) _
  · simp only [Bool.or_eq_true, decide_eq_true_eq, alteredA, alteredB, alteredE, or_assoc]

end Sys2Proof.Machine

/-! PROOFS. Handles, the watch check of a frame, and the commands that refresh, read and retire cues (chapter 1). -/

namespace Sys2Proof.Machine

open Sys2Proof

/-! ## Handles (R2) and the watch check (R73) -/

theorem handleOf_eq_some {raw : BitVec 16} {h : Handle} (e : handleOf raw = some h) :
    raw.toNat / 1024 = h.slot.val ∧ raw.toNat % 1024 = h.gen.toNat := by
  obtain ⟨k, named, rfl⟩ := Option.map_eq_some_iff.1 e
  have slot := index?_eq_some.1 named
  simp only [BitVec.extractLsb'_toNat, Nat.shiftRight_eq_div_pow] at slot ⊢
  omega

/-- A handle that names no cue resolves to none (R2, R197). -/
theorem State.resolve_none {s : State} {raw : BitVec 16} (h : NamesNoCue s raw) : s.resolve raw = none := by
  rw [State.resolve, Option.bind_eq_none_iff]
  intro x named
  obtain ⟨slot, gen⟩ := handleOf_eq_some named
  rcases h with beyond | ⟨k, at', free⟩
  · omega
  · obtain rfl : x.slot = k := Fin.ext (slot.symm.trans at')
    rcases free with free | other
    · rw [State.cueAt, free, Option.map_none, ite_self]
    · rw [if_neg]
      rintro same
      rw [gen, same] at other
      exact other rfl

theorem Header.plain_reserved {h : Header} (plain : h.plain = true) : h.reservedOk = true := by
  simp only [Header.plain, Header.reservedOk, Bool.and_eq_true] at plain ⊢
  exact plain.1

theorem Header.not_plain {h : Header} (bad : h.reserved ≠ 0 ∨ h.guard ≠ none) : h.plain = false := by
  rw [← Bool.not_eq_true, Header.plain, Bool.and_eq_true, beq_iff_eq, Option.isNone_iff_eq_none]
  rintro ⟨reserved, guard⟩
  exact bad.elim (· reserved) (· guard)

theorem Header.reservedOk_true {h : Header} (clear : h.reserved = 0) : h.reservedOk = true := by
  rw [Header.reservedOk, clear]; rfl

theorem Header.reservedOk_false {h : Header} (set : h.reserved ≠ 0) : h.reservedOk = false :=
  beq_eq_false_iff_ne.2 set

theorem watchModeOf_of_le {mode : Byte} (h : mode.toNat ≤ 1) : watchModeOf mode = some (decide (mode = 1)) := by
  have : mode.toNat = 0 ∨ mode.toNat = 1 := by omega
  rcases this with e | e
  · obtain rfl : mode = 0 := BitVec.eq_of_toNat_eq e
    rfl
  · obtain rfl : mode = 1 := BitVec.eq_of_toNat_eq e
    rfl

theorem watchModeOf_none {mode : Byte} (h : 1 < mode.toNat) : watchModeOf mode = none := by
  unfold watchModeOf
  split
  · omega
  · omega
  · rfl

/-- A guard that holds (R73, R74). -/
theorem checkGuard_held {h : Header} {s : State} {g : Guard} (guard : h.guard = some g) {w : Fin 8} {e : WatchEntry}
    (entry : s.watches.slots[w] = { gen := g.gen, entry := some e }) (slot : g.slot.toNat = w.val)
    (client : e.client = h.client) (mode : g.mode.toNat ≤ 1) :
    checkGuard h s = .ok (some { slot := w, consume := decide (g.mode = 1) }) := by
  have found : s.watches.find h.client g.slot g.gen = some w :=
    WatchTable.find_eq_some.2 ⟨slot, by rw [entry], e, by rw [entry], client⟩
  simp only [checkGuard, guard, found, watchModeOf_of_le mode]

/-- A frame whose watch check passes gets an answer of its block (R73, R76). -/
theorem guarded_passes {h : Header} {s : State} (passes : PassesWatchCheck s h) {block : Option (Fin 8) → Verdict} {x p}
    (refuses : ∀ g, block g = .refuse x p) : guarded h s block = .refuse x p := by
  have passed : ∃ g, checkGuard h s = .ok g := by
    cases guard : h.guard with
    | none => exact ⟨none, by simp only [checkGuard, guard]⟩
    | some g =>
      obtain ⟨mode, w, e, entry, slot, client⟩ := passes g guard
      exact ⟨_, checkGuard_held guard entry slot client mode⟩
  obtain ⟨g, checked⟩ := passed
  simp only [guarded, checked, refuses]
  cases g <;> rfl

/-! ## REFRESH_CUE and READ_CUE (R24, R25) -/

theorem RaisesEvents.stored {zones g} {s u t : State} (raised : RaisesEvents zones g s u)
    (stored : OnlyChanges [.reply, .sdo] u t) : RaisesEvents zones g s t := by
  have z : t.zones = u.zones := stored.field .zones
  have w : t.watches = u.watches := stored.field .watches
  unfold RaisesEvents
  rw [z, w]
  exact raised

theorem Cue.refreshed_none (c : Cue) : (c.refreshed none).1 =
    { c with remaining := c.desc.lifetime.orElse fun _ => c.remaining } := by
  simp only [Cue.refreshed]
  cases c.desc.lifetime <;> rfl

/-- What a changed cue leaves, once answered. -/
theorem CarriesOut.putCue {h : Header} {a p i} {s : State} {k c} (done : CarriesOut h a p i s (s.putCue k c)) :
    ∃ t, exec i s = .next t ∧ Answers s t h (doneStatus a) p ∧
      t.cues.slots[k] = { gen := s.cues.slots[k].gen, cue := some c } ∧ OnlySlot k s t ∧
      t.cues.postOrder = s.cues.postOrder ∧ t.cues.retiring = s.cues.retiring ∧ OnlyChanges [.cues, .reply, .sdo] s t := by
  obtain ⟨t, run, answers, stored⟩ := done
  have cues : t.cues = (s.putCue k c).cues := stored.field .cues
  refine ⟨t, run, answers, ?_, fun j other => ?_, ?_, ?_, OnlyChanges.answered (s.putCue_only _ _) stored⟩ <;> rw [cues]
  · rw [State.putCue_slot, if_pos rfl]
  · rw [State.putCue_slot, if_neg other]
  · rfl
  · rfl

/-- Settles O26: a refresh writes one field of the cue, a report changes nothing. -/
theorem refreshAndReadCue : Obligations.RefreshAndReadCue := by
  refine ⟨fun h handle k c s r plain names => ⟨fun own on => ?_, ?_⟩,
    fun h handle lifetime s r => ⟨fun none' => ⟨?_, ?_⟩, fun k c names => ⟨fun other => ?_, fun own fades => ?_,
      fun bad => ⟨?_, fun own on => ?_⟩⟩⟩⟩
  · have refresh : ∀ l, CarriesOut h (c.refreshed l).2 .empty (.refreshCue h handle l) s (s.putCue k (c.refreshed l).1) :=
      fun l => open_done (i := .refreshCue h handle l) r rfl (by
        simp only [State.resolve_names names, guardWith_false (bne_eq_false_iff_eq.2 own), guardWith_false on,
          require_true plain])
    refine ⟨Cue.refreshed_none c ▸ (refresh none).putCue, fun raw => ?_⟩
    obtain ⟨t, run, answers, slot, others, post, retiring, only⟩ := (refresh (some raw)).putCue
    refine ⟨t, run, ?_, ⟨_, rfl, ?_⟩, others, post, retiring, only⟩
    · exact lifetimeOf_altered raw ▸ answers
    · exact lifetimeOf_value raw ▸ slot
  · exact open_done (i := .readCue h handle) r rfl (by
      simp only [State.resolve_names names, require_true plain]; rfl)
  · exact open_refused (i := .refreshCue h handle lifetime) r rfl (by simp only [State.resolve_none none'])
  · exact open_refused (i := .readCue h handle) r rfl (by simp only [State.resolve_none none'])
  · exact open_refused (i := .refreshCue h handle lifetime) r rfl (by
      simp only [State.resolve_names names, guardWith_true (bne_iff_ne.2 other)])
  · exact open_refused (i := .refreshCue h handle lifetime) r rfl (by
      simp only [State.resolve_names names, guardWith_false (bne_eq_false_iff_eq.2 own), guardWith_true fades])
  · exact open_refused (i := .readCue h handle) r rfl (by
      simp only [State.resolve_names names, require_false (Header.not_plain bad)])
  · exact open_refused (i := .refreshCue h handle lifetime) r rfl (by
      simp only [State.resolve_names names, guardWith_false (bne_eq_false_iff_eq.2 own), guardWith_false on,
        require_false (Header.not_plain bad)])

/-! ## RETIRE_CUE (R22) -/

/-- Settles O24, by the effect of a fade-out that begins and of a slot that is freed. -/
theorem retireCueFadesOrFrees : Obligations.RetireCueFadesOrFrees := by
  refine ⟨fun h handle k c s r clear noGuard names may => ?_,
    fun h handle mode s r passes => ⟨fun none' => ?_, fun k c names => ⟨fun other guest => ?_, fun may bad => ?_⟩⟩⟩
  · obtain ⟨-, live⟩ := id names
    have allowed : (c.owner != h.client && h.client != 0) = false := by
      rcases may with own | zero <;> simp [*]
    have done : ∀ {code m}, fadeModeOf code = some m →
        CarriesOut h false .empty (.retireCue h handle code) s (s.retire none m k) := fun {code m} named =>
      open_done (i := .retireCue h handle code) r rfl (by
        rw [guarded_none noGuard]
        simp only [State.resolve_names names, guardWith_false allowed, require_true (Header.reservedOk_true clear),
          requireSome_some named])
    refine ⟨fun on long => ?_, fun on short => ?_, fun fades => ?_, ?_⟩
    · obtain ⟨t, run, answers, stored⟩ := done (code := 0) rfl
      obtain ⟨cues, events, only⟩ := State.beginFade_some (g := none) (exit := Cue.ownFade) live on long
      have same : t.cues = _ := (stored.field .cues).trans cues
      refine ⟨t, run, answers, ?_, fun j other => ?_, ?_, ?_, events.stored stored, OnlyChanges.answered only stored⟩ <;>
        rw [same]
      · exact getElem_modifyAt_self _ _ _
      · exact getElem_modifyAt_ne _ _ other
    · obtain ⟨t, run, answers, stored⟩ := done (code := 0) rfl
      have slots := State.beginFade_zero (g := none) (exit := Cue.ownFade) live on short
      have same : t.cues = (s.beginFade none Cue.ownFade k).cues := stored.field .cues
      refine ⟨t, run, answers, ?_, fun j other => ?_, OnlyChanges.answered (s.beginFade_only _ _ _) stored⟩ <;>
        rw [same, slots]
      · rw [if_pos rfl]
      · rw [if_neg other]
    · have done := done (code := 0) rfl
      rwa [State.retire, State.beginFade_fading live fades] at done
    · obtain ⟨t, run, answers, stored⟩ := done (code := 1) rfl
      obtain ⟨cues, events, seq⟩ := State.freeSlot_some (g := none) live
      have same : t.cues = _ := (stored.field .cues).trans cues
      refine ⟨t, run, answers, ?_, fun j other => ?_, ?_, ?_, events.stored stored,
        fun untagged => (stored.field .seq).trans (seq untagged), OnlyChanges.answered (s.freeSlot_only _ _) stored⟩ <;>
        rw [same]
      · exact CueTable.remove_self _ _
      · exact CueTable.remove_other _ other
      · rfl
      · rfl
  · exact open_refused (i := .retireCue h handle mode) r rfl
      (guarded_passes passes fun g => by simp only [State.resolve_none none'])
  · exact open_refused (i := .retireCue h handle mode) r rfl (guarded_passes passes fun g => by
      simp only [State.resolve_names names,
        guardWith_true (Bool.and_eq_true_iff.2 ⟨bne_iff_ne.2 other, bne_iff_ne.2 guest⟩)])
  · refine open_refused (i := .retireCue h handle mode) r rfl (guarded_passes passes fun g => ?_)
    have allowed : (c.owner != h.client && h.client != 0) = false := by
      rcases may with own | zero <;> simp [*]
    simp only [State.resolve_names names, guardWith_false allowed]
    rcases bad with set | bad
    · rw [require_false (Header.reservedOk_false set)]
    · cases h.reservedOk with
      | false => rfl
      | true => rw [require_true rfl, requireSome_none ((fadeModeOf_eq_none mode).2 bad)]

/-! ## Fading and freeing the cues of a list -/

/-- A slot whose cue has begun its fade-out if it was not fading, or is free where its exit fade time is 0 (R10). -/
def CueSlot.faded (exit : Cue → Nat) (x : CueSlot) : CueSlot :=
  { gen := x.gen
    cue := x.cue.bind fun c =>
      if c.phase.isFadingOut then some c else if exit c = 0 then none else some (c.fading (exit c)) }

theorem CueSlot.faded_idle {exit : Cue → Nat} {x : CueSlot} (h : ∀ c ∈ x.cue, c.phase.isFadingOut = true) :
    x.faded exit = x := by
  rcases x with ⟨gen, _ | c⟩
  · rfl
  · simp [CueSlot.faded, h c rfl]

theorem CueSlot.faded_faded (exit : Cue → Nat) (x : CueSlot) : (x.faded exit).faded exit = x.faded exit := by
  refine CueSlot.faded_idle fun c hc => ?_
  obtain ⟨b, -, made⟩ := Option.bind_eq_some_iff.1 hc
  split at made
  · next fades => cases made; exact fades
  · split at made <;> cases made
    rfl

/-- The Cue Table's slots after one fade-out, whatever the slot held. -/
theorem State.beginFade_slots (g exit) (s : State) (k j : Fin 48) : (s.beginFade g exit k).cues.slots[j] =
    if j = k then s.cues.slots[k].faded exit else s.cues.slots[j] := by
  cases live : s.cues.slots[k].cue with
  | none =>
    have idle : s.cues.slots[k].faded exit = s.cues.slots[k] := CueSlot.faded_idle fun c hc => by rw [live] at hc; cases hc
    simp only [State.beginFade, State.cueAt, live, idle]
    split
    · next e => rw [e]
    · rfl
  | some c =>
    cases on : c.phase.isFadingOut with
    | true =>
      have idle : s.cues.slots[k].faded exit = s.cues.slots[k] :=
        CueSlot.faded_idle fun c' hc => by
          rw [live] at hc
          cases hc
          exact on
      rw [State.beginFade_fading live on, idle]
      split
      · next e => rw [e]
      · rfl
    | false =>
      by_cases zero : exit c = 0
      · rw [State.beginFade_zero live on zero]
        simp only [CueSlot.faded, live, Option.bind_some, on, zero, Bool.false_eq_true, if_false, if_true]
      · rw [(State.beginFade_some live on zero).1, getElem_modifyAt]
        simp only [CueSlot.faded, live, Option.bind_some, on, zero, Bool.false_eq_true, if_false]

theorem State.foldl_beginFade_slots (g exit) (ks : List (Fin 48)) (s : State) (j : Fin 48) :
    (ks.foldl (State.beginFade g exit) s).cues.slots[j] =
      if j ∈ ks then s.cues.slots[j].faded exit else s.cues.slots[j] := by
  induction ks generalizing s with
  | nil => simp
  | cons k ks ih =>
    rw [List.foldl_cons, ih, State.beginFade_slots]
    by_cases e : j = k
    · subst e
      simp [CueSlot.faded_faded]
    · simp [e]

theorem State.foldl_freeSlot_slots (g) (ks : List (Fin 48)) (s : State) (j : Fin 48) :
    (ks.foldl (State.freeSlot g) s).cues.slots[j] =
      if j ∈ ks then { gen := s.cues.slots[j].gen, cue := none } else s.cues.slots[j] := by
  induction ks generalizing s with
  | nil => simp
  | cons k ks ih =>
    rw [List.foldl_cons, ih, State.freeSlot_slots]
    by_cases e : j = k
    · subst e
      simp
    · simp [e]

theorem State.mem_cuesWhere {s : State} (h : CueInv s) (p : Cue → Bool) (k : Fin 48) :
    k ∈ s.cuesWhere p ↔ s.cues.slots[k].cue.any p = true := by
  obtain ⟨-, -, live, -⟩ := h
  rw [State.cuesWhere, List.mem_filter, live k, State.cueAt]
  cases s.cues.slots[k].cue <;> simp

/-! ## RETIRE_OWNER (R23) -/

theorem ownerBits (owner : BitVec 3) : (owner.setWidth 8).extractLsb' 0 3 = owner := by
  refine BitVec.eq_of_toNat_eq ?_
  simp only [BitVec.extractLsb'_toNat, BitVec.toNat_setWidth, Nat.shiftRight_zero]
  omega

/-- RETIRE_OWNER of an owner (R23). -/
theorem retireOwner_done {h : Header} {s : State} (r : Reaches .configuring h s) (plain : h.plain = true) (owner : BitVec 3)
    {mode : Byte} {m} (named : fadeModeOf mode = some m) :
    CarriesOut h false (.count (s.ownedCues owner m).length) (.retireOwner h (owner.setWidth 8) mode) s
      ((s.ownedCues owner m).foldl (State.retire none m) s) := by
  refine configuring_done (i := .retireOwner h (owner.setWidth 8) mode) r rfl ?_
  have small : (owner.setWidth 8).toNat < 8 := by
    simp only [BitVec.toNat_setWidth]
    omega
  rw [require_true (by rw [plain, Bool.true_and, decide_eq_true small]), requireSome_some named]
  dsimp only
  rw [ownerBits]

/-- Settles O25, by the effect of a retirement on every slot of the owner's list. -/
theorem retireOwnerActsOnEveryCue : Obligations.RetireOwnerActsOnEveryCue := by
  refine ⟨fun h owner s r plain inv => ⟨?_, ?_⟩, fun h owner mode s r plain bad => ?_⟩
  · obtain ⟨t, run, answers, stored⟩ := retireOwner_done r plain owner (mode := 1) (m := .now) rfl
    refine ⟨t, run, ?_, fun k => ?_, ?_⟩
    · rw [State.ownedCues, State.cuesWhere, ← List.countP_eq_length_filter] at answers
      simpa [State.cueAt, doneStatus] using answers
    · have cues : t.cues = _ := stored.field .cues
      rw [cues]
      refine (State.foldl_freeSlot_slots _ _ _ _).trans ?_
      simp only [State.ownedCues, State.mem_cuesWhere inv]
      rcases s.cues.slots[k] with ⟨gen, _ | c⟩
      · rfl
      · by_cases own : c.owner = owner <;> simp [own, Option.filter]
    · exact OnlyChanges.answered (OnlyChanges.foldl _ (fun s k => s.freeSlot_only none k) _ s) stored
  · obtain ⟨t, run, answers, stored⟩ := retireOwner_done r plain owner (mode := 0) (m := .fade) rfl
    have slot : ∀ k : Fin 48, t.cues.slots[k] = if s.cues.slots[k].cue.any (fun c =>
        c.owner == owner && !c.phase.isFadingOut) then s.cues.slots[k].faded Cue.ownFade else s.cues.slots[k] := fun k => by
      have cues : t.cues = _ := stored.field .cues
      rw [cues]
      refine (State.foldl_beginFade_slots _ _ _ _ _).trans ?_
      simp only [State.ownedCues, State.mem_cuesWhere inv]
      rfl
    refine ⟨t, run, ?_, fun k => ⟨?_, fun c live own on => ?_, fun idle => ?_⟩, ?_⟩
    · rw [State.ownedCues, State.cuesWhere, ← List.countP_eq_length_filter] at answers
      exact answers
    · rw [slot]
      split <;> rfl
    · have acts : (s.cues.slots[k].cue.any fun c => c.owner == owner && !c.phase.isFadingOut) = true := by
        rw [live, Option.any_some, on, beq_iff_eq.2 own]; rfl
      rw [slot, if_pos acts]
      simp only [CueSlot.faded, live, Option.bind_some, on, Bool.false_eq_true, if_false]
      rfl
    · rw [slot]
      split
      · next acts =>
        obtain ⟨c, live, own⟩ := (Option.any_eq_true _ _).1 acts
        rcases idle c live with other | fades
        · simp [other] at own
        · simp [fades] at own
      · rfl
    · exact OnlyChanges.answered (OnlyChanges.foldl _ (fun s k => s.beginFade_only none _ k) _ s) stored
  · refine configuring_refused (i := .retireOwner h owner mode) r rfl ?_
    by_cases small : owner.toNat < 8
    · rw [require_true (by rw [plain, Bool.true_and, decide_eq_true small]),
        requireSome_none ((fadeModeOf_eq_none mode).2 (bad.resolve_left (by omega)))]
    · rw [require_false (by rw [plain, Bool.true_and, decide_eq_false small])]

end Sys2Proof.Machine

/-! PROOFS. A cue that is written, PLACE_CUE and MODIFY_CUE (chapter 1). -/

namespace Sys2Proof.Machine

open Sys2Proof

/-! ## Writing a cue (R3, R7, R18) -/

section
variable (g : Option (Fin 8)) (s : State) (k : Fin 48) (o : BitVec 3) (tag : Option RunnerTag) (d : Descriptor)

theorem State.writeCue_cues : (s.writeCue g k o tag d).cues = s.cues.fill k (writtenCue s o tag d) :=
  State.zoneEvents_cues _ _ _

theorem State.writeCue_power : (s.writeCue g k o tag d).power = s.power.reloadDark :=
  congrArg Power.reloadDark (State.zoneEvents_power _ _ _)

theorem State.writeCue_raises : RaisesEvents d.zones g s (s.writeCue g k o tag d) :=
  State.zoneEvents_raises g (s.setCues (s.cues.fill k (d.newCue o tag s.signals))) d.zones

theorem State.writeCue_slot (j : Fin 48) : (s.writeCue g k o tag d).cues.slots[j] =
    if j = k then { gen := s.cues.slots[k].gen + 1, cue := some (writtenCue s o tag d) } else s.cues.slots[j] := by
  rw [State.writeCue_cues]
  exact getElem_modifyAt _ _ _ _

theorem State.writeCue_handle : (s.writeCue g k o tag d).handleAt k = { slot := k, gen := s.cues.slots[k].gen + 1 } := by
  rw [State.handleAt, State.writeCue_slot, if_pos rfl]

end

theorem writtenCue_congr {s u : State} (h : u.signals = s.signals) (o tag d) : writtenCue u o tag d = writtenCue s o tag d := by
  simp only [writtenCue, h]

/-- What frees a slot leaves the generations (R12). -/
theorem State.freeSlot_gen (g) (s : State) (k j : Fin 48) : (s.freeSlot g k).cues.slots[j].gen = s.cues.slots[j].gen := by
  rw [State.freeSlot_slots]
  split
  · next e => rw [e]
  · rfl

/-! ## PLACE_CUE (R19) -/

/-- The state after a pinned slot has been written over whatever it held. -/
def State.placed (g : Option (Fin 8)) (s : State) (k : Fin 48) (d : Descriptor) : State :=
  (s.freeSlot g k).writeCue g k 0 none d

section
variable (g : Option (Fin 8)) (s : State) (k : Fin 48) (d : Descriptor)

theorem State.placed_slot (j : Fin 48) : (s.placed g k d).cues.slots[j] =
    if j = k then { gen := s.cues.slots[k].gen + 1, cue := some (writtenCue s 0 none d) } else s.cues.slots[j] := by
  rw [State.placed, State.writeCue_slot, State.freeSlot_gen,
    writtenCue_congr ((s.freeSlot_only g k).field .signals), State.freeSlot_slots]
  split <;> rfl

theorem State.placed_handle : (s.placed g k d).handleAt k = { slot := k, gen := s.cues.slots[k].gen + 1 } := by
  rw [State.handleAt, State.placed_slot, if_pos rfl]

theorem State.placed_only : OnlyChanges [.cues, .zones, .watches, .seq, .power] s (s.placed g k d) :=
  ((OnlyChanges.refl _ s).then (s.freeSlot_only g k)).then (State.writeCue_only _ _ _ _ _ _)

theorem State.placed_power : (s.placed g k d).power = s.power.reloadDark := by
  rw [State.placed, State.writeCue_power, show (s.freeSlot g k).power = s.power from (s.freeSlot_only g k).field .power]

theorem State.placed_seq : (s.placed g k d).seq = (s.freeSlot g k).seq := State.writeCue_seq _ _ _ _ _ _

end

theorem filter_ne_self {l : List (Fin 48)} {k : Fin 48} (h : k ∉ l) : (l.filter fun j => j != k) = l :=
  List.filter_eq_self.2 fun j hj => bne_iff_ne.2 fun e => h (e ▸ hj)

/-- The lists after a slot is freed, whatever it held. -/
theorem State.freeSlot_lists {s : State} (inv : CueInv s) (g) (k : Fin 48) :
    (s.freeSlot g k).cues.postOrder = (s.cues.postOrder.filter fun j => j != k) ∧
      (s.freeSlot g k).cues.retiring = (s.cues.retiring.filter fun j => j != k) := by
  obtain ⟨-, -, post, retiring⟩ := inv
  cases live : s.cues.slots[k].cue with
  | none =>
    rw [State.freeSlot_none live, filter_ne_self, filter_ne_self]
    · exact ⟨rfl, rfl⟩
    · rw [retiring, live]
      exact Bool.false_ne_true
    · rw [post, live]
      exact Bool.false_ne_true
  | some c =>
    rw [(State.freeSlot_some live).1]
    exact ⟨rfl, rfl⟩

/-- Two rounds of zone change events, one after the other (R67, R72). -/
theorem RaisesEvents.twice {xs ys g} {s u t : State} (first : RaisesEvents xs g s u) (second : RaisesEvents ys g u t) :
    (∀ z : Fin 16, t.zones[z] = { s.zones[z] with count := s.zones[z].count +
      (if xs.getLsbD z then 1 else 0) + (if ys.getLsbD z then 1 else 0) }) ∧
    (∀ w : Fin 8, t.watches.slots[w] =
      if freedByEvents s (xs ||| ys) g w then { s.watches.slots[w] with entry := none } else s.watches.slots[w]) := by
  obtain ⟨zones, slots, -⟩ := first
  obtain ⟨zones', slots', -⟩ := second
  refine ⟨fun z => ?_, fun w => ?_⟩
  · rw [zones', zones]
    split <;> split <;> simp [-Fin.getElem_fin]
  · have both : freedByEvents s (xs ||| ys) g w = (freedByEvents s xs g w || freedByEvents s ys g w) := by
      unfold freedByEvents
      cases s.watches.slots[w].entry with
      | none => rfl
      | some e => simp [Bool.and_or_distrib_right]
    have left : freedByEvents u ys g w = (!freedByEvents s xs g w && freedByEvents s ys g w) := by
      unfold freedByEvents at slots ⊢
      rw [slots]
      cases h : s.watches.slots[w].entry with
      | none => simp [-Fin.getElem_fin, h]
      | some e =>
        simp only [Option.any_some]
        cases xs.getLsbD e.zone <;> cases g != some w <;>
          simp only [Bool.false_and, Bool.true_and, Bool.and_true, Bool.and_false, Bool.not_true, Bool.not_false, if_true,
            Bool.false_eq_true, if_false, h, Option.any_some, Option.any_none]
    rw [slots', slots, both, left]
    cases freedByEvents s xs g w <;> cases freedByEvents s ys g w <;> rfl

/-- The labels of a runner after the freeing of a cue (R157). -/
theorem Runner.forget_eq (x : Runner) (h : Handle) :
    x.forget h = { x with labels := labelsWithout x.labels fun y => y == h } := by
  have same : (fun l : Option Handle => if l = some h then none else l) = fun l => l.filter fun y => !(y == h) := by
    funext l
    rcases l with _ | y
    · rfl
    · by_cases e : y = h <;> simp [e, Option.filter]
  simp only [Runner.forget, labelsWithout, same]

/-- What PLACE_CUE answers (R19). -/
theorem execPlaceCue_block {slot : Byte} {k : Fin 48} {d : RawDescriptor} {d' altered} {h : Header}
    (clear : h.reserved = 0) (host : h.client = 0) (named : slot.toNat = k.val) (pinned : k.val < 8)
    (read : descriptorOf d = some (d', altered)) (s : State) (g : Option (Fin 8)) :
    (require (h.reservedOk && decide (slot.toNat < 8)) <| requireSome (index? 48 slot.toNat) fun k =>
      requireSome (descriptorOf d) fun d =>
        let s' := (s.freeSlot g k).writeCue g k h.client none d.1
        .accept d.2 (.handle (s'.handleAt k)) s') =
      .accept altered (.handle { slot := k, gen := s.cues.slots[k].gen + 1 }) (s.placed g k d') := by
  rw [require_true (by rw [Header.reservedOk_true clear, Bool.true_and, decide_eq_true (named ▸ pinned)]),
    requireSome_some (index?_eq k named), requireSome_some read, host, ← State.placed_handle g s k d']
  rfl

theorem not_plain_or_pinned {h : Header} {slot : Byte} (bad : h.reserved ≠ 0 ∨ 7 < slot.toNat) :
    (h.reservedOk && decide (slot.toNat < 8)) = false := by
  rcases bad with set | beyond
  · rw [Header.reservedOk_false set, Bool.false_and]
  · rw [decide_eq_false (by omega), Bool.and_false]

/-- Settles O22: the slot is freed, then written, each with its events. -/
theorem placeCueFillsPinnedSlot : Obligations.PlaceCueFillsPinnedSlot := by
  refine ⟨fun h slot k d d' altered s r clear noGuard named pinned read inv => ?_, fun h slot d s r noGuard bad => ?_⟩
  · have host : h.client = 0 := r.2.2.2 rfl
    obtain ⟨t, run, answers, stored⟩ := configuring_done (i := .placeCue h slot d) r rfl
      ((guarded_none noGuard _).trans (execPlaceCue_block clear host named pinned read s none))
    have cues : t.cues = (s.placed none k d').cues := stored.field .cues
    have seq : t.seq = (s.freeSlot none k).seq := (stored.field .seq).trans (State.placed_seq _ _ _ _)
    have zones : t.zones = (s.placed none k d').zones := stored.field .zones
    have watches : t.watches = (s.placed none k d').watches := stored.field .watches
    have events : RaisesEvents d'.zones none (s.freeSlot none k) (s.placed none k d') := State.writeCue_raises _ _ _ _ _ _
    obtain ⟨post, retiring⟩ := State.freeSlot_lists inv none k
    refine ⟨t, run, answers, ?_, descriptorOf_stored read, fun j other => ?_, ?_, ?_, ?_, fun free => ⟨?_, ?_⟩,
      fun c live => ⟨?_, ?_, fun untagged => ?_, fun x tagged => ?_⟩, OnlyChanges.answered (s.placed_only none k d') stored⟩
    · rw [cues, State.placed_slot, if_pos rfl]
    · rw [cues, State.placed_slot, if_neg other]
    · rw [cues, State.placed, State.writeCue_cues, ← post]
      rfl
    · rw [cues, State.placed, State.writeCue_cues, ← retiring]
      rfl
    · exact (stored.field .power).trans (State.placed_power _ _ _ _)
    · rw [State.freeSlot_none free] at events
      exact events.stored stored
    · rw [seq, State.freeSlot_none free]
    · rw [zones]
      exact ((State.freeSlot_some live).2.1.twice events).1
    · rw [watches]
      exact ((State.freeSlot_some live).2.1.twice events).2
    · rw [seq, State.freeSlot_seq live, untagged]
    · rw [seq, State.freeSlot_seq live, tagged]
      refine ⟨?_, fun q other => getElem_modifyAt_ne _ _ other, rfl⟩
      exact (getElem_modifyAt_self _ _ _).trans (Runner.forget_eq _ _)
  · refine configuring_refused (i := .placeCue h slot d) r rfl ((guarded_none noGuard _).trans ?_)
    by_cases fails : h.reserved ≠ 0 ∨ 7 < slot.toNat
    · rw [require_false (not_plain_or_pinned fails)]
    · obtain ⟨clear, small⟩ := not_or.1 fails
      have refused := (descriptorOf_eq_none d).2 ((bad.resolve_left clear).resolve_left small)
      have lt : slot.toNat < 8 := by omega
      rw [require_true (by rw [Header.reservedOk_true (not_not.1 clear), Bool.true_and, decide_eq_true lt]),
        requireSome_some (index?_eq (⟨slot.toNat, by omega⟩ : Fin 48) rfl), requireSome_none refused]

/-! ## MODIFY_CUE (R20, R21, R46) -/

/-- A field of a change: what the mask names, or what the cue holds already. -/
def picked {α : Type} (on : Bool) (x : Option (α × Bool)) (old : α) : Option (α × Bool) :=
  if on then x else some (old, false)

theorem picked_eq_none {α : Type} {on : Bool} {x : Option (α × Bool)} {old : α} :
    picked on x old = none ↔ on = true ∧ x = none := by cases on <;> simp [picked]

theorem picked_eq_some {α : Type} {on : Bool} {x : Option (α × Bool)} {old : α} {y : α × Bool}
    (h : picked on x old = some y) : (on = true ∧ x = some y) ∨ (on = false ∧ y = (old, false)) := by
  cases on
  · exact .inr ⟨rfl, (Option.some.inj h).symm⟩
  · exact .inl ⟨rfl, h⟩

theorem bind_pick {α β : Type} (on : Bool) (x : Option α) (y : α) (k : α → Option β) :
    (if on then x.bind k else (some y).bind k) = (if on then x else some y).bind k := by cases on <;> rfl

/-- The changed descriptor of a cue, field by field (R20). -/
theorem Descriptor.modified_eq (c : Descriptor) (mask : BitVec 16) (r : RawDescriptor) :
    c.modified mask r = if mask.extractLsb' 6 10 ≠ 0 then none else
      (picked (mask.getLsbD 2) (colourOf r.aKind r.a0 r.a1 r.a2) c.a).bind fun a =>
      (picked (mask.getLsbD 3) (colourBOf r.bKind r.b0 r.b1 r.b2) c.b).bind fun b =>
      (picked (mask.getLsbD 4) (effectOf r.effect r.p0 r.p1 r.p2) c.effect).bind fun e =>
      (if mask.getLsbD 5 then gateOf r.gate else some c.gate).bind fun gate =>
      if gradientOk e.1 b.1 = false then none else some
        ({ c with intensity := if mask.getLsbD 0 then min 1000 r.intensity.toNat else c.intensity
                  priority := if mask.getLsbD 1 then min 15 r.priority.toNat else c.priority
                  a := a.1, b := storedB e.1 b.1, effect := e.1, gate := gate },
          (mask.getLsbD 0 && decide (1000 < r.intensity.toNat)) || (mask.getLsbD 1 && decide (15 < r.priority.toNat)) ||
            a.2 || b.2 || e.2) := by
  have int : ∀ {hi x old : Nat} {on : Bool}, (if on then clampMax hi x else (old, false)) =
      (if on then min hi x else old, on && decide (hi < x)) := fun {hi x old on} => by cases on <;> simp [clampMax_eq]
  simp only [Descriptor.modified, int, Option.bind_eq_bind, picked, bind_pick]

theorem highMask (mask : BitVec 16) : mask.extractLsb' 6 10 ≠ 0 ↔ 64 ≤ mask.toNat := by
  have value : (mask.extractLsb' 6 10).toNat = mask.toNat / 64 := by
    simp only [BitVec.extractLsb'_toNat, Nat.shiftRight_eq_div_pow]
    omega
  rw [ne_eq, ← BitVec.toNat_inj, value]
  change ¬ mask.toNat / 64 = 0 ↔ _
  omega

theorem picked_isGradient {on : Bool} {r : RawDescriptor} {old : Effect} {e}
    (h : picked on (effectOf r.effect r.p0 r.p1 r.p2) old = some e) :
    e.1.isGradient = true ↔ if on then r.effect.toNat = 3 else old.isGradient = true := by
  rcases picked_eq_some h with ⟨rfl, read⟩ | ⟨rfl, rfl⟩
  · exact effectOf_isGradient read
  · rfl

theorem picked_isNone {on : Bool} {r : RawDescriptor} {old : Option ColourSource} {b}
    (h : picked on (colourBOf r.bKind r.b0 r.b1 r.b2) old = some b) :
    b.1 = none ↔ if on then r.bKind.toNat = 2 else old = none := by
  rcases picked_eq_some h with ⟨rfl, read⟩ | ⟨rfl, rfl⟩
  · exact colourBOf_isNone read
  · rfl

/-- Which changes are refused (R20, R28, R197). -/
theorem Descriptor.modified_eq_none (c : Descriptor) (mask : BitVec 16) (r : RawDescriptor) :
    c.modified mask r = none ↔ RefusedModify c mask r := by
  have gate : (if mask.getLsbD 5 then gateOf r.gate else some c.gate) = none ↔ mask.getLsbD 5 = true ∧ RefusedGate r.gate := by
    rw [← gateOf_eq_none]
    cases mask.getLsbD 5 <;> simp
  simp only [RefusedModify, ← colourOf_eq_none, ← colourBOf_eq_none, ← effectOf_eq_none, ← gate]
  simp only [← picked_eq_none (old := c.a), ← picked_eq_none (old := c.b), ← picked_eq_none (old := c.effect),
    Descriptor.modified_eq, ← highMask]
  split
  · next high => exact iff_of_true rfl (.inl high)
  next low =>
  simp only [low, false_or]
  cases picked (mask.getLsbD 2) (colourOf r.aKind r.a0 r.a1 r.a2) c.a with
  | none => simp
  | some a =>
  cases hb : picked (mask.getLsbD 3) (colourBOf r.bKind r.b0 r.b1 r.b2) c.b with
  | none => simp
  | some b =>
  cases he : picked (mask.getLsbD 4) (effectOf r.effect r.p0 r.p1 r.p2) c.effect with
  | none => simp
  | some e =>
  cases (if mask.getLsbD 5 then gateOf r.gate else some c.gate) with
  | none => simp
  | some gate =>
    rw [← picked_isGradient he, ← picked_isNone hb]
    simp only [Option.bind_some, gradientOk_eq_false, reduceCtorEq, false_or]
    split
    · next bad => exact iff_of_true rfl bad
    · next ok => exact iff_of_false nofun ok

/-- The fields of a change that is taken, one by one. -/
theorem Descriptor.modified_eq_some {c d' : Descriptor} {mask : BitVec 16} {r : RawDescriptor} {altered}
    (h : c.modified mask r = some (d', altered)) :
    ∃ a b e gate, picked (mask.getLsbD 2) (colourOf r.aKind r.a0 r.a1 r.a2) c.a = some a ∧
      picked (mask.getLsbD 3) (colourBOf r.bKind r.b0 r.b1 r.b2) c.b = some b ∧
      picked (mask.getLsbD 4) (effectOf r.effect r.p0 r.p1 r.p2) c.effect = some e ∧
      (if mask.getLsbD 5 then gateOf r.gate else some c.gate) = some gate ∧
      d' = { c with intensity := if mask.getLsbD 0 then min 1000 r.intensity.toNat else c.intensity
                    priority := if mask.getLsbD 1 then min 15 r.priority.toNat else c.priority
                    a := a.1, b := storedB e.1 b.1, effect := e.1, gate := gate } ∧
      altered = ((mask.getLsbD 0 && decide (1000 < r.intensity.toNat)) ||
        (mask.getLsbD 1 && decide (15 < r.priority.toNat)) || a.2 || b.2 || e.2) := by
  rw [Descriptor.modified_eq] at h
  split at h
  · cases h
  simp only [Option.bind_eq_some_iff] at h
  obtain ⟨a, ha, b, hb, e, he, gate, hg, h⟩ := h
  split at h
  · cases h
  · obtain ⟨rfl, rfl⟩ := Prod.mk.inj (Option.some.inj h)
    exact ⟨a, b, e, gate, ha, hb, he, hg, rfl, rfl⟩

theorem Descriptor.modified_zones {c d' : Descriptor} {mask : BitVec 16} {r : RawDescriptor} {altered}
    (h : c.modified mask r = some (d', altered)) : d'.zones = c.zones := by
  obtain ⟨a, b, e, gate, -, -, -, -, rfl, -⟩ := Descriptor.modified_eq_some h
  rfl

theorem picked_altered {α : Type} {on : Bool} {x : Option (α × Bool)} {old : α} {y : α × Bool} {p : Prop}
    (h : picked on x old = some y) (read : x = some y → (y.2 = true ↔ p)) : y.2 = true ↔ on = true ∧ p := by
  rcases picked_eq_some h with ⟨rfl, taken⟩ | ⟨rfl, rfl⟩
  · simp [read taken]
  · simp

theorem Descriptor.modified_altered {c d' : Descriptor} {mask : BitVec 16} {r : RawDescriptor} {altered}
    (h : c.modified mask r = some (d', altered)) : altered = true ↔ AlteredModify mask r := by
  obtain ⟨a, b, e, gate, ha, hb, he, -, -, rfl⟩ := Descriptor.modified_eq_some h
  have ha := picked_altered ha fun taken => (colourOf_eq_some taken).2
  have hb := picked_altered hb fun taken => (colourBOf_eq_some taken).2.2
  have he := picked_altered he fun taken => (effectOf_eq_some taken).2
  simp only [Bool.or_eq_true, Bool.and_eq_true, decide_eq_true_eq, ha, hb, he, or_assoc, AlteredModify]

/-- A colour source that is taken, in the words of R27. -/
theorem storedColour_kinds {kind : Byte} {v0 v1 v2 : BitVec 16} {c} (h : StoredColour kind v0 v1 v2 c) :
    (kind = 0 → c = .direct { r := min 4095 v0.toNat, g := min 4095 v1.toNat, b := min 4095 v2.toNat }) ∧
      (kind = 1 → ∃ e : Fin 32, e.val = v0.toNat ∧ c = .palette e) := by
  obtain ⟨direct, palette⟩ := h
  refine ⟨fun zero => direct (by rw [zero]; rfl), fun one => ?_⟩
  obtain ⟨e, same, named⟩ := palette (by rw [one]; rfl)
  exact ⟨e, named, same⟩

/-- The state after a cue has been modified (R21, R26). -/
def State.modify (g : Option (Fin 8)) (s : State) (k : Fin 48) (c : Cue) (d : Descriptor) (mask : BitVec 16) : State :=
  s.replaceCue g k (c.modified d mask s.signals)

/-- What MODIFY_CUE makes of the cue's slot. -/
theorem State.modify_slot (g) (s : State) (k j : Fin 48) (c d mask) : (s.modify g k c d mask).cues.slots[j] =
    if j = k then { gen := s.cues.slots[k].gen, cue := some (c.modified d mask s.signals) } else s.cues.slots[j] := by
  rw [State.modify, State.replaceCue, State.zoneEvents_cues, State.putCue_slot]

theorem State.modify_raises (g) (s : State) (k) (c : Cue) {d : Descriptor} (zones : d.zones = c.desc.zones) (mask) :
    RaisesEvents c.desc.zones g s (s.modify g k c d mask) := by
  rw [← zones]
  exact State.zoneEvents_raises g (s.putCue k (c.modified d mask s.signals)) d.zones

section
variable {h : Header} {handle mask : BitVec 16} {r : RawDescriptor} {s : State} {k : Fin 48} {c : Cue}

/-- The block of MODIFY_CUE (R14, R20, R21). -/
def modifyBlock (h : Header) (handle mask : BitVec 16) (d : RawDescriptor) (s : State) (g : Option (Fin 8)) : Verdict :=
  match s.resolve handle with
  | none => .refuse .notFound .empty
  | some (k, c) =>
    guardWith (c.owner != h.client) .denied <| guardWith c.phase.isFadingOut .wrongState <|
      require h.reservedOk <| requireSome (c.desc.modified mask d) fun d =>
        .accept d.2 .empty (s.replaceCue g k (c.modified d.1 mask s.signals))

theorem modifyCue_frame : exec (.modifyCue h handle mask r) s =
    s.takeOpen 38 h fun s => guarded h s (modifyBlock h handle mask r s) := rfl

theorem modifyBlock_owned (names : Names s handle k c) (own : c.owner = h.client) (on : c.phase.isFadingOut = false) (g) :
    modifyBlock h handle mask r s g = require h.reservedOk (requireSome (c.desc.modified mask r) fun d =>
      .accept d.2 .empty (s.modify g k c d.1 mask)) := by
  simp only [modifyBlock, State.resolve_names names, guardWith_false (bne_eq_false_iff_eq.2 own), guardWith_false on]
  rfl

theorem modifyBlock_accepts (names : Names s handle k c) (own : c.owner = h.client) (on : c.phase.isFadingOut = false)
    (clear : h.reserved = 0) {d' altered} (read : c.desc.modified mask r = some (d', altered)) (g) :
    modifyBlock h handle mask r s g = .accept altered .empty (s.modify g k c d' mask) := by
  rw [modifyBlock_owned names own on, require_true (Header.reservedOk_true clear), requireSome_some read]

theorem modifyBlock_refused (names : Names s handle k c) (own : c.owner = h.client) (on : c.phase.isFadingOut = false)
    (bad : h.reserved ≠ 0 ∨ RefusedModify c.desc mask r) (g) :
    modifyBlock h handle mask r s g = .refuse .badValue .empty := by
  rw [modifyBlock_owned names own on]
  rcases bad with set | bad
  · rw [require_false (Header.reservedOk_false set)]
  · rw [requireSome_none ((Descriptor.modified_eq_none _ _ _).2 bad)]
    cases h.reservedOk <;> rfl

end

/-- Settles O23, by the fields of the change, each picked by its mask bit. -/
theorem modifyCueReplacesNamedFields : Obligations.ModifyCueReplacesNamedFields := by
  refine ⟨fun h handle mask r k c s reaches clear noGuard names own on =>
      ⟨Descriptor.modified_eq_none _ _ _, fun d' altered read => ⟨Descriptor.modified_altered read, ?_⟩, fun bad => ?_⟩,
    fun h handle mask r s reaches passes => ⟨fun none' => ?_, fun k c names =>
      ⟨fun other => ?_, fun own fades => ?_, fun own on bad => ?_⟩⟩⟩
  · obtain ⟨t, run, answers, stored⟩ := open_done reaches modifyCue_frame
      ((guarded_none noGuard _).trans (modifyBlock_accepts names own on clear read none))
    have raised := (State.modify_raises none s k c (Descriptor.modified_zones read) mask).stored stored
    obtain ⟨a, b, e, gate, ha, hb, he, hg, rfl, -⟩ := Descriptor.modified_eq_some read
    have cues : t.cues = (s.modify none k c _ mask).cues := stored.field .cues
    refine ⟨t, run, answers, ?_, ⟨rfl, rfl, rfl, rfl, rfl⟩, rfl, rfl, ⟨fun off => ?_, fun set zero => ?_, fun set one => ?_,
      fun plain => ?_, fun grad off => ?_, fun grad set zero => ?_, fun grad set one => ?_⟩, fun off => ?_, fun set => ?_,
      fun off => ?_, fun set => ?_, fun j other => ?_, ?_, ?_, raised,
      OnlyChanges.answered (s.replaceCue_only _ _ _) stored⟩
    · rw [cues, State.modify_slot, if_pos rfl]
      rfl
    · obtain ⟨on, -⟩ | ⟨-, rfl⟩ := picked_eq_some ha
      · rw [off] at on; cases on
      · rfl
    · obtain ⟨-, taken⟩ | ⟨off, -⟩ := picked_eq_some ha
      · exact (storedColour_kinds (colourOf_eq_some taken).1).1 zero
      · rw [off] at set; cases set
    · obtain ⟨-, taken⟩ | ⟨off, -⟩ := picked_eq_some ha
      · exact (storedColour_kinds (colourOf_eq_some taken).1).2 one
      · rw [off] at set; cases set
    · exact storedB_other plain _
    · obtain ⟨on, -⟩ | ⟨-, rfl⟩ := picked_eq_some hb
      · rw [off] at on; cases on
      · exact storedB_gradient grad _
    · obtain ⟨-, taken⟩ | ⟨off, -⟩ := picked_eq_some hb
      · obtain ⟨x, same, stored'⟩ := (colourBOf_eq_some taken).2.1 (by rw [zero]; decide)
        rw [← (storedColour_kinds stored').1 zero, ← same]
        exact storedB_gradient grad _
      · rw [off] at set; cases set
    · obtain ⟨-, taken⟩ | ⟨off, -⟩ := picked_eq_some hb
      · obtain ⟨x, same, stored'⟩ := (colourBOf_eq_some taken).2.1 (by rw [one]; decide)
        obtain ⟨e', named, same'⟩ := (storedColour_kinds stored').2 one
        exact ⟨e', named, (storedB_gradient grad _).trans (same.trans (congrArg some same'))⟩
      · rw [off] at set; cases set
    · obtain ⟨on, -⟩ | ⟨-, rfl⟩ := picked_eq_some he
      · rw [off] at on; cases on
      · rfl
    · obtain ⟨-, taken⟩ | ⟨off, -⟩ := picked_eq_some he
      · obtain ⟨solid, pulse, sweep, gradient⟩ := (effectOf_eq_some taken).1
        exact ⟨fun x => solid (by rw [x]; rfl), fun x => pulse (by rw [x]; rfl), fun x => sweep (by rw [x]; rfl),
          fun x => gradient (by rw [x]; rfl)⟩
      · rw [off] at set; cases set
    · rw [off] at hg
      exact (Option.some.inj hg).symm
    · rw [set] at hg
      exact gateOf_eq_some hg
    · rw [cues, State.modify_slot, if_neg other]
    · rw [cues, State.modify, State.replaceCue, State.zoneEvents_cues]
      rfl
    · rw [cues, State.modify, State.replaceCue, State.zoneEvents_cues]
      rfl
  · exact open_refused reaches modifyCue_frame ((guarded_none noGuard _).trans (modifyBlock_refused names own on (.inr bad) none))
  · exact open_refused reaches modifyCue_frame
      (guarded_passes passes fun g => by simp only [modifyBlock, State.resolve_none none'])
  · exact open_refused reaches modifyCue_frame (guarded_passes passes fun g => by
      simp only [modifyBlock, State.resolve_names names, guardWith_true (bne_iff_ne.2 other)])
  · exact open_refused reaches modifyCue_frame (guarded_passes passes fun g => by
      simp only [modifyBlock, State.resolve_names names, guardWith_false (bne_eq_false_iff_eq.2 own), guardWith_true fades])
  · exact open_refused reaches modifyCue_frame (guarded_passes passes (modifyBlock_refused names own on bad))

end Sys2Proof.Machine

/-! PROOFS. The posting of a cue (chapter 1): the purge, the eviction and the lowest free slot. -/

namespace Sys2Proof.Machine

open Sys2Proof

/-! ## One fade-out (R10) -/

/-- The state after a cue has begun its fade-out and has joined the retiring list, before an exit fade time of 0 frees it. -/
def State.fadeStarted (g : Option (Fin 8)) (s : State) (k : Fin 48) (c : Cue) (n : Nat) : State :=
  (s.setCues (s.cues.startFade k (c.fading n))).zoneEvents g c.desc.zones

section
variable {s : State} {k : Fin 48} {c : Cue}

theorem State.beginFade_started (live : s.cues.slots[k].cue = some c) (on : c.phase.isFadingOut = false) (g exit) :
    s.beginFade g exit k = if exit c = 0 then (s.fadeStarted g k c (exit c)).freeSlot g k
      else s.fadeStarted g k c (exit c) := by
  simp only [State.beginFade, State.cueAt, live, on, Bool.false_eq_true, if_false]
  rfl

variable (s k c)

theorem State.fadeStarted_cues (g n) : (s.fadeStarted g k c n).cues = s.cues.startFade k (c.fading n) :=
  State.zoneEvents_cues _ _ _

theorem State.fadeStarted_only (g n) : OnlyChanges [.cues, .zones, .watches] s (s.fadeStarted g k c n) :=
  ((OnlyChanges.refl _ s).then (s.setCues_only _)).then (State.zoneEvents_only _ _ _)

theorem State.fadeStarted_raises (g n) : RaisesEvents c.desc.zones g s (s.fadeStarted g k c n) :=
  State.zoneEvents_raises g (s.setCues (s.cues.startFade k (c.fading n))) c.desc.zones

theorem State.fadeStarted_self (g n) :
    (s.fadeStarted g k c n).cues.slots[k] = { gen := s.cues.slots[k].gen, cue := some (c.fading n) } := by
  rw [State.fadeStarted_cues]
  exact getElem_modifyAt_self _ _ _

end

/-! ## The purge (R15) -/

/-- A list of cues that may begin their fade-outs: each live and not fading, each once. -/
def State.mayFade (s : State) (ks : List (Fin 48)) : Prop :=
  ks.Nodup ∧ ∀ k ∈ ks, ∃ c, s.cues.slots[k].cue = some c ∧ c.phase.isFadingOut = false

theorem State.mayFade.tail {s t : State} {k : Fin 48} {ks : List (Fin 48)} (h : s.mayFade (k :: ks))
    (others : ∀ j : Fin 48, j ≠ k → t.cues.slots[j] = s.cues.slots[j]) : t.mayFade ks := by
  obtain ⟨nodup, each⟩ := h
  obtain ⟨fresh, nodup⟩ := List.nodup_cons.1 nodup
  refine ⟨nodup, fun j hj => ?_⟩
  rw [others j fun e => fresh (e ▸ hj)]
  exact each j (List.mem_cons_of_mem _ hj)

theorem CueSlot.faded_const {x : CueSlot} {c : Cue} (live : x.cue = some c) (on : c.phase.isFadingOut = false) (n : Nat) :
    x.faded (fun _ => n) = if n = 0 then { gen := x.gen, cue := none } else x.fading n := by
  simp only [CueSlot.faded, CueSlot.fading, live, Option.bind_some, on, Bool.false_eq_true, if_false, Option.map_some]
  split <;> rfl

section
variable {s : State} {ks : List (Fin 48)} (may : s.mayFade ks) (g : Option (Fin 8))
include may

/-- The slots after a purge: each cue of the list fades, or is free where the new fade-in time is 0. -/
theorem State.purge_slot (n : Nat) (j : Fin 48) :
    (ks.foldl (State.beginFade g fun _ => n) s).cues.slots[j] =
      if j ∈ ks then (if n = 0 then { gen := s.cues.slots[j].gen, cue := none } else s.cues.slots[j].fading n)
      else s.cues.slots[j] := by
  rw [State.foldl_beginFade_slots]
  split
  · next mem =>
    obtain ⟨c, live, on⟩ := may.2 j mem
    rw [CueSlot.faded_const live on]
  · rfl

/-- A purge with a fade-in time above 0 appends its cues to the retiring list and raises an event for each of their zones. -/
theorem State.purge_long {n : Nat} (long : n ≠ 0) :
    (ks.foldl (State.beginFade g fun _ => n) s).cues.postOrder = s.cues.postOrder ∧
      (ks.foldl (State.beginFade g fun _ => n) s).cues.retiring = s.cues.retiring ++ ks ∧
      (∀ z : Fin 16, (ks.foldl (State.beginFade g fun _ => n) s).zones[z] = { s.zones[z] with
        count := s.zones[z].count + BitVec.ofNat 16 (ks.countP fun j =>
          s.cues.slots[j].cue.any fun c => c.desc.zones.getLsbD z) }) ∧
      OnlyChanges [.cues, .zones, .watches] s (ks.foldl (State.beginFade g fun _ => n) s) := by
  induction ks generalizing s with
  | nil => exact ⟨rfl, (List.append_nil _).symm, fun z => by simp, .refl _ _⟩
  | cons k ks ih =>
    obtain ⟨c, live, on⟩ := may.2 k List.mem_cons_self
    have step : s.beginFade g (fun _ => n) k = s.fadeStarted g k c n := by
      rw [State.beginFade_started live on, if_neg long]
    have others : ∀ j : Fin 48, j ≠ k → (s.fadeStarted g k c n).cues.slots[j] = s.cues.slots[j] := fun j other => by
      rw [State.fadeStarted_cues]
      exact getElem_modifyAt_ne _ _ other
    obtain ⟨post, retiring, zones, only⟩ := ih (may.tail others)
    rw [List.foldl_cons, step]
    refine ⟨post.trans ?_, retiring.trans ?_, fun z => (zones z).trans ?_, (s.fadeStarted_only k c g n).trans only⟩
    · rw [State.fadeStarted_cues]; rfl
    · rw [State.fadeStarted_cues]
      exact List.append_assoc _ _ _
    · have same : (ks.countP fun j => (s.fadeStarted g k c n).cues.slots[j].cue.any fun c => c.desc.zones.getLsbD z) =
          ks.countP fun j => s.cues.slots[j].cue.any fun c => c.desc.zones.getLsbD z :=
        List.countP_congr fun j hj => by
          rw [others j fun e => (List.nodup_cons.1 may.1).1 (e ▸ hj)]
      rw [same, (s.fadeStarted_raises k c g n).1 z, List.countP_cons, live, Option.any_some, BitVec.ofNat_add]
      generalize BitVec.ofNat 16 (ks.countP _) = m
      split <;> simp [BitVec.add_assoc, BitVec.add_comm]

/-- A purge with a fade-in time of 0 takes its cues out of both lists. -/
theorem State.purge_zero (fresh : ∀ k ∈ ks, k ∉ s.cues.retiring) :
    (ks.foldl (State.beginFade g fun _ => 0) s).cues.postOrder = (s.cues.postOrder.filter fun j => decide (j ∉ ks)) ∧
      (ks.foldl (State.beginFade g fun _ => 0) s).cues.retiring = s.cues.retiring ∧
      OnlyChanges [.cues, .zones, .watches, .seq] s (ks.foldl (State.beginFade g fun _ => 0) s) := by
  induction ks generalizing s with
  | nil => exact ⟨by simp, rfl, .refl _ _⟩
  | cons k ks ih =>
    obtain ⟨c, live, on⟩ := may.2 k List.mem_cons_self
    have fadingLive : (s.fadeStarted g k c 0).cues.slots[k].cue = some (c.fading 0) := by rw [State.fadeStarted_self]
    have cues : (s.beginFade g (fun _ => 0) k).cues = (s.cues.startFade k (c.fading 0)).remove k := by
      rw [State.beginFade_started live on, if_pos rfl, (State.freeSlot_some fadingLive).1, State.fadeStarted_cues]
    have retiring : (s.beginFade g (fun _ => 0) k).cues.retiring = s.cues.retiring := by
      rw [cues]
      change (s.cues.retiring ++ [k]).filter _ = _
      rw [List.filter_append, filter_ne_self (fresh k List.mem_cons_self)]
      simp
    have others : ∀ j : Fin 48, j ≠ k → (s.beginFade g (fun _ => 0) k).cues.slots[j] = s.cues.slots[j] := fun j other => by
      rw [State.beginFade_slots, if_neg other]
    obtain ⟨post, retiring', only⟩ := ih (may.tail others) fun j hj => retiring ▸ fresh j (List.mem_cons_of_mem _ hj)
    refine ⟨post.trans ?_, retiring'.trans retiring, (s.beginFade_only _ _ _).trans only⟩
    rw [cues]
    change List.filter _ (s.cues.postOrder.filter _) = _
    rw [List.filter_filter]
    refine List.filter_congr fun j _ => ?_
    by_cases e : j = k <;> simp [e]

end

/-! ## The cues that a posting purges -/

theorem mem_purged {s : State} (inv : CueInv s) {o tag d} {k : Fin 48} :
    k ∈ s.purged o tag d ↔ s.cues.slots[k].cue.any (fun c => c.purgedBy k o tag d) = true := by
  rw [State.purged, List.mem_filter, inv.2.2.1 k, State.cueAt]
  cases s.cues.slots[k].cue <;> simp

theorem State.purged_mayFade {s : State} (inv : CueInv s) (o tag d) : s.mayFade (s.purged o tag d) := by
  refine ⟨inv.1.filter _, fun k mem => ?_⟩
  obtain ⟨c, live, purged⟩ := (Option.any_eq_true _ _).1 ((mem_purged inv).1 mem)
  refine ⟨c, live, ?_⟩
  simp only [Cue.purgedBy, Bool.and_eq_true, Bool.not_eq_true'] at purged
  exact purged.1.1.1.1.2

theorem State.purged_not_retiring {s : State} (inv : CueInv s) {o tag d k} (mem : k ∈ s.purged o tag d) :
    k ∉ s.cues.retiring := by
  obtain ⟨c, live, on⟩ := (State.purged_mayFade inv o tag d).2 k mem
  rw [inv.2.2.2 k, live, Option.any_some, on]
  exact Bool.false_ne_true

theorem State.purged_transient {s : State} {o tag d k} (mem : k ∈ s.purged o tag d) : 8 ≤ k.val := by
  obtain ⟨c, -, purged⟩ := (Option.any_eq_true _ _).1 (List.mem_filter.1 mem).2
  simp only [Cue.purgedBy, Bool.and_eq_true, transient, decide_eq_true_eq] at purged
  exact purged.1.1.1.1.1

/-- What a client purges, in the words of R15. -/
theorem isPurged_eq (s : State) (o d) (k : Fin 48) :
    (s.cueAt k).any (fun c => c.purgedBy k o none d) = isPurged s o d k := by
  unfold isPurged State.cueAt
  cases s.cues.slots[k].cue with
  | none => simp
  | some c =>
    rw [Bool.eq_iff_iff]
    simp only [Option.any_some, Cue.purgedBy, transient, Option.all_none, Bool.and_true, Bool.and_eq_true, decide_eq_true_eq]
    tauto

theorem State.purged_eq (s : State) (o d) : s.purged o none d = purgedCues s o d :=
  List.filter_congr fun k _ => isPurged_eq s o d k

/-- What a runner's POST purges, in the words of R15. -/
theorem isRunPurged_eq (s : State) (r l d) (k : Fin 48) :
    (s.cueAt k).any (fun c => c.purgedBy k 7 (some { runner := r, label := l }) d) = isRunPurged s r d k := by
  unfold isRunPurged isPurged State.cueAt
  cases s.cues.slots[k].cue with
  | none => simp
  | some c =>
    rw [Bool.eq_iff_iff]
    simp only [Option.any_some, Cue.purgedBy, Cue.ranBy, transient, Option.all_some, Bool.and_eq_true, decide_eq_true_eq]
    tauto

theorem State.runPurged_eq (s : State) (r l d) : s.purged 7 (some { runner := r, label := l }) d = runPurged s r d :=
  List.filter_congr fun k _ => isRunPurged_eq s r l d k

/-! ## Free slots and the lowest cue (R1, R16) -/

theorem CueTable.freeTransient_eq {t : CueTable} {k : Fin 48} (hi : 8 ≤ k.val) (free : t.slots[k].cue = none)
    (below : ∀ j : Fin 48, 8 ≤ j.val → j < k → t.slots[j].cue ≠ none) : t.freeTransient = some k := by
  refine find_lowest ?_ fun j lt => ?_
  · rw [transient, decide_eq_true hi, free]; rfl
  · by_cases hi : 8 ≤ j.val
    · rw [Option.isNone_eq_false_iff.2 (Option.isSome_iff_ne_none.2 (below j hi lt)), Bool.and_false]
    · rw [transient, decide_eq_false hi, Bool.false_and]

theorem CueTable.freeTransient_none {t : CueTable} (full : ∀ j : Fin 48, 8 ≤ j.val → t.slots[j].cue ≠ none) :
    t.freeTransient = none := by
  refine find_nowhere fun j => ?_
  by_cases hi : 8 ≤ j.val
  · rw [Option.isNone_eq_false_iff.2 (Option.isSome_iff_ne_none.2 (full j hi)), Bool.and_false]
  · rw [transient, decide_eq_false hi, Bool.false_and]

theorem Layer.rank_inj {l m : Layer} (h : l.rank = m.rank) : l = m := by
  cases l <;> cases m <;> first | rfl | exact absurd h (by decide)

theorem Descriptor.above_iff (d e : Descriptor) : d.above e = true ↔
    e.layer.rank < d.layer.rank ∨ (d.layer.rank = e.layer.rank ∧ e.priority < d.priority) := by
  simp only [Descriptor.above, Bool.or_eq_true, Bool.and_eq_true, decide_eq_true_eq, beq_iff_eq]
  exact or_congr_right (and_congr_left fun _ => ⟨congrArg _, Layer.rank_inj⟩)

theorem ranksAbove_iff (d e : Descriptor) : ranksAbove d e ↔ d.above e = true := by
  rw [Descriptor.above_iff]
  exact or_congr_right (and_congr_left fun _ => ⟨congrArg _, Layer.rank_inj⟩)

/-- One step of the search for the lowest cue (R16). -/
def State.lower (s : State) (best : Option (Fin 48)) (k : Fin 48) : Option (Fin 48) :=
  if !transient k then best
  else
    match best, s.cueAt k with
    | none, some _ => some k
    | some j, some c => if (s.cueAt j).any fun b => b.desc.above c.desc then some k else best
    | _, none => best

theorem State.lowestCue_eq (s : State) : s.lowestCue = s.cues.postOrder.foldl s.lower none := rfl

section
variable {s : State} {k : Fin 48}

theorem State.lower_pinned (h : k.val < 8) (best) : s.lower best k = best := by
  simp only [State.lower, transient, decide_eq_false (show ¬ 8 ≤ k.val by omega), Bool.not_false, if_true]

variable (h : 8 ≤ k.val) {c : Cue} (live : s.cues.slots[k].cue = some c)
include h live

theorem State.lower_first : s.lower none k = some k := by
  simp only [State.lower, transient, decide_eq_true h, State.cueAt, live, Bool.not_true, Bool.false_eq_true, if_false]

theorem State.lower_next {j : Fin 48} {b : Cue} (best : s.cues.slots[j].cue = some b) :
    s.lower (some j) k = if b.desc.above c.desc then some k else some j := by
  simp only [State.lower, transient, decide_eq_true h, State.cueAt, live, best, Bool.not_true, Bool.false_eq_true, if_false,
    Option.any_some]

end

/-- Slot `j` holds the lowest transient cue of a list: every other ranks above it, or as it and comes later. -/
def State.isLowest (s : State) (l : List (Fin 48)) (j : Fin 48) : Prop :=
  j ∈ l ∧ 8 ≤ j.val ∧ ∃ c, s.cues.slots[j].cue = some c ∧
    ∀ i ∈ l, 8 ≤ i.val → i ≠ j → ∀ e, s.cues.slots[i].cue = some e →
      e.desc.above c.desc = true ∨ (c.desc.above e.desc = false ∧ l.idxOf j < l.idxOf i)

theorem Descriptor.above_false_iff (d e : Descriptor) : d.above e = false ↔
    ¬ (e.layer.rank < d.layer.rank ∨ (d.layer.rank = e.layer.rank ∧ e.priority < d.priority)) := by
  rw [← Descriptor.above_iff, Bool.not_eq_true]

/-- The search finds the lowest transient cue of a list, if the list has a transient cue (R16). -/
theorem State.foldl_lower {s : State} (l : List (Fin 48)) (nodup : l.Nodup)
    (live : ∀ k ∈ l, ∃ c, s.cues.slots[k].cue = some c) :
    (l.foldl s.lower none = none ∧ ∀ k ∈ l, k.val < 8) ∨ ∃ j, l.foldl s.lower none = some j ∧ s.isLowest l j := by
  induction l using List.reverseRecOn with
  | nil => exact .inl ⟨rfl, nofun⟩
  | append_singleton l k ih =>
    obtain ⟨c, hc⟩ := live k (by simp)
    have nodup' := List.nodup_append.1 nodup
    have fresh : k ∉ l := fun mem => nodup'.2.2 k mem k List.mem_cons_self rfl
    have place : ∀ {i}, i ∈ l → (l ++ [k]).idxOf i = l.idxOf i := fun mem => List.idxOf_append_of_mem mem
    have placeLast : (l ++ [k]).idxOf k = l.length := by
      rw [List.idxOf_append_of_notMem fresh, List.idxOf_cons_self, Nat.add_zero]
    rw [List.foldl_append, List.foldl_cons, List.foldl_nil]
    by_cases hi : 8 ≤ k.val
    · rcases ih nodup'.1 fun j mem => live j (List.mem_append_left _ mem) with ⟨none', pinned⟩ | ⟨j, best, mem, hj, b, hb, least⟩
      · rw [none', State.lower_first hi hc]
        refine .inr ⟨k, rfl, by simp, hi, c, hc, fun i mem hi' ne => ?_⟩
        rcases List.mem_append.1 mem with mem | mem
        · exact absurd (pinned i mem) (by omega)
        · exact absurd (List.mem_singleton.1 mem) ne
      · rw [best, State.lower_next hi hc hb]
        refine .inr ?_
        split
        · next lower =>
          refine ⟨k, rfl, by simp, hi, c, hc, fun i mem hi' ne e he => .inl ?_⟩
          have mem : i ∈ l := (List.mem_append.1 mem).resolve_right fun m => ne (List.mem_singleton.1 m)
          by_cases same : i = j
          · subst same
            rw [hb] at he
            cases he
            exact lower
          · have ranks := least i mem hi' same e he
            rw [Descriptor.above_iff, Descriptor.above_false_iff] at ranks
            rw [Descriptor.above_iff] at lower ⊢
            omega
        · next higher =>
          refine ⟨j, rfl, List.mem_append_left _ mem, hj, b, hb, fun i mem' hi' ne e he => ?_⟩
          rw [place mem]
          rcases List.mem_append.1 mem' with mem' | last
          · rw [place mem']
            exact least i mem' hi' ne e he
          · obtain rfl := List.mem_singleton.1 last
            rw [hc] at he
            cases he
            exact .inr ⟨Bool.not_eq_true _ ▸ higher, placeLast ▸ List.idxOf_lt_length_of_mem mem⟩
    · rw [State.lower_pinned (by omega)]
      have old : ∀ {i}, i ∈ l ++ [k] → 8 ≤ i.val → i ∈ l := fun {i} mem hi' =>
        (List.mem_append.1 mem).resolve_right fun m => hi (List.mem_singleton.1 m ▸ hi')
      rcases ih nodup'.1 fun j mem => live j (List.mem_append_left _ mem) with ⟨none', pinned⟩ | ⟨j, best, mem, hj, b, hb, least⟩
      · refine .inl ⟨none', fun i mem => ?_⟩
        by_contra hi'
        exact hi' (pinned i (old mem (by omega)))
      · refine .inr ⟨j, best, List.mem_append_left _ mem, hj, b, hb, fun i mem' hi' ne e he => ?_⟩
        rw [place mem, place (old mem' hi')]
        exact least i (old mem' hi') hi' ne e he

theorem State.lowestCue_cases {s : State} (inv : CueInv s) : (s.lowestCue = none ∧ ∀ k ∈ s.cues.postOrder, k.val < 8) ∨
    ∃ j, s.lowestCue = some j ∧ s.isLowest s.cues.postOrder j :=
  State.foldl_lower _ inv.1 fun k mem => Option.isSome_iff_exists.1 ((inv.2.2.1 k).1 mem)

/-! ## Room (R16, R17) -/

section
variable {s : State} {ps : List (Fin 48)} {d : Descriptor}

theorem State.room_free {k} (free : s.cues.freeTransient = some k) : s.room ps d = .free := by
  simp only [State.room, free, Option.isSome_some, if_true]

theorem State.room_purge (zero : d.fadeIn = 0) (some' : ps ≠ []) : s.room ps d = .free := by
  simp only [State.room, zero, ne_eq, some', not_false_eq_true, and_self, if_true, ite_self]

variable (full : ∀ j : Fin 48, 8 ≤ j.val → s.cues.slots[j].cue ≠ none) (inv : CueInv s)
include full

theorem State.room_full (keeps : d.fadeIn ≠ 0 ∨ ps = []) : s.room ps d =
    match (s.cues.retiring ++ ps).find? transient with
    | some k => .evict k
    | none =>
      match s.lowestCue with
      | none => .refused
      | some k => if (s.cueAt k).any fun c => d.above c.desc then .evict k else .refused := by
  have no : ¬ (d.fadeIn = 0 ∧ ps ≠ []) := fun both => keeps.elim (· both.1) both.2
  rw [State.room, CueTable.freeTransient_none full, if_neg (by simp), if_neg no] <;> rfl

include inv

/-- The cue that R16 and R17 name is the one that is evicted. -/
theorem State.room_evicts {k c} (hi : 8 ≤ k.val) (live : s.cues.slots[k].cue = some c) (evicts : Evicts s ps d k c) :
    s.room ps d = .evict k := by
  rcases evicts with ⟨keeps, first⟩ | ⟨rfl, none', ranks, lowest⟩
  · rw [State.room_full full keeps]
    change (match (s.cues.retiring ++ ps).find? (fun j => decide (8 ≤ j.val)) with
      | some k => Room.evict k
      | none => _) = _
    rw [first]
  · rw [State.room_full full (.inr rfl), List.append_nil, List.find?_eq_none.2 fun j mem => by
      rw [transient, decide_eq_true_eq]
      exact Nat.not_le.2 (none' j mem)]
    have mem : k ∈ s.cues.postOrder := (inv.2.2.1 k).2 (by rw [live]; rfl)
    rcases State.lowestCue_cases inv with ⟨-, pinned⟩ | ⟨j, found, memj, hj, b, hb, least⟩
    · exact absurd (pinned k mem) (by omega)
    · have same : j = k := by
        by_contra ne
        have one := least k mem hi (Ne.symm ne) c live
        have two := lowest j b hj ne hb
        rw [Descriptor.above_iff, Descriptor.above_false_iff] at one
        rw [ranksAbove_iff, Descriptor.above_iff] at two
        rcases two with two | ⟨layer, priority, before⟩
        · omega
        · rw [layer] at one
          omega
      subst same
      rw [live] at hb
      cases hb
      simp only [found, State.cueAt, live, Option.any_some, (ranksAbove_iff _ _).1 ranks, if_true]

/-- A new cue that ranks above no transient cue finds no room (R17). -/
theorem State.room_refused (none' : ∀ j ∈ s.cues.retiring, j.val < 8)
    (low : ∀ (j : Fin 48) (e : Cue), 8 ≤ j.val → s.cues.slots[j].cue = some e → ¬ ranksAbove d e.desc) :
    s.room [] d = .refused := by
  rw [State.room_full full (.inr rfl), List.append_nil, List.find?_eq_none.2 fun j mem => by
    rw [transient, decide_eq_true_eq]
    exact Nat.not_le.2 (none' j mem)]
  rcases State.lowestCue_cases inv with ⟨found, -⟩ | ⟨j, found, memj, hj, b, hb, -⟩
  · simp only [found]
  · have below : d.above b.desc = false := by
      rw [← Bool.not_eq_true, ← ranksAbove_iff]
      exact low j b hj hb
    simp only [found, State.cueAt, hb, Option.any_some, below, Bool.false_eq_true, if_false]

end

/-! ## Posting (R18) -/

/-- A posting for which room is made writes the cue in the lowest free transient slot. -/
theorem State.post_eq {g} {s u : State} {o tag d k} (room : s.room (s.purged o tag d) d ≠ .refused)
    (made : s.makeRoom g (s.purged o tag d) d (s.room (s.purged o tag d) d) = u) (free : u.cues.freeTransient = some k) :
    s.post g o tag d = some (k, u.writeCue g k o tag d) := by
  simp only [State.post, if_neg room, made, free, Option.map_some]

/-- What a posting may change before it writes its cue. -/
abbrev roomFields : List Field := [.cues, .zones, .watches, .seq, .notices, .noticeLow]

/-- What is written after room has been made. -/
theorem State.writeCue_after {s u : State} {k : Fin 48} (only : OnlyChanges roomFields s u)
    (gen : u.cues.slots[k].gen = s.cues.slots[k].gen) (g o tag d) :
    (u.writeCue g k o tag d).cues.slots[k] = { gen := s.cues.slots[k].gen + 1, cue := some (writtenCue s o tag d) } ∧
      (u.writeCue g k o tag d).handleAt k = { slot := k, gen := s.cues.slots[k].gen + 1 } ∧
      (u.writeCue g k o tag d).power = s.power.reloadDark := by
  refine ⟨?_, ?_, ?_⟩
  · rw [State.writeCue_slot, if_pos rfl, gen, writtenCue_congr (only.field .signals)]
  · rw [State.writeCue_handle, gen]
  · rw [State.writeCue_power, show u.power = s.power from only.field .power]

theorem State.evict_some {g} {s : State} {k : Fin 48} {c : Cue} (live : s.cues.slots[k].cue = some c) :
    s.evict g k = (s.freeSlot g k).raise .cueEvicted (.client c.owner) (.number k) := by
  simp only [State.evict, State.cueAt, live]

theorem State.evict_gen (g) (s : State) (k j : Fin 48) : (s.evict g k).cues.slots[j].gen = s.cues.slots[j].gen := by
  cases live : s.cues.slots[k].cue with
  | none => simp only [State.evict, State.cueAt, live]
  | some c =>
    rw [State.evict_some live]
    exact State.freeSlot_gen _ _ _ _

theorem State.makeRoom_gen (g) (s : State) (ks d r) (j : Fin 48) :
    (s.makeRoom g ks d r).cues.slots[j].gen = s.cues.slots[j].gen := by
  have purge : (ks.foldl (State.beginFade g fun _ => d.fadeIn) s).cues.slots[j].gen = s.cues.slots[j].gen := by
    rw [State.foldl_beginFade_slots]
    split <;> rfl
  unfold State.makeRoom
  split
  · exact (State.evict_gen _ _ _ _).trans purge
  · exact purge

/-- What a posting that succeeds has written, whatever it purged or evicted (R18). -/
theorem State.post_written {g} {s t : State} {o tag d k} (posted : s.post g o tag d = some (k, t)) :
    8 ≤ k.val ∧ t.cues.slots[k] = { gen := s.cues.slots[k].gen + 1, cue := some (writtenCue s o tag d) } ∧
      t.handleAt k = { slot := k, gen := s.cues.slots[k].gen + 1 } ∧ t.cues.postOrder.getLast? = some k := by
  obtain ⟨-, u, rfl, free, rfl⟩ := State.post_eq_some posted
  obtain ⟨written, handle, -⟩ := State.writeCue_after (s.makeRoom_only _ _ _ _) (State.makeRoom_gen _ _ _ _ _ k) g o tag d
  refine ⟨of_decide_eq_true (CueTable.freeTransient_free free).1, written, handle, ?_⟩
  rw [State.writeCue_cues]
  exact List.getLast?_concat

section
variable {s : State} {o : BitVec 3} {tag : Option RunnerTag} {d : Descriptor} {k : Fin 48} (g : Option (Fin 8))

/-- A posting that purges nothing while a slot is free takes the lowest free one (R1, R18). -/
theorem State.post_plain (hi : 8 ≤ k.val) (free : s.cues.slots[k].cue = none)
    (below : ∀ j : Fin 48, 8 ≤ j.val → j < k → s.cues.slots[j].cue ≠ none) (purges : s.purged o tag d = []) :
    s.post g o tag d = some (k, s.writeCue g k o tag d) := by
  have slot := CueTable.freeTransient_eq hi free below
  have room : s.room (s.purged o tag d) d = .free := State.room_free slot
  exact State.post_eq (by rw [room]; nofun) (by rw [room, purges]; rfl) slot

/-- The state after the purge of a posting. -/
def State.afterPurge (g : Option (Fin 8)) (s : State) (o : BitVec 3) (tag : Option RunnerTag) (d : Descriptor) : State :=
  (s.purged o tag d).foldl (State.beginFade g fun _ => d.fadeIn) s

variable (inv : CueInv s)
include inv

theorem State.afterPurge_slot (j : Fin 48) : (s.afterPurge g o tag d).cues.slots[j] =
    if j ∈ s.purged o tag d then
      (if d.fadeIn = 0 then { gen := s.cues.slots[j].gen, cue := none } else s.cues.slots[j].fading d.fadeIn)
    else s.cues.slots[j] := State.purge_slot (State.purged_mayFade inv o tag d) g _ j

theorem State.afterPurge_gen (j : Fin 48) : (s.afterPurge g o tag d).cues.slots[j].gen = s.cues.slots[j].gen := by
  rw [State.afterPurge_slot g inv]
  split
  · split <;> rfl
  · rfl

/-- A cue that a purge does not free stays, with its owner and its tag. -/
theorem State.afterPurge_live (keeps : d.fadeIn ≠ 0 ∨ s.purged o tag d = []) {j : Fin 48} {c : Cue}
    (live : s.cues.slots[j].cue = some c) :
    ∃ c', (s.afterPurge g o tag d).cues.slots[j].cue = some c' ∧ c'.owner = c.owner ∧ c'.tag = c.tag := by
  rw [State.afterPurge_slot g inv]
  split
  · next mem =>
    have long : d.fadeIn ≠ 0 := keeps.resolve_right fun none' => by rw [none'] at mem; cases mem
    rw [if_neg long]
    exact ⟨{ c with phase := .fadingOut 0 d.fadeIn c.fadeEnvelope }, by rw [CueSlot.fading, live]; rfl, rfl, rfl⟩
  · exact ⟨c, live, rfl, rfl⟩

/-- A purge with a fade-in time above 0, while a slot is free (R15, R18). -/
theorem State.post_fades (long : d.fadeIn ≠ 0) (hi : 8 ≤ k.val) (free : s.cues.slots[k].cue = none)
    (below : ∀ j : Fin 48, 8 ≤ j.val → j < k → s.cues.slots[j].cue ≠ none) :
    s.post g o tag d = some (k, (s.afterPurge g o tag d).writeCue g k o tag d) := by
  have room : s.room (s.purged o tag d) d = .free := State.room_free (CueTable.freeTransient_eq hi free below)
  refine State.post_eq (by rw [room]; nofun) (by rw [room]; rfl) (CueTable.freeTransient_eq hi ?_ fun j hj lt => ?_)
  · have live := (State.purged_mayFade inv o tag d).2 k
    rw [State.afterPurge_slot g inv, if_neg fun mem => by
      obtain ⟨c, live, -⟩ := live mem
      rw [free] at live
      cases live]
    exact free
  · obtain ⟨c, live⟩ := Option.ne_none_iff_exists'.1 (below j hj lt)
    obtain ⟨c', live', -⟩ := State.afterPurge_live g inv (o := o) (tag := tag) (.inl long) live
    rw [live']
    exact Option.some_ne_none _

/-- A purge with a fade-in time of 0, which frees its cues (R15, R18). -/
theorem State.post_frees (zero : d.fadeIn = 0) (hi : 8 ≤ k.val)
    (free : s.cues.slots[k].cue = none ∨ k ∈ s.purged o tag d)
    (below : ∀ j : Fin 48, 8 ≤ j.val → j < k → s.cues.slots[j].cue ≠ none ∧ j ∉ s.purged o tag d) :
    s.post g o tag d = some (k, (s.afterPurge g o tag d).writeCue g k o tag d) := by
  have room : s.room (s.purged o tag d) d = .free := by
    rcases free with free | mem
    · exact State.room_free (CueTable.freeTransient_eq hi free fun j hj lt => (below j hj lt).1)
    · exact State.room_purge zero (List.ne_nil_of_mem mem)
  refine State.post_eq (by rw [room]; nofun) (by rw [room]; rfl) (CueTable.freeTransient_eq hi ?_ fun j hj lt => ?_)
  · rw [State.afterPurge_slot g inv]
    by_cases mem : k ∈ s.purged o tag d
    · rw [if_pos mem, if_pos zero]
    · rw [if_neg mem]
      exact free.resolve_right mem
  · rw [State.afterPurge_slot g inv, if_neg (below j hj lt).2]
    exact (below j hj lt).1

/-- A posting into a full table, which evicts the cue that R16 and R17 name. -/
theorem State.post_evicts (hi : 8 ≤ k.val) (full : ∀ j : Fin 48, 8 ≤ j.val → s.cues.slots[j].cue ≠ none) {c : Cue}
    (live : s.cues.slots[k].cue = some c) (evicts : Evicts s (s.purged o tag d) d k c) :
    s.post g o tag d = some (k, ((s.afterPurge g o tag d).evict g k).writeCue g k o tag d) := by
  have room : s.room (s.purged o tag d) d = .evict k := State.room_evicts full inv hi live evicts
  have keeps : d.fadeIn ≠ 0 ∨ s.purged o tag d = [] := evicts.elim And.left fun alone => .inr alone.1
  refine State.post_eq (by rw [room]; nofun) (by rw [room]; rfl) (CueTable.freeTransient_eq hi ?_ fun j hj lt => ?_)
  · obtain ⟨c', live', -⟩ := State.afterPurge_live g inv keeps live
    rw [State.evict_some live']
    exact State.freeSlot_frees _ _ _
  · obtain ⟨c', live', -⟩ := State.afterPurge_live g inv keeps live
    obtain ⟨e, other⟩ := Option.ne_none_iff_exists'.1 (full j hj)
    obtain ⟨e', other', -⟩ := State.afterPurge_live g inv keeps other
    rw [State.evict_some live']
    change ((s.afterPurge g o tag d).freeSlot g k).cues.slots[j].cue ≠ none
    rw [State.freeSlot_slots, if_neg (Fin.ne_of_lt lt), other']
    exact Option.some_ne_none _

end

end Sys2Proof.Machine

/-! PROOFS. POST_CUE, and the guard of the four commands that may carry one (chapters 1 and 4). -/

namespace Sys2Proof.Machine

open Sys2Proof

/-- What a command may change, from what its two steps may change. -/
theorem OnlyChanges.thenAnswered {l m n : List Field} {s u s' t : State} (first : OnlyChanges l s u) (second : OnlyChanges m u s')
    (stored : OnlyChanges [.reply, .sdo] s' t) (sub : ∀ f ∈ l ++ m ++ [.reply, .sdo], f ∈ n := by decide) :
    OnlyChanges n s t :=
  OnlyChanges.answered (l := l ++ m) ((first.mono fun f h => List.mem_append_left _ h).then second
    fun f h => List.mem_append_right _ h) stored sub

/-! ## Guards (R73, R74, R76) -/

/-- The state at the end of a command that succeeds: a CONSUME guard is freed (R74). -/
def State.consumed (s : State) (w : Fin 8) (consume : Bool) : State := if consume then s.freeWatch w else s

theorem State.consumed_only (s : State) (w consume) : OnlyChanges [.watches] s (s.consumed w consume) := by
  cases consume
  · exact .refl _ _
  · exact s.freeWatch_only w

theorem guarded_error {h : Header} {s : State} {x} (checked : checkGuard h s = .error x) (block) :
    guarded h s block = .refuse x .empty := by simp only [guarded, checked]

/-- A guard that holds: the block is given its slot, and the entry is freed at the end where the mode is CONSUME. -/
theorem guarded_held {h : Header} {s s' : State} {w consume} (checked : checkGuard h s = .ok (some { slot := w, consume := consume }))
    {block : Option (Fin 8) → Verdict} {a p} (accepts : block (some w) = .accept a p s') :
    guarded h s block = .accept a p (s'.consumed w consume) := by
  simp only [guarded, checked, Option.map_some, accepts]
  cases consume <;> rfl

theorem checkGuard_error {h : Header} {s : State} {x} (checked : checkGuard h s = .error x) : x.refusal = true := by
  unfold checkGuard at checked
  split at checked
  · cases checked
  · split at checked
    · cases checked; rfl
    · split at checked <;> cases checked
      rfl

/-- What a command that may be guarded answers, in terms of its block (R73, R74, R76). -/
theorem guarded_cases (h : Header) (s : State) (block : Option (Fin 8) → Verdict) :
    (∃ x, x.refusal = true ∧ guarded h s block = .refuse x .empty) ∨
      ∃ g, (∃ x p, block g = .refuse x p ∧ guarded h s block = .refuse x p) ∨
        ∃ a p s' s'', block g = .accept a p s' ∧ guarded h s block = .accept a p s'' ∧ OnlyChanges [.watches] s' s'' := by
  cases checked : checkGuard h s with
  | error x => exact .inl ⟨x, checkGuard_error checked, guarded_error checked block⟩
  | ok guard =>
    refine .inr ⟨guard.map (·.slot), ?_⟩
    have whole : guarded h s block = (block (guard.map (·.slot))).consume guard := by simp only [guarded, checked]
    rw [whole]
    cases block (guard.map (·.slot)) with
    | refuse x p => exact .inl ⟨x, p, rfl, by cases guard <;> rfl⟩
    | accept a p s' =>
      refine .inr ⟨a, p, s', ?_⟩
      rcases guard with _ | ⟨w, _ | _⟩
      · exact ⟨s', rfl, rfl, .refl _ _⟩
      · exact ⟨s', rfl, rfl, .refl _ _⟩
      · exact ⟨s'.freeWatch w, rfl, rfl, s'.freeWatch_only w⟩

/-! ## POST_CUE (R14, R18) -/

/-- The block of POST_CUE. -/
def postBlock (h : Header) (d : RawDescriptor) (s : State) (g : Option (Fin 8)) : Verdict :=
  require h.reservedOk <| requireSome (descriptorOf d) fun d =>
    match s.post g h.client none d.1 with
    | none => .refuse .noRoom .empty
    | some (k, s') => .accept d.2 (.handle (s'.handleAt k)) s'

section
variable {h : Header} {d : RawDescriptor} {s : State}

theorem postCue_frame : exec (.postCue h d) s = s.takeOpen 34 h fun s => guarded h s (postBlock h d s) := rfl

variable {d' : Descriptor} {altered : Bool} (clear : h.reserved = 0) (read : descriptorOf d = some (d', altered)) {g : Option (Fin 8)}

theorem postBlock_refused (bad : h.reserved ≠ 0 ∨ RefusedDescriptor d) : postBlock h d s g = .refuse .badValue .empty := by
  unfold postBlock
  rcases bad with set | bad
  · rw [require_false (Header.reservedOk_false set)]
  · rw [requireSome_none ((descriptorOf_eq_none d).2 bad)]
    cases h.reservedOk <;> rfl

include clear read

theorem postBlock_posts {k t} (posted : s.post g h.client none d' = some (k, t)) :
    postBlock h d s g = .accept altered (.handle { slot := k, gen := s.cues.slots[k].gen + 1 }) t := by
  obtain ⟨-, -, handle, -⟩ := State.post_written posted
  simp only [postBlock, require_true (Header.reservedOk_true clear), requireSome_some read, posted, handle]

theorem postBlock_noRoom (none' : s.post g h.client none d' = none) : postBlock h d s g = .refuse .noRoom .empty := by
  simp only [postBlock, require_true (Header.reservedOk_true clear), requireSome_some read, none']

/-- An unguarded posting that succeeds. -/
theorem postCue_done (r : Reaches .open_ h s) (noGuard : h.guard = none) {k t}
    (posted : s.post none h.client none d' = some (k, t)) :
    CarriesOut h altered (.handle { slot := k, gen := s.cues.slots[k].gen + 1 }) (.postCue h d) s t :=
  open_done r postCue_frame ((guarded_none noGuard _).trans (postBlock_posts clear read posted))

end

/-- A posting, guarded or not, that the block answers (R14, R18). -/
theorem postBlock_cases (h : Header) (d : RawDescriptor) (s : State) (g : Option (Fin 8)) :
    (∃ x, x.refusal = true ∧ postBlock h d s g = .refuse x .empty) ∨
      ∃ d' altered k t, descriptorOf d = some (d', altered) ∧ s.post g h.client none d' = some (k, t) ∧
        postBlock h d s g = .accept altered (.handle { slot := k, gen := s.cues.slots[k].gen + 1 }) t := by
  by_cases clear : h.reserved = 0
  · cases read : descriptorOf d with
    | none => exact .inl ⟨.badValue, rfl, postBlock_refused (.inr ((descriptorOf_eq_none d).1 read))⟩
    | some x =>
      obtain ⟨d', altered⟩ := x
      cases posted : s.post g h.client none d' with
      | none => exact .inl ⟨.noRoom, rfl, postBlock_noRoom clear read posted⟩
      | some y => exact .inr ⟨d', altered, y.1, y.2, rfl, posted, postBlock_posts clear read posted⟩
  · exact .inl ⟨.badValue, rfl, postBlock_refused (.inl clear)⟩

/-- What is written into a transient slot, whatever was purged or evicted before (R18). -/
theorem State.writeCue_others (g) (u : State) (k : Fin 48) (o tag d) :
    OnlySlot k u (u.writeCue g k o tag d) ∧
      (u.writeCue g k o tag d).cues.postOrder = u.cues.postOrder ++ [k] ∧
      (u.writeCue g k o tag d).cues.retiring = u.cues.retiring := by
  refine ⟨fun j other => ?_, ?_, ?_⟩
  · rw [State.writeCue_slot, if_neg other]
  · rw [State.writeCue_cues]; rfl
  · rw [State.writeCue_cues]; rfl

theorem State.afterPurge_only (g) (s : State) (o tag d) :
    OnlyChanges [.cues, .zones, .watches, .seq] s (s.afterPurge g o tag d) :=
  OnlyChanges.foldl _ (fun s k => s.beginFade_only _ _ k) _ s

theorem mem_purged_iff {s : State} (inv : CueInv s) {o d} {k : Fin 48} :
    k ∈ s.purged o none d ↔ isPurged s o d k = true := by
  rw [← isPurged_eq]
  exact mem_purged inv

/-- What an eviction leaves after the purge, before the new cue is written (R17). -/
theorem State.evict_after {g} {s : State} {k : Fin 48} {c : Cue} (live : s.cues.slots[k].cue = some c)
    (short : s.notices.list.length ≤ 8) : (∀ j : Fin 48, j ≠ k → (s.evict g k).cues.slots[j] = s.cues.slots[j]) ∧
      (s.evict g k).cues.postOrder = (s.cues.postOrder.filter fun j => j != k) ∧
      (s.evict g k).cues.retiring = (s.cues.retiring.filter fun j => j != k) ∧
      (s.evict g k).notices = s.notices.after .cueEvicted (.client c.owner) (.number k.val) := by
  have notices : (s.freeSlot g k).notices = s.notices := (s.freeSlot_only g k).field .notices
  rw [State.evict_some live]
  refine ⟨fun j other => ?_, ?_, ?_, ?_⟩
  · change (s.freeSlot g k).cues.slots[j] = _
    rw [State.freeSlot_slots, if_neg other]
  · change (s.freeSlot g k).cues.postOrder = _
    rw [(State.freeSlot_some live).1]; rfl
  · change (s.freeSlot g k).cues.retiring = _
    rw [(State.freeSlot_some live).1]; rfl
  · rw [State.raise_notices, notices, Notices.raise_eq _ short]

/-- Settles O21: room is made, then one cue is written. -/
theorem postCueWritesOneCueOrChangesNothing : Obligations.PostCueWritesOneCueOrChangesNothing := by
  refine ⟨fun h d s r => ?_, fun h d d' altered k s r clear noGuard read hi free below keeps => ?_,
    fun h d d' altered k s r clear noGuard read inv hi => ⟨fun long free below => ?_, fun zero free below => ?_,
      fun full short c live evicts => ?_⟩,
    fun h d d' altered s r clear noGuard read inv full none' pinned low => ?_,
    fun d => ⟨descriptorOf_eq_none d, fun d' altered => descriptorOf_stored⟩, fun h d s r noGuard bad => ?_⟩
  · rcases guarded_cases h s (postBlock h d s) with ⟨x, refusal, refuses⟩ | ⟨g, ⟨x, p, block, refuses⟩ |
      ⟨a, p, s', s'', block, accepts, watches⟩⟩
    · obtain ⟨t, run, answers, only⟩ := open_refused r postCue_frame refuses
      exact ⟨t, run, .inl ⟨by rw [answers.1]; exact refusal, only⟩⟩
    · obtain ⟨y, refusal, block'⟩ | ⟨d', altered, k, t, -, -, block'⟩ := postBlock_cases h d s g
      · obtain ⟨rfl, rfl⟩ := Verdict.refuse.inj (block.symm.trans block')
        obtain ⟨t, run, answers, only⟩ := open_refused r postCue_frame refuses
        exact ⟨t, run, .inl ⟨by rw [answers.1]; exact refusal, only⟩⟩
      · exact Verdict.noConfusion (block.symm.trans block')
    · obtain ⟨y, refusal, block'⟩ | ⟨d', altered, k, u, read, posted, block'⟩ := postBlock_cases h d s g
      · exact Verdict.noConfusion (block.symm.trans block')
      · obtain ⟨rfl, rfl, rfl⟩ := Verdict.accept.inj (block.symm.trans block')
        obtain ⟨t, run, answers, stored⟩ := open_done r postCue_frame accepts
        obtain ⟨hi, written, -, last⟩ := State.post_written posted
        have cues : t.cues = s'.cues := (stored.field .cues).trans (watches.field .cues)
        refine ⟨t, run, .inr ⟨k, d', a, hi, read, answers, ?_, ?_, 
          (State.post_only posted).thenAnswered watches stored⟩⟩
        · rw [cues]
          exact written
        · rw [cues]
          exact last
  · have purges : s.purged h.client none d' = [] := List.filter_eq_nil_iff.2 fun j _ => by
      rw [Option.any_eq_true]
      rintro ⟨c, live, purged⟩
      simp only [Cue.purgedBy, transient, Bool.and_eq_true, decide_eq_true_eq, Bool.not_eq_true', beq_iff_eq, bne_iff_ne] at purged
      obtain ⟨⟨⟨⟨⟨hi, on⟩, layer⟩, zones⟩, owner⟩, -⟩ := purged
      rcases keeps j c live with other | other | apart | pinned | fades
      · exact other owner
      · exact other layer
      · exact zones apart
      · omega
      · rw [on] at fades
        cases fades
    obtain ⟨t, run, answers, stored⟩ :=
      postCue_done clear read r noGuard (State.post_plain none hi free below purges)
    have cues : t.cues = (s.writeCue none k h.client none d').cues := stored.field .cues
    obtain ⟨others, post, retiring⟩ := State.writeCue_others none s k h.client none d'
    refine ⟨t, run, answers, ?_, ?_, ?_, ?_, ?_, ?_, (s.writeCue_raises none k _ _ d').stored stored, ?_,
      OnlyChanges.answered (s.writeCue_only _ _ _ _ _) stored⟩
    · rw [cues, State.writeCue_slot, if_pos rfl]
    · rw [cues, State.writeCue_slot, if_pos rfl]; rfl
    · intro j other
      rw [cues, others j other]
    · rw [cues, post]
    · rw [cues, retiring]
    · rw [cues, State.writeCue_cues]; rfl
    · exact (stored.field .power).trans (s.writeCue_power _ _ _ _ _)
  · obtain ⟨t, run, answers, stored⟩ :=
      postCue_done clear read r noGuard (State.post_fades none inv long hi free below)
    have cues : t.cues = _ := stored.field .cues
    have zones : t.zones = _ := stored.field .zones
    obtain ⟨post, retiring, counts, only⟩ :=
      State.purge_long (State.purged_mayFade inv h.client none d') none long
    obtain ⟨others, post', retiring'⟩ := State.writeCue_others none (s.afterPurge none h.client none d') k h.client none d'
    obtain ⟨written, -, power⟩ := State.writeCue_after (s := s) (u := s.afterPurge none h.client none d') only.mono
      (State.afterPurge_gen none inv k) none h.client none d'
    refine ⟨t, run, answers, ?_, fun j other => ?_, ?_, ?_, fun z => ?_, (stored.field .power).trans power,
      only.thenAnswered (State.writeCue_only _ _ _ _ _ _) stored⟩
    · rw [cues, written]
    · rw [cues, others j other, State.afterPurge_slot none inv, if_neg long]
      simp only [mem_purged_iff inv]
    · rw [cues, post']
      exact congrArg (· ++ [k]) post
    · rw [cues, retiring', ← State.purged_eq]
      exact retiring
    · have count : (s.afterPurge none h.client none d').zones[z] = _ := counts z
      rw [zones, (State.writeCue_raises none _ k h.client none d').1 z, count, ← State.purged_eq, BitVec.ofNat_add]
      generalize BitVec.ofNat 16 (List.countP _ _) = m
      split <;> simp [BitVec.add_assoc]
  · have free' : s.cues.slots[k].cue = none ∨ k ∈ s.purged h.client none d' := free.imp_right (mem_purged_iff inv).2
    obtain ⟨t, run, answers, stored⟩ := postCue_done clear read r noGuard (State.post_frees none inv zero hi free'
      fun j hj lt => (below j hj lt).imp_right fun other mem => by
        rw [(mem_purged_iff inv).1 mem] at other
        cases other)
    have cues : t.cues = _ := stored.field .cues
    obtain ⟨post, retiring, only⟩ := State.purge_zero (State.purged_mayFade inv h.client none d') none fun k mem =>
      State.purged_not_retiring inv mem
    rw [← zero] at post retiring only
    obtain ⟨others, post', retiring'⟩ := State.writeCue_others none (s.afterPurge none h.client none d') k h.client none d'
    obtain ⟨written, -, power⟩ := State.writeCue_after (s := s) (u := s.afterPurge none h.client none d') only.mono
      (State.afterPurge_gen none inv k) none h.client none d'
    refine ⟨t, run, answers, ?_, fun j other => ?_, ?_, ?_, (stored.field .power).trans power,
      only.thenAnswered (State.writeCue_only _ _ _ _ _ _) stored⟩
    · rw [cues, written]
    · rw [cues, others j other, State.afterPurge_slot none inv, if_pos zero]
      simp only [mem_purged_iff inv]
    · rw [cues, post']
      refine congrArg (· ++ [k]) (post.trans (List.filter_congr fun j _ => ?_))
      simp only [mem_purged_iff inv]
      cases isPurged s h.client d' j <;> rfl
    · rw [cues, retiring']
      exact retiring
  · rw [← State.purged_eq] at evicts
    obtain ⟨t, run, answers, stored⟩ :=
      postCue_done clear read r noGuard (State.post_evicts none inv hi full live evicts)
    have cues : t.cues = _ := stored.field .cues
    have keeps : d'.fadeIn ≠ 0 ∨ s.purged h.client none d' = [] := evicts.elim And.left fun alone => .inr alone.1
    obtain ⟨c', live', owner, -⟩ := State.afterPurge_live none inv keeps live
    have purgeNotices : (s.afterPurge none h.client none d').notices = s.notices := (State.afterPurge_only _ _ _ _ _).field .notices
    obtain ⟨evOthers, evPost, evRetiring, notices⟩ := State.evict_after (g := none) live' (purgeNotices ▸ short)
    have only : OnlyChanges roomFields s ((s.afterPurge none h.client none d').evict none k) :=
      ((OnlyChanges.refl _ s).then (State.afterPurge_only _ _ _ _ _)).then (State.evict_only _ _ _)
    obtain ⟨others, post', retiring'⟩ := State.writeCue_others none ((s.afterPurge none h.client none d').evict none k) k
      h.client none d'
    obtain ⟨written, -, power⟩ := State.writeCue_after only
      ((State.evict_gen _ _ _ _).trans (State.afterPurge_gen none inv k)) none h.client none d'
    obtain ⟨purgePost, purgeRetiring⟩ : (s.afterPurge none h.client none d').cues.postOrder = s.cues.postOrder ∧
        (s.afterPurge none h.client none d').cues.retiring = s.cues.retiring ++ s.purged h.client none d' := by
      rcases keeps with long | none'
      · obtain ⟨post, retiring, -⟩ := State.purge_long (State.purged_mayFade inv h.client none d') none long
        exact ⟨post, retiring⟩
      · rw [State.afterPurge, none', List.append_nil]
        exact ⟨rfl, rfl⟩
    refine ⟨t, run, answers, ?_, fun j other => ?_, ?_, ?_, ?_, (stored.field .power).trans power,
      only.thenAnswered (State.writeCue_only _ _ _ _ _ _) stored⟩
    · rw [cues, written]
    · rw [cues, others j other, evOthers j other, State.afterPurge_slot none inv]
      simp only [← mem_purged_iff inv]
      by_cases mem : j ∈ s.purged h.client none d'
      · rw [if_pos mem, if_pos mem, if_neg (keeps.resolve_right (List.ne_nil_of_mem mem))]
      · rw [if_neg mem, if_neg mem]
    · rw [cues, post', evPost, purgePost]
    · rw [cues, retiring', evRetiring, purgeRetiring, State.purged_eq]
    · rw [← owner, ← purgeNotices, ← notices]
      exact (stored.field .notices).trans ((State.writeCue_only _ _ _ _ _ _).field .notices)
  · have none'' : s.post none h.client none d' = none := by
      have room : s.room (s.purged h.client none d') d' = .refused := by
        rw [State.purged_eq, none']
        exact State.room_refused full inv pinned low
      simp only [State.post, room, if_true]
    exact open_refused r postCue_frame ((guarded_none noGuard _).trans (postBlock_noRoom clear read none''))
  · exact open_refused r postCue_frame ((guarded_none noGuard _).trans (postBlock_refused bad))

/-! ## Guarded commands (R73, R74, R76) -/

theorem checkGuard_stale {h : Header} {s : State} {g : Guard} (guard : h.guard = some g)
    (missing : ∀ (w : Fin 8) (e : WatchEntry), s.watches.slots[w].entry = some e →
      g.slot.toNat ≠ w.val ∨ g.gen ≠ s.watches.slots[w].gen ∨ e.client ≠ h.client) : checkGuard h s = .error .stale := by
  have none' : s.watches.find h.client g.slot g.gen = none := by
    cases found : s.watches.find h.client g.slot g.gen with
    | none => rfl
    | some w =>
      obtain ⟨slot, gen, e, entry, client⟩ := WatchTable.find_eq_some.1 found
      rcases missing w e entry with bad | bad | bad
      · exact absurd slot bad
      · exact absurd gen.symm bad
      · exact absurd client bad
  simp only [checkGuard, guard, none']

theorem checkGuard_badMode {h : Header} {s : State} {g : Guard} (guard : h.guard = some g) {w : Fin 8} {e : WatchEntry}
    (entry : s.watches.slots[w] = { gen := g.gen, entry := some e }) (slot : g.slot.toNat = w.val)
    (client : e.client = h.client) (mode : 1 < g.mode.toNat) : checkGuard h s = .error .badValue := by
  have found : s.watches.find h.client g.slot g.gen = some w :=
    WatchTable.find_eq_some.2 ⟨slot, by rw [entry], e, by rw [entry], client⟩
  simp only [checkGuard, guard, found, watchModeOf_none mode]

/-- The guarding entry stays through the events of its command (R74, R75). -/
theorem RaisesEvents.guarding {zones} {w : Fin 8} {s t : State} (raised : RaisesEvents zones (some w) s t) :
    t.watches.slots[w] = s.watches.slots[w] := by
  rw [raised.2.1 w, freedByEvents, bne_self_eq_false, Bool.and_false, if_neg Bool.false_ne_true]

theorem State.freeSlot_guarding (s : State) (k : Fin 48) (w : Fin 8) :
    (s.freeSlot (some w) k).watches.slots[w] = s.watches.slots[w] := by
  cases live : s.cues.slots[k].cue with
  | none => rw [State.freeSlot_none live]
  | some c => exact (State.freeSlot_some live).2.1.guarding

/-- The guarding entry after its command: kept, or freed by CONSUME (R74). -/
theorem State.consumed_slot {s s' : State} {w : Fin 8} {g : Guard} {e : WatchEntry}
    (entry : s.watches.slots[w] = { gen := g.gen, entry := some e }) (stays : s'.watches.slots[w] = s.watches.slots[w]) :
    (s'.consumed w (decide (g.mode = 1))).watches.slots[w] =
      if g.mode = 1 then { gen := g.gen, entry := none } else s.watches.slots[w] := by
  by_cases consume : g.mode = 1
  · rw [decide_eq_true consume, State.consumed, if_pos rfl, if_pos consume, State.freeWatch_slot, if_pos rfl, stays, entry]
  · rw [decide_eq_false consume, State.consumed, if_neg Bool.false_ne_true, if_neg consume, stays]

/-- What a guarded command leaves of the cues and of its watch, once answered. -/
theorem CarriesOut.consumed {h : Header} {a p i} {s s' : State} {w : Fin 8} {g : Guard} {e : WatchEntry}
    (done : CarriesOut h a p i s (s'.consumed w (decide (g.mode = 1))))
    (entry : s.watches.slots[w] = { gen := g.gen, entry := some e }) (stays : s'.watches.slots[w] = s.watches.slots[w]) :
    ∃ t, exec i s = .next t ∧ Answers s t h (doneStatus a) p ∧ t.cues = s'.cues ∧
      t.watches.slots[w] = if g.mode = 1 then { gen := g.gen, entry := none } else s.watches.slots[w] := by
  obtain ⟨t, run, answers, stored⟩ := done
  refine ⟨t, run, answers, (stored.field .cues).trans ((s'.consumed_only _ _).field .cues), ?_⟩
  have watches : t.watches = (s'.consumed w (decide (g.mode = 1))).watches := stored.field .watches
  rw [watches, State.consumed_slot entry stays]

/-- The block of RETIRE_CUE (R14, R22). -/
def retireBlock (h : Header) (handle : BitVec 16) (mode : Byte) (s : State) (g : Option (Fin 8)) : Verdict :=
  match s.resolve handle with
  | none => .refuse .notFound .empty
  | some (k, c) =>
    guardWith (c.owner != h.client && h.client != 0) .denied <|
      require h.reservedOk <| requireSome (fadeModeOf mode) fun m => .accept false .empty (s.retire g m k)

/-- The block of PLACE_CUE (R14, R19). -/
def placeBlock (h : Header) (slot : Byte) (d : RawDescriptor) (s : State) (g : Option (Fin 8)) : Verdict :=
  require (h.reservedOk && decide (slot.toNat < 8)) <| requireSome (index? 48 slot.toNat) fun k =>
    requireSome (descriptorOf d) fun d =>
      let s' := (s.freeSlot g k).writeCue g k h.client none d.1
      .accept d.2 (.handle (s'.handleAt k)) s'

theorem retireCue_frame (h : Header) (handle : BitVec 16) (mode : Byte) (s : State) : exec (.retireCue h handle mode) s =
    s.takeOpen 3 h fun s => guarded h s (retireBlock h handle mode s) := rfl

theorem placeCue_frame (h : Header) (slot : Byte) (d : RawDescriptor) (s : State) : exec (.placeCue h slot d) s =
    s.takeConfiguring 35 h fun s => guarded h s (placeBlock h slot d s) := rfl

/-- A command whose client is 0 reaches a configuring block too (R187). -/
theorem Reaches.configuring {h : Header} {s : State} (r : Reaches .open_ h s) (host : h.client = 0) :
    Reaches .configuring h s := ⟨r.1, r.2.1, r.2.2.1, fun _ => host⟩

/-- Settles O27: the watch check comes first, the consumption last, and no event of the command frees its own watch. -/
theorem guardKeepsOrConsumesTheWatch : Obligations.GuardKeepsOrConsumesTheWatch := by
  intro h g d handle mask mode slot s r guard
  have refusesAll : ∀ {x}, checkGuard h s = .error x →
      Refuses h x .empty (.postCue h d) s ∧ Refuses h x .empty (.modifyCue h handle mask d) s ∧
        Refuses h x .empty (.retireCue h handle mode) s ∧
        (h.client = 0 → Refuses h x .empty (.placeCue h slot d) s) := fun checked =>
    ⟨open_refused r postCue_frame (guarded_error checked _), open_refused r modifyCue_frame (guarded_error checked _),
      open_refused r (retireCue_frame ..) (guarded_error checked _),
      fun host => configuring_refused (r.configuring host) (placeCue_frame ..) (guarded_error checked _)⟩
  refine ⟨fun missing => refusesAll (checkGuard_stale guard missing), fun w e entry at' client =>
    ⟨fun beyond => refusesAll (checkGuard_badMode guard entry at' client beyond), fun within clear =>
      ⟨fun k d' altered read hi free below keeps => ?_, fun k c d' altered names own on read => ?_,
        fun k c names may => ?_, fun k d' altered host named pinned read => ?_⟩⟩⟩
  all_goals have checked := checkGuard_held guard entry at' client within
  · have purges : s.purged h.client none d' = [] := by
      rw [State.purged_eq]
      exact List.filter_eq_nil_iff.2 fun j _ => by rw [keeps j]; exact Bool.false_ne_true
    have posted := State.post_plain (some w) hi free below purges
    obtain ⟨t, run, answers, cues, kept⟩ := (open_done r postCue_frame
      (guarded_held checked (postBlock_posts clear read posted))).consumed entry (State.writeCue_raises _ _ _ _ _ _).guarding
    refine ⟨t, run, answers, ?_, fun j other => ?_, kept⟩ <;> rw [cues, State.writeCue_slot]
    · rw [if_pos rfl]
    · rw [if_neg other]
  · obtain ⟨t, run, answers, cues, kept⟩ := (open_done r modifyCue_frame
      (guarded_held checked (modifyBlock_accepts names own on clear read (some w)))).consumed entry
      (State.modify_raises _ s k c (Descriptor.modified_zones read) mask).guarding
    refine ⟨t, run, answers, ?_, fun j other => ?_, kept⟩ <;> rw [cues, State.modify_slot]
    · rw [if_pos rfl]; rfl
    · rw [if_neg other]
  · have allowed : (c.owner != h.client && h.client != 0) = false := by
      rcases may with own | zero <;> simp [*]
    have accepts : retireBlock h handle 1 s (some w) = .accept false .empty (s.freeSlot (some w) k) := by
      simp only [retireBlock, State.resolve_names names, guardWith_false allowed,
        require_true (Header.reservedOk_true clear)]
      rfl
    obtain ⟨t, run, answers, cues, kept⟩ := (open_done r (retireCue_frame h handle 1 s)
      (guarded_held checked accepts)).consumed entry (s.freeSlot_guarding k w)
    refine ⟨t, run, answers, ?_, fun j other => ?_, kept⟩ <;> rw [cues, State.freeSlot_slots]
    · rw [if_pos rfl]
    · rw [if_neg other]
  · obtain ⟨t, run, answers, cues, kept⟩ := (configuring_done (r.configuring host) (placeCue_frame h slot d s)
      (guarded_held checked (execPlaceCue_block clear host named pinned read s (some w)))).consumed entry
      ((State.writeCue_raises _ _ _ _ _ _).guarding.trans (s.freeSlot_guarding k w))
    refine ⟨t, run, answers, ?_, fun j other => ?_, kept⟩ <;> rw [cues, State.placed_slot]
    · rw [if_pos rfl]
    · rw [if_neg other]

end Sys2Proof.Machine

/-! PROOFS. The commands that configure, start, stop and read a chain (section 7.3). -/

namespace Sys2Proof.Machine

open Sys2Proof

/-! ## One chain record (R117) -/

/-- A change of a record that changes the chain's state marks the frame in flight, and does nothing else to the Composer. -/
theorem State.setChain_marks (s : State) (i : Fin 4) {c : Chain} (h : s.chains[i].mode.state ≠ c.mode.state) :
    onlyMarks i s (s.setChain i c) := by
  rw [State.setChain_new_state s i c h]
  refine ⟨rfl, rfl, rfl, fun none' => ?_, fun f flight => ?_⟩
  · simp [Composer.markLeft, none']
  · refine ⟨{ f with left := f.left ||| BitVec.twoPow 4 i }, by simp [Composer.markLeft, flight], rfl, rfl, ?_, fun j other => ?_⟩
    · simp
    · rw [BitVec.getLsbD_or, BitVec.getLsbD_twoPow, decide_eq_false (p := i.val = j.val) fun e => other (Fin.ext e.symm),
        Bool.and_false, Bool.or_false]

theorem onlyMarks.congr {i : Fin 4} {s u t : State} (h : onlyMarks i s u) (same : t.composer = u.composer) :
    onlyMarks i s t := by
  unfold onlyMarks
  rw [same]
  exact h

theorem onlyMarks.from {i : Fin 4} {s r t : State} (h : onlyMarks i s t) (same : r.composer = s.composer) :
    onlyMarks i r t := by
  unfold onlyMarks
  rw [same]
  exact h

theorem onlyMarks.trans {i : Fin 4} {s u t : State} (h : onlyMarks i s u) (h' : onlyMarks i u t) : onlyMarks i s t := by
  obtain ⟨period, timer, latest, idle, flight⟩ := h
  obtain ⟨period', timer', latest', idle', flight'⟩ := h'
  refine ⟨period'.trans period, timer'.trans timer, latest'.trans latest, fun none' => idle' (idle none'), fun f hf => ?_⟩
  obtain ⟨g, hg, snap, discarded, left, others⟩ := flight f hf
  obtain ⟨g', hg', snap', discarded', left', others'⟩ := flight' g hg
  exact ⟨g', hg', snap'.trans snap, discarded'.trans discarded, left', fun j other => (others' j other).trans (others j other)⟩

theorem OnlyChain.trans {i : Fin 4} {s u t : State} (h : OnlyChain i s u) (h' : OnlyChain i u t) : OnlyChain i s t :=
  fun j other => (h' j other).trans (h j other)

theorem OnlyChain.congr {i : Fin 4} {s u t : State} (h : OnlyChain i s u) (same : t.chains = u.chains) : OnlyChain i s t :=
  fun j other => by rw [same, h j other]

/-- A record replaced by one in the same state changes the chain records alone. -/
theorem State.setChain_sameState_only (s : State) (i : Fin 4) {c : Chain} (h : s.chains[i].mode.state = c.mode.state) :
    OnlyChanges [.chains] s (s.setChain i c) := by
  rw [State.setChain_same_state s i c h]
  exact s.setChains_only _

/-- What a record replaced by one in the same state leaves, once answered. -/
theorem CarriesOut.setChain {h : Header} {a p instr} {s : State} {i : Fin 4} {c : Chain}
    (done : CarriesOut h a p instr s (s.setChain i c)) (same : s.chains[i].mode.state = c.mode.state) :
    ∃ t, exec instr s = .next t ∧ Answers s t h (doneStatus a) p ∧ t.chains[i] = c ∧ OnlyChain i s t ∧
      OnlyChanges [.chains, .reply, .sdo] s t := by
  obtain ⟨t, run, answers, stored⟩ := done
  have chains : t.chains = (s.setChain i c).chains := stored.field .chains
  refine ⟨t, run, answers, ?_, (s.setChain_other i c).congr chains,
    OnlyChanges.answered (s.setChain_sameState_only i same) stored⟩
  rw [chains, State.setChain_self]

/-! ## REJOIN_NODE and READ_CHAIN (R127, R128) -/

theorem placeOf_none {p : Nat} (h : p = 0 ∨ 60 < p) : placeOf p = none := by
  unfold placeOf
  split
  · rfl
  · exact index?_none (by omega)

/-- How many of the first `n` indices lie from `a` on and below `b`. -/
theorem countP_interval (n a b : Nat) :
    ((List.finRange n).filter fun j => decide (a ≤ j.val ∧ j.val < b)).length = min b n - a := by
  induction n with
  | zero => simp
  | succ n ih =>
    have inner : (((List.finRange n).map Fin.castSucc).filter fun j => decide (a ≤ j.val ∧ j.val < b)).length =
        min b n - a := by
      rw [List.filter_map, List.length_map]
      exact ih
    rw [List.finRange_succ_last, List.filter_append, List.length_append, inner, List.filter_singleton]
    by_cases last : a ≤ n ∧ n < b
    · rw [decide_eq_true (p := a ≤ (Fin.last n).val ∧ (Fin.last n).val < b) last, cond_true, List.length_singleton]
      omega
    · rw [decide_eq_false (p := a ≤ (Fin.last n).val ∧ (Fin.last n).val < b) last, cond_false, List.length_nil]
      omega

theorem reportNodes_sorted (c : Chain) (k : Fin 60) : ((c.reportNodes k).map (·.position)).IsChain (· < ·) := by
  rw [Chain.reportNodes, List.map_map]
  refine List.Pairwise.isChain (List.pairwise_map.2 (List.Pairwise.filter _ ?_))
  exact (List.pairwise_lt_finRange 60).imp fun {a b} lt => Nat.succ_lt_succ lt

theorem mem_reportNodes (c : Chain) (k : Fin 60) (n : NodeReport) : n ∈ c.reportNodes k ↔
    ∃ j : Fin 60, k ≤ j ∧ j.val < k.val + 16 ∧ n = { position := j.val + 1, node := c.nodes[j] } := by
  simp only [Chain.reportNodes, List.mem_map, List.mem_filter, indices, List.mem_finRange, true_and, decide_eq_true_eq]
  exact exists_congr fun j => ⟨fun ⟨⟨le, lt⟩, e⟩ => ⟨le, lt, e.symm⟩, fun ⟨le, lt, e⟩ => ⟨⟨le, lt⟩, e.symm⟩⟩

theorem PowerState.driven_iff (x : ChainState) : x.driven = true ↔ x = .ring ∨ x = .split := by cases x <;> decide

/-- Settles O41: one record is rejoined under its conditions, and a report changes nothing. -/
theorem rejoinNodeAndReadChain : Obligations.RejoinNodeAndReadChain := by
  refine ⟨fun h chain position s plain bad => ⟨fun r => ?_, fun r => ?_⟩,
    fun h chain position i k s plain named at' => ⟨fun r => ⟨fun ⟨driven, manual, offline⟩ => ?_, fun refuses => ?_⟩, fun r => ?_⟩⟩
  · refine configuring_refused (i := .rejoinNode h chain position) r rfl ?_
    rw [require_true plain]
    rcases bad with bad | bad
    · rw [requireSome_none (index?_none bad)]
    · cases index? 4 chain.toNat with
      | none => rfl
      | some i =>
        change requireSome (placeOf position.toNat) _ = _
        rw [requireSome_none (placeOf_none bad)]
  · refine open_refused (i := .readChain h chain position) r rfl ?_
    rw [require_true plain]
    rcases bad with bad | bad
    · rw [requireSome_none (index?_none bad)]
    · cases index? 4 chain.toNat with
      | none => rfl
      | some i =>
        change requireSome (placeOf position.toNat) _ = _
        rw [requireSome_none (placeOf_none bad)]
  · have may : (!s.chains[i].mode.state.driven || s.chains[i].rejoin != .manual || s.chains[i].nodes[k].state != .offline) =
        false := by
      rw [(PowerState.driven_iff _).2 driven, manual, offline]; rfl
    have done := configuring_done (i := .rejoinNode h chain position) r rfl (by
      rw [require_true plain, requireSome_some (index?_eq i named), requireSome_some (at' ▸ placeOf_succ k)]
      exact guardWith_false may _ _)
    obtain ⟨t, run, answers, record, others, only⟩ := CarriesOut.setChain done rfl
    refine ⟨t, run, answers, ?_, fun j other => ?_, ?_, others, only⟩ <;> rw [record]
    · exact (getElem_setFin _ _ _ _).trans (if_pos rfl)
    · exact (getElem_setFin _ _ _ _).trans (if_neg other)
  · have must : (!s.chains[i].mode.state.driven || s.chains[i].rejoin != .manual || s.chains[i].nodes[k].state != .offline) =
        true := by
      by_contra other
      simp only [Bool.not_eq_true, Bool.or_eq_false_iff, Bool.not_eq_false', bne_eq_false_iff_eq] at other
      exact refuses ⟨(PowerState.driven_iff _).1 other.1.1, other.1.2, other.2⟩
    exact configuring_refused (i := .rejoinNode h chain position) r rfl (by
      rw [require_true plain, requireSome_some (index?_eq i named), requireSome_some (at' ▸ placeOf_succ k)]
      exact guardWith_true must _ _)
  · obtain ⟨t, run, answers, only⟩ := open_done (i := .readChain h chain position) r rfl (by
      rw [require_true plain, requireSome_some (index?_eq i named), requireSome_some (at' ▸ placeOf_succ k)])
    refine ⟨t, _, run, answers, rfl, rfl, rfl, ?_, reportNodes_sorted _ _, fun n => mem_reportNodes _ _ n, only⟩
    have size := countP_interval 60 k.val (k.val + 16)
    rw [Chain.reportNodes, List.length_map]
    refine size.trans ?_
    omega

/-! ## START_CHAIN, STOP_CHAIN and RESTART_CHAIN (R124 to R126) -/

theorem Chain.start_eq (c : Chain) : ({ c with enabled := true } : Chain).start = startedChain c := by
  rcases c with ⟨enabled, expected, policy, _⟩
  cases policy <;> rfl

theorem Chain.start_stop_eq (c : Chain) :
    ({ c with enabled := true } : Chain).stop.start = startedChain { c with sent := sleepSent c } := by
  rcases c with ⟨enabled, expected, policy, _⟩
  cases policy <;> rfl

theorem State.enable_composer (s : State) (i : Fin 4) (on : Bool) : (s.enable i on).composer = s.composer := by
  rw [State.enable, State.setChain_composer]
  exact if_pos rfl

theorem State.enable_chain (s : State) (i : Fin 4) (on : Bool) :
    (s.enable i on).chains[i] = { s.chains[i] with enabled := on } := s.setChain_self i _

/-- What a start of chain `i` does to the part (R118, R124). -/
theorem State.startChain_effect (s : State) (i : Fin 4) (may : s.chains[i].mode.state ≠ .starting) :
    (s.startChain i).chains[i] = s.chains[i].start ∧ OnlyChain i s (s.startChain i) ∧ outputInitial i s (s.startChain i) ∧
      onlyMarks i s (s.startChain i) := by
  have cond : (s.startChain i).cond = s.cond.resetOutput i := rfl
  refine ⟨s.setChain_self i _, s.setChain_other i _, ⟨?_, fun j other => ?_, ?_⟩, s.setChain_marks i may⟩ <;> rw [cond]
  · exact (getElem_setFin _ _ _ _).trans (if_pos rfl)
  · exact (getElem_setFin _ _ _ _).trans (if_neg other)
  · rfl

theorem ChainMode.state_ne_off {m : ChainMode} (on : m ≠ .off) : m.state ≠ .off := by
  cases m <;> first | exact absurd rfl on | nofun

/-- What a stop of chain `i` does to the part, where it is not OFF (R125). -/
theorem State.stopChain_effect (s : State) (i : Fin 4) (on : s.chains[i].mode ≠ .off) :
    (s.stopChain i).chains[i] = s.chains[i].stop ∧ OnlyChain i s (s.stopChain i) ∧ onlyMarks i s (s.stopChain i) := by
  have moves : s.chains[i].mode.state ≠ s.chains[i].stop.mode.state := ChainMode.state_ne_off on
  rw [State.stopChain, if_neg on]
  exact ⟨s.setChain_self i _, s.setChain_other i _, s.setChain_marks i moves⟩

theorem outputInitial.congr {i : Fin 4} {s u t : State} (h : outputInitial i s u) (same : t.cond = u.cond) :
    outputInitial i s t := by
  unfold outputInitial
  rw [same]
  exact h

theorem outputInitial.from {i : Fin 4} {s r t : State} (h : outputInitial i s t) (same : r.cond = s.cond) :
    outputInitial i r t := by
  unfold outputInitial
  rw [same]
  exact h

/-- What a started chain leaves, once answered. -/
theorem CarriesOut.started {h : Header} {p instr} {s s' : State} {i : Fin 4} {c : Chain} (done : CarriesOut h false p instr s s')
    (record : s'.chains[i] = c) (others : OnlyChain i s s') (output : outputInitial i s s') (marks : onlyMarks i s s')
    (only : OnlyChanges [.chains, .composer, .cond] s s') :
    ∃ t, exec instr s = .next t ∧ Answers s t h .ok p ∧ t.chains[i] = c ∧ OnlyChain i s t ∧ outputInitial i s t ∧
      onlyMarks i s t ∧ OnlyChanges [.chains, .cond, .composer, .reply, .sdo] s t := by
  obtain ⟨t, run, answers, stored⟩ := done
  have chains : t.chains = s'.chains := stored.field .chains
  exact ⟨t, run, answers, by rw [chains, record], others.congr chains, output.congr (stored.field .cond),
    marks.congr (stored.field .composer), OnlyChanges.answered only stored⟩

section
variable {h : Header} {chain : Byte} {i : Fin 4} {s : State} (r : Reaches .configuring h s) (plain : h.plain = true)
  (named : chain.toNat = i.val)
include r plain named

/-- START_CHAIN of an OFF chain (R124). -/
theorem startChain_done (lit : s.power.state = .lit) (counted : s.chains[i].expected ≠ 0) (off : s.chains[i].mode = .off) :
    ∃ t, exec (.startChain h chain) s = .next t ∧ Answers s t h .ok .empty ∧ t.chains[i] = startedChain s.chains[i] ∧
      OnlyChain i s t ∧ outputInitial i s t ∧ onlyMarks i s t ∧
      OnlyChanges [.chains, .cond, .composer, .reply, .sdo] s t := by
  have enabled := s.enable_chain i true
  obtain ⟨record, others, output, marks⟩ := (s.enable i true).startChain_effect i (by rw [enabled, off]; nofun)
  refine (configuring_done (i := .startChain h chain) (a := false) (p := .empty)
    (s' := (s.enable i true).startChain i) r rfl ?_).started ?_ ?_ ?_ ?_ ?_
  · rw [require_true plain, requireSome_some (index?_eq i named), guardWith_false (bne_eq_false_iff_eq.2 lit),
      guardWith_false (bne_eq_false_iff_eq.2 off), require_true (bne_iff_ne.2 counted)]
  · rw [record, enabled, Chain.start_eq]
  · exact (s.setChain_other i _).trans others
  · exact output.from ((s.enable_only i true).field .cond).symm
  · exact marks.from (s.enable_composer i true).symm
  · exact ((OnlyChanges.refl _ s).then (s.enable_only i true)).then (State.startChain_only _ _)

/-- RESTART_CHAIN of an OFF chain (R126). -/
theorem restartChain_off (lit : s.power.state = .lit) (counted : s.chains[i].expected ≠ 0) (off : s.chains[i].mode = .off) :
    ∃ t, exec (.restartChain h chain) s = .next t ∧ Answers s t h .ok .empty ∧ t.chains[i] = startedChain s.chains[i] ∧
      OnlyChain i s t ∧ outputInitial i s t ∧ onlyMarks i s t ∧
      OnlyChanges [.chains, .cond, .composer, .reply, .sdo] s t := by
  have enabled := s.enable_chain i true
  have stays : (s.enable i true).stopChain i = s.enable i true := by
    rw [State.stopChain, if_pos (by rw [enabled]; exact off)]
  obtain ⟨record, others, output, marks⟩ := (s.enable i true).startChain_effect i (by rw [enabled, off]; nofun)
  refine (configuring_done (i := .restartChain h chain) (a := false) (p := .empty)
    (s' := (s.enable i true).startChain i) r rfl ?_).started ?_ ?_ ?_ ?_ ?_
  · rw [require_true plain, requireSome_some (index?_eq i named), guardWith_false (bne_eq_false_iff_eq.2 lit),
      require_true (bne_iff_ne.2 counted), stays]
  · rw [record, enabled, Chain.start_eq]
  · exact (s.setChain_other i _).trans others
  · exact output.from ((s.enable_only i true).field .cond).symm
  · exact marks.from (s.enable_composer i true).symm
  · exact ((OnlyChanges.refl _ s).then (s.enable_only i true)).then (State.startChain_only _ _)

/-- RESTART_CHAIN of a chain that is not OFF, which stops it first (R126). -/
theorem restartChain_on (lit : s.power.state = .lit) (counted : s.chains[i].expected ≠ 0) (on : s.chains[i].mode ≠ .off) :
    ∃ t, exec (.restartChain h chain) s = .next t ∧ Answers s t h .ok .empty ∧
      t.chains[i] = startedChain { s.chains[i] with sent := sleepSent s.chains[i] } ∧
      OnlyChain i s t ∧ outputInitial i s t ∧ onlyMarks i s t ∧
      OnlyChanges [.chains, .cond, .composer, .reply, .sdo] s t := by
  have enabled := s.enable_chain i true
  obtain ⟨stopped, others, marks⟩ := (s.enable i true).stopChain_effect i (by rw [enabled]; exact on)
  obtain ⟨record, others', output, marks'⟩ := ((s.enable i true).stopChain i).startChain_effect i (by rw [stopped]; nofun)
  refine (configuring_done (i := .restartChain h chain) (a := false) (p := .empty)
    (s' := ((s.enable i true).stopChain i).startChain i) r rfl ?_).started ?_ ?_ ?_ ?_ ?_
  · rw [require_true plain, requireSome_some (index?_eq i named), guardWith_false (bne_eq_false_iff_eq.2 lit),
      require_true (bne_iff_ne.2 counted)]
  · rw [record, stopped, enabled, Chain.start_stop_eq]
  · exact ((s.setChain_other i _).trans others).trans others'
  · exact output.from ((((OnlyChanges.refl [.chains, .composer] s).then (s.enable_only i true)).then
      (State.stopChain_only _ i)).field .cond).symm
  · exact (marks.trans marks').from (s.enable_composer i true).symm
  · exact (((OnlyChanges.refl _ s).then (s.enable_only i true)).then (State.stopChain_only _ _)).then
      (State.startChain_only _ _)

/-- STOP_CHAIN in LIT (R125). -/
theorem stopChain_done (lit : s.power.state = .lit) :
    CarriesOut h false .empty (.stopChain h chain) s ((s.enable i false).stopChain i) :=
  configuring_done (i := .stopChain h chain) r rfl (by
    rw [require_true plain, requireSome_some (index?_eq i named), guardWith_false (bne_eq_false_iff_eq.2 lit)])

end

/-- Settles O40: a stop and a start, one after the other. -/
theorem startStopAndRestartChain : Obligations.StartStopAndRestartChain := by
  refine ⟨fun h chain i s r plain named lit counted => ⟨fun off => ⟨startChain_done r plain named lit counted off,
      restartChain_off r plain named lit counted off⟩, fun on => ⟨?_, restartChain_on r plain named lit counted on⟩⟩,
    fun h chain i s r plain named => ⟨fun lit on => ?_, fun lit off => ?_, fun dark => ?_⟩,
    fun h chain s r plain => ⟨fun beyond => ⟨?_, ?_, ?_⟩, fun i named => ⟨fun dark => ⟨?_, ?_⟩,
      fun lit zero => ⟨?_, fun off => ?_⟩⟩⟩, fun e => rfl⟩
  · exact configuring_refused (i := .startChain h chain) r rfl (by
      rw [require_true plain, requireSome_some (index?_eq i named), guardWith_false (bne_eq_false_iff_eq.2 lit),
        guardWith_true (bne_iff_ne.2 on)])
  · obtain ⟨t, run, answers, stored⟩ := stopChain_done r plain named lit
    have enabled := s.enable_chain i false
    obtain ⟨record, others, marks⟩ := (s.enable i false).stopChain_effect i (by rw [enabled]; exact on)
    have chains : t.chains = _ := stored.field .chains
    refine ⟨t, run, answers, ?_, ((s.setChain_other i _).trans others).congr chains,
      (marks.from (s.enable_composer i false).symm).congr (stored.field .composer),
      (s.enable_only i false).thenAnswered (State.stopChain_only _ i) stored⟩
    rw [chains, record, enabled]
    rfl
  · have done := stopChain_done r plain named lit
    rw [State.stopChain, if_pos (by rw [s.enable_chain i false]; exact off)] at done
    exact CarriesOut.setChain done rfl
  · exact configuring_refused (i := .stopChain h chain) r rfl (by
      rw [require_true plain, requireSome_some (index?_eq i named), guardWith_true (bne_iff_ne.2 dark)])
  · exact configuring_refused (i := .startChain h chain) r rfl (by rw [require_true plain, requireSome_none (index?_none beyond)])
  · exact configuring_refused (i := .stopChain h chain) r rfl (by rw [require_true plain, requireSome_none (index?_none beyond)])
  · exact configuring_refused (i := .restartChain h chain) r rfl (by
      rw [require_true plain, requireSome_none (index?_none beyond)])
  · exact configuring_refused (i := .startChain h chain) r rfl (by
      rw [require_true plain, requireSome_some (index?_eq i named), guardWith_true (bne_iff_ne.2 dark)])
  · exact configuring_refused (i := .restartChain h chain) r rfl (by
      rw [require_true plain, requireSome_some (index?_eq i named), guardWith_true (bne_iff_ne.2 dark)])
  · exact configuring_refused (i := .restartChain h chain) r rfl (by
      rw [require_true plain, requireSome_some (index?_eq i named), guardWith_false (bne_eq_false_iff_eq.2 lit),
        require_false (bne_eq_false_iff_eq.2 zero)])
  · exact configuring_refused (i := .startChain h chain) r rfl (by
      rw [require_true plain, requireSome_some (index?_eq i named), guardWith_false (bne_eq_false_iff_eq.2 lit),
        guardWith_false (bne_eq_false_iff_eq.2 off), require_false (bne_eq_false_iff_eq.2 zero)])

end Sys2Proof.Machine

/-! PROOFS. CONFIGURE_CHAIN (section 7.3), and the beginning and the completion of a frame (section 5.2). -/

namespace Sys2Proof.Machine

open Sys2Proof

/-! ## CONFIGURE_CHAIN (R123) -/

theorem namedCode_named {α : Type} {bit : Bool} {new : Option α} {old x : α} {p : Prop}
    (h : if bit then p else x = old) (read : p → new = some x) : namedCode bit new old = some x := by
  cases bit
  · exact congrArg some (Eq.symm h)
  · exact read h

theorem namedCode_none {α : Type} {bit : Bool} {new : Option α} (set : bit = true) (bad : new = none) (old : α) :
    namedCode bit new old = none := by rw [namedCode, if_pos set, bad]

theorem boolOf_code {code : Byte} {b : Bool} (h : code.toNat = if b then 1 else 0) : boolOf code = some b := by
  unfold boolOf
  rw [h]
  cases b <;> rfl

theorem ratePolicyOf_code {code : Byte} {p : RatePolicy} (h : code.toNat = match p with
    | .auto => 0
    | .slowOnly => 1) : ratePolicyOf code = some p := by
  unfold ratePolicyOf
  rw [h]
  cases p <;> rfl

theorem rejoinOf_code {code : Byte} {p : Rejoin} (h : code.toNat = match p with
    | .auto => 0
    | .manual => 1
    | .halt => 2) : rejoinOf code = some p := by
  unfold rejoinOf
  rw [h]
  cases p <;> rfl

theorem ratePolicyOf_none {code : Byte} (h : 1 < code.toNat) : ratePolicyOf code = none := by
  unfold ratePolicyOf
  split
  · omega
  · omega
  · rfl

theorem rejoinOf_none {code : Byte} (h : 2 < code.toNat) : rejoinOf code = none := by
  unfold rejoinOf
  split
  · omega
  · omega
  · omega
  · rfl

/-- A change of the rejoin mode changes what the chain is doing in SPLIT alone (R141). -/
theorem Chain.rejoinChanged_fields (c : Chain) (before : Rejoin) :
    c.rejoinChanged before = { c with mode := (c.rejoinChanged before).mode } := by
  unfold Chain.rejoinChanged
  split
  · split_ifs <;> rfl
  · rfl

theorem Chain.rejoinChanged_state (c : Chain) (before : Rejoin) : (c.rejoinChanged before).mode.state = c.mode.state := by
  unfold Chain.rejoinChanged
  split
  · next x e =>
    rw [e]
    split_ifs
    · rw [e]
    · rfl
    · rfl
    · rw [e]
  · rfl

/-- The fields of a configured record (R123). -/
theorem Chain.configured_eq (c : Chain) (r : RawChainConfig) (enabled : Bool) (policy : RatePolicy) (rejoin : Rejoin) :
    (c.configured r enabled policy rejoin).1 = { c with
      enabled := enabled
      expected := if r.mask.getLsbD 1 then min 60 r.expected.toNat else c.expected
      ratePolicy := policy
      rejoin := rejoin
      retryLimit := if r.mask.getLsbD 4 then min 12 r.retryLimit.toNat else c.retryLimit
      budget := if r.mask.getLsbD 5 then max 50 (min 3000 r.budget.toNat) else c.budget
      restoreInterval := if r.mask.getLsbD 6 then max 250 (min 5000 r.restoreInterval.toNat) else c.restoreInterval
      mode := (c.configured r enabled policy rejoin).1.mode } := by
  refine (Chain.rejoinChanged_fields _ _).trans ?_
  simp only [Chain.configured, named_eq, clampMax_eq, clampRange_eq (show 50 ≤ 3000 by decide),
    clampRange_eq (show 250 ≤ 5000 by decide)]

theorem Chain.configured_altered (c : Chain) (r : RawChainConfig) (enabled : Bool) (policy : RatePolicy) (rejoin : Rejoin) :
    (c.configured r enabled policy rejoin).2 = decide (
      (r.mask.getLsbD 1 = true ∧ 60 < r.expected.toNat) ∨ (r.mask.getLsbD 4 = true ∧ 12 < r.retryLimit.toNat) ∨
      (r.mask.getLsbD 5 = true ∧ (r.budget.toNat < 50 ∨ 3000 < r.budget.toNat)) ∨
      (r.mask.getLsbD 6 = true ∧ (r.restoreInterval.toNat < 250 ∨ 5000 < r.restoreInterval.toNat))) := by
  simp only [Chain.configured, named_eq, clampMax_eq, clampRange_eq (show 50 ≤ 3000 by decide),
    clampRange_eq (show 250 ≤ 5000 by decide)]
  rw [Bool.eq_iff_iff]
  simp only [Bool.or_eq_true, Bool.and_eq_true, decide_eq_true_eq, or_assoc]

theorem Chain.configured_state (c : Chain) (r : RawChainConfig) (enabled : Bool) (policy : RatePolicy) (rejoin : Rejoin) :
    (c.configured r enabled policy rejoin).1.mode.state = c.mode.state := Chain.rejoinChanged_state _ _

/-- What the chain is doing after it has been configured (R141). -/
theorem Chain.configured_mode (c : Chain) (r : RawChainConfig) (enabled : Bool) (policy : RatePolicy) (rejoin : Rejoin) :
    (((∀ x, c.mode ≠ .split x) ∨ rejoin = c.rejoin) → (c.configured r enabled policy rejoin).1.mode = c.mode) ∧
    (∀ x, c.mode = .split x → rejoin ≠ c.rejoin → rejoin = .auto → (c.configured r enabled policy rejoin).1.mode =
      .split { x with restore := .running (c.configured r enabled policy rejoin).1.restoreInterval }) ∧
    (∀ x, c.mode = .split x → c.rejoin = .auto → rejoin ≠ .auto →
      (c.configured r enabled policy rejoin).1.mode = .split { x with restore := .stopped }) := by
  refine ⟨fun same => ?_, fun x mode changed auto => ?_, fun x mode auto changed => ?_⟩
  · simp only [Chain.configured, Chain.rejoinChanged]
    split
    · next x mode =>
      rw [if_pos (same.resolve_left fun other => other x mode).symm]
    · rfl
  · simp only [Chain.configured, Chain.rejoinChanged, mode, if_neg (Ne.symm changed), if_pos auto]
    rfl
  · have moved : ¬ c.rejoin = rejoin := fun e => changed (e ▸ auto)
    simp only [Chain.configured, Chain.rejoinChanged, mode, if_neg moved, if_neg changed, if_pos auto]

/-- The block of CONFIGURE_CHAIN, with the codes tested (R123). -/
def configureBlock (r : RawChainConfig) (s : State) (i : Fin 4) (enabled : Bool) (policy : RatePolicy) (rejoin : Rejoin) :
    Verdict :=
  guardWith (r.namesStart && s.chains[i].mode != .off) .busy <|
    require (!((s.chains[i].configured r enabled policy rejoin).1.enabled &&
        (s.chains[i].configured r enabled policy rejoin).1.expected == 0))
      (.accept (s.chains[i].configured r enabled policy rejoin).2
        (.chainRecord (s.chains[i].configured r enabled policy rejoin).1.record)
        (s.setChain i (s.chains[i].configured r enabled policy rejoin).1))

/-- The tests of CONFIGURE_CHAIN before BUSY (R123; log 42). -/
def configureTests (h : Header) (chain : Byte) (r : RawChainConfig) (s : State) : Verdict :=
  require (h.plain && !r.mask.getLsbD 7) <| requireSome (index? 4 chain.toNat) fun i =>
    requireSome (namedCode (r.mask.getLsbD 0) (boolOf r.enabled) s.chains[i].enabled) fun enabled =>
      requireSome (namedCode (r.mask.getLsbD 2) (ratePolicyOf r.ratePolicy) s.chains[i].ratePolicy) fun policy =>
        requireSome (namedCode (r.mask.getLsbD 3) (rejoinOf r.rejoin) s.chains[i].rejoin) fun rejoin =>
          configureBlock r s i enabled policy rejoin

theorem configureChain_frame (h : Header) (chain : Byte) (r : RawChainConfig) (s : State) :
    exec (.configureChain h chain r) s = s.takeConfiguring 11 h fun s => configureTests h chain r s := rfl

theorem configureTests_refused {h : Header} {chain : Byte} {r : RawChainConfig} (plain : h.plain = true)
    (bad : 3 < chain.toNat ∨ r.mask.getLsbD 7 = true ∨ r.mask.getLsbD 0 = true ∧ 1 < r.enabled.toNat ∨
      r.mask.getLsbD 2 = true ∧ 1 < r.ratePolicy.toNat ∨ r.mask.getLsbD 3 = true ∧ 2 < r.rejoin.toNat) (s : State) :
    configureTests h chain r s = .refuse .badValue .empty := by
  unfold configureTests
  cases mask7 : r.mask.getLsbD 7 with
  | true => exact require_false (by rw [Bool.not_true, Bool.and_false])
  | false =>
    rw [require_true (by rw [plain]; rfl)]
    cases chosen : index? 4 chain.toNat with
    | none => rfl
    | some i =>
      have within : ¬ 3 < chain.toNat := by
        rw [index?_eq_some.1 chosen]
        omega
      rw [requireSome_some rfl]
      rcases (bad.resolve_left within).resolve_left (by rw [mask7]; exact Bool.false_ne_true) with
        ⟨set, bad⟩ | ⟨set, bad⟩ | ⟨set, bad⟩
      · rw [requireSome_none (namedCode_none set (boolOf_none bad) _)]
      · cases namedCode (r.mask.getLsbD 0) (boolOf r.enabled) s.chains[i].enabled with
        | none => rfl
        | some enabled => rw [requireSome_some rfl, requireSome_none (namedCode_none set (ratePolicyOf_none bad) _)]
      · cases namedCode (r.mask.getLsbD 0) (boolOf r.enabled) s.chains[i].enabled with
        | none => rfl
        | some enabled =>
          rw [requireSome_some rfl]
          cases namedCode (r.mask.getLsbD 2) (ratePolicyOf r.ratePolicy) s.chains[i].ratePolicy with
          | none => rfl
          | some policy => rw [requireSome_some rfl, requireSome_none (namedCode_none set (rejoinOf_none bad) _)]

/-- Settles O39: the tests in their order, then the record that is stored. -/
theorem configureChainReplacesNamedFields : Obligations.ConfigureChainReplacesNamedFields := by
  refine ⟨fun h chain r s reaches plain bad =>
      configuring_refused reaches (configureChain_frame ..) (configureTests_refused plain bad s),
    fun h chain i r enabled policy rejoin s reaches plain named mask7 he hp hr => ?_⟩
  have tests : configureTests h chain r s = configureBlock r s i enabled policy rejoin := by
    rw [configureTests, require_true (by rw [plain, mask7]; rfl), requireSome_some (index?_eq i named),
      requireSome_some (namedCode_named he boolOf_code), requireSome_some (namedCode_named hp ratePolicyOf_code),
      requireSome_some (namedCode_named hr rejoinOf_code)]
  have fields := s.chains[i].configured_eq r enabled policy rejoin
  have free : (r.namesStart = true → s.chains[i].mode = .off) → (r.namesStart && s.chains[i].mode != .off) = false := by
    intro off
    cases starts : r.namesStart with
    | false => rfl
    | true => rw [off starts]; rfl
  refine ⟨fun starts on => ?_, fun off ⟨yes, zero⟩ => ?_, fun off counted => ?_⟩
  · refine configuring_refused reaches (configureChain_frame ..) (tests.trans (guardWith_true ?_ _ _))
    exact Bool.and_eq_true_iff.2 ⟨starts, bne_iff_ne.2 on⟩
  · refine configuring_refused reaches (configureChain_frame ..) (tests.trans ?_)
    rw [configureBlock, guardWith_false (free off), require_false]
    rw [fields]
    subst yes
    have none' : (if r.mask.getLsbD 1 then min 60 r.expected.toNat else s.chains[i].expected) = 0 := by
      split
      · next set =>
        rw [if_pos set] at zero
        rw [zero]
        rfl
      · next clear =>
        rw [if_neg clear] at zero
        exact zero
    simp only [none', beq_self_eq_true, Bool.and_self, Bool.not_true]
  · have able : (!((s.chains[i].configured r enabled policy rejoin).1.enabled &&
        (s.chains[i].configured r enabled policy rejoin).1.expected == 0)) = true := by
      rw [fields]
      cases enabled with
      | false => rfl
      | true =>
        have some' := counted rfl
        simpa using some'
    have done := configuring_done reaches (configureChain_frame ..)
      (tests.trans (by rw [configureBlock, guardWith_false (free off), require_true able]))
    obtain ⟨t, run, answers, record, others, only⟩ := CarriesOut.setChain done (s.chains[i].configured_state r enabled policy rejoin).symm
    obtain ⟨kept, starts, stops⟩ := s.chains[i].configured_mode r enabled policy rejoin
    refine ⟨t, run, ?_, ⟨?_, ?_, ?_, ?_⟩, others, only⟩ <;> rw [record]
    · rw [← s.chains[i].configured_altered r enabled policy rejoin]
      exact answers
    · exact fields
    · exact kept
    · exact starts
    · exact stops

/-! ## The beginning of a frame (R80 to R83, R102, R118) -/

theorem moveLevel_eq (level target slew : Nat) : moveLevel level target slew =
    if level < target then min target (level + slew) else max target (level - slew) := by
  unfold moveLevel
  split_ifs <;> omega

theorem Zone.capture_eq (z : Zone) (latest : Option (List Comp)) : z.capture latest = { z with hold := match z.hold with
    | .pending => .captured (latest.getD (z.nodes.map fun _ => { colour := { r := 0, g := 0, b := 0 }, coverage := 0 }))
    | hold => hold } := by
  rcases z with ⟨nodes, trim, hold, count⟩
  cases hold <;> rfl

theorem State.completeFrame_idle {s : State} (idle : s.composer.frame = none) : s.completeFrame = s := by
  simp only [State.completeFrame, idle]

theorem exec_frameTimerExpiry (s : State) : exec .frameTimerExpiry s = s.event State.frameExpiry := rfl

theorem exec_frameCompletion (s : State) : exec .frameCompletion s = s.event State.completeFrame := rfl

theorem exec_wakeRisingEdge (s : State) : exec .wakeRisingEdge s = s.event State.wakeEdge := rfl

/-! ### The pending wake start does not touch a frame (R176; log 10) -/

theorem State.raiseLimits_setPower (s : State) (p i a b) :
    (s.setPower p).raiseLimits i a b = (s.raiseLimits i a b).setPower p := by
  unfold State.raiseLimits
  dsimp only
  split_ifs <;> rfl

theorem State.deliver_setPower (f : Frame) (s : State) (p) (i : Fin 4) :
    State.deliver f (s.setPower p) i = (State.deliver f s i).setPower p := by
  unfold State.deliver
  dsimp only
  rw [State.raiseLimits_setPower, State.place_eq, State.place_eq]
  split <;> rfl

theorem State.completeFrame_setPower (s : State) (p) : (s.setPower p).completeFrame = s.completeFrame.setPower p := by
  have chains : ∀ (f : Frame) (is : List (Fin 4)) (s : State),
      is.foldl (State.deliver f) (s.setPower p) = (is.foldl (State.deliver f) s).setPower p := by
    intro f is
    induction is with
    | nil => exact fun s => rfl
    | cons i is ih => exact fun s => by rw [List.foldl_cons, State.deliver_setPower, ih, List.foldl_cons]
  unfold State.completeFrame
  rw [State.setPower_composer]
  split
  · rfl
  · next f _ => exact chains f _ (s.setComposer (s.composer.record f))

/-- A frame reads of the power state its envelope alone (R83). -/
theorem State.beginFrame_setPower (s : State) {p : Power} (same : p.envelope = s.power.envelope) :
    (s.setPower p).beginFrame = s.beginFrame.setPower p := by
  have snap : (s.setPower p).prepareSnapshot.snapshot = s.prepareSnapshot.snapshot := by
    change ({ s.prepareSnapshot.snapshot with envelope := p.envelope } : Snapshot) = _
    rw [same]
    rfl
  unfold State.beginFrame
  dsimp only
  rw [snap]
  rfl

theorem State.wakeEdge_lit {s : State} (lit : s.power.state = .lit) : s.wakeEdge = s.wakeStart := by
  have awake : ¬ s.power.state = .dormant := by rw [lit]; nofun
  rw [State.wakeEdge, if_neg awake]
  split
  · simp only [State.armedEdge, lit]
  · next unarmed =>
    rw [Bool.not_eq_true, Option.isSome_eq_false_iff, Option.isNone_iff_eq_none] at unarmed
    simp only [State.wakeStart, unarmed]

/-- The state after a frame in flight has completed and the next has begun (R82). -/
def State.framed (s : State) : State := s.completeFrame.beginFrame

/-- The same with the pending wake start taken out (R176). -/
def State.framedUnwoken (s : State) : State := s.framed.setPower { s.framed.power with pendingWake := false }

theorem State.framed_power (s : State) : s.framed.power = s.power :=
  (s.completeFrame.beginFrame_only.field .power).trans (s.completeFrame_only.field .power)

theorem State.framed_reset (s : State) : s.framed.resetLow = s.resetLow :=
  (s.completeFrame.beginFrame_only.field .resetLow).trans (s.completeFrame_only.field .resetLow)

theorem State.frameExpiry_eq {s : State} (runs : s.composer.timer.isSome = true) : s.frameExpiry = s.framed.makeLateWake :=
  if_pos runs

/-- Without the pending wake start, the expiry begins the same frame. -/
theorem State.frameExpiry_withoutWake {s : State} (runs : s.composer.timer.isSome = true) :
    (withoutWake s).frameExpiry = s.framedUnwoken := by
  have same : ({ s.power with pendingWake := false } : Power).envelope = s.completeFrame.power.envelope := by
    rw [show s.completeFrame.power = s.power from s.completeFrame_only.field .power]
    rfl
  rw [State.frameExpiry_eq (s := withoutWake s) runs]
  change (s.setPower { s.power with pendingWake := false }).completeFrame.beginFrame.makeLateWake = _
  rw [State.completeFrame_setPower, State.beginFrame_setPower _ same, State.makeLateWake_clear _ fun _ => rfl,
    State.framedUnwoken, State.framed_power, State.framed]

/-- Settles O37: the snapshot, then the wake start that waited for it. -/
theorem frameTimerBeginsAFrame : Obligations.FrameTimerBeginsAFrame := by
  refine ⟨fun s interval awake timer idle clear => ?_, fun s interval awake timer lit pending => ?_⟩
  · have begun : s.frameExpiry = s.beginFrame := by
      rw [State.frameExpiry, if_pos (by rw [timer]; rfl), State.completeFrame_idle idle,
        State.makeLateWake_clear s.beginFrame clear]
    rw [exec_frameTimerExpiry, State.event_eq awake, begun]
    refine ⟨_, { snap := s.prepareSnapshot.snapshot, discarded := 0, left := 0 }, rfl, rfl, rfl, rfl, rfl,
      moveLevel_eq _ _ _, rfl, fun i => ?_, fun z => ?_, rfl, rfl, rfl, rfl, rfl, rfl, rfl, rfl, rfl, rfl, fun i => ?_,
      s.beginFrame_only.mono⟩
    · change (s.cond.resetUndriven s.chains).perChain[i] = _
      simp only [Conditioner.resetUndriven, Fin.getElem_fin, Vector.getElem_mapFinIdx, PowerState.driven_iff]
      rfl
    · exact (s.captureHolds_zone z).trans (Zone.capture_eq _ _)
    · exact State.snapshot_chain _ i
  · have timer' : s.composer.timer.isSome = true := by rw [timer]; rfl
    have lit' : s.framed.power.state = .lit := s.framed_power ▸ lit
    have second : s.framedUnwoken.wakeEdge = s.framedUnwoken.wakeStart := State.wakeEdge_lit lit'
    have both : s.frameExpiry = s.framedUnwoken.wakeStart := by
      rw [State.frameExpiry_eq timer', State.makeLateWake, if_pos lit', State.makePendingWake,
        if_pos (s.framed_power ▸ pending)]
      rfl
    refine ⟨s.framedUnwoken, s.framedUnwoken.wakeStart, ?_, ?_, ?_, s.framedUnwoken.wakeStart_only.field .composer⟩
    · rw [exec_frameTimerExpiry, State.event_eq (s := withoutWake s) awake, State.frameExpiry_withoutWake timer']
    · rw [exec_wakeRisingEdge, State.event_eq (s := s.framedUnwoken) (s.framed_reset.trans awake), second]
    · rw [exec_frameTimerExpiry, State.event_eq awake, both]

/-! ## The completion of a frame (R85, R115, R117) -/

/-- A chain takes the frame's results: it was driven at the snapshot and has not left its state since (R117). -/
def Frame.takes (f : Frame) (i : Fin 4) : Bool := f.snap.chains[i].state.driven && !f.left.getLsbD i

theorem Frame.takes_iff (f : Frame) (i : Fin 4) : f.takes i = true ↔
    (f.snap.chains[i].state = .ring ∨ f.snap.chains[i].state = .split) ∧ f.left.getLsbD i = false := by
  rw [Frame.takes, Bool.and_eq_true, PowerState.driven_iff, Bool.not_eq_true']

theorem State.deliver_off {f : Frame} {i : Fin 4} (off : f.takes i = false) (s : State) : State.deliver f s i = s :=
  if_neg (by rw [← Frame.takes, off]; exact Bool.false_ne_true)

theorem State.deliver_on {f : Frame} {i : Fin 4} (on : f.takes i = true) (s : State) : State.deliver f s i =
    ((s.raiseLimits i s.cond.perChain[i] (f.snap.output i)).setCond (s.cond.withOutput i (f.snap.output i))).setChains
      (s.chains.set i { s.chains[i] with mailbox := some (f.snap.dutySet i) }) := by
  have only := s.raiseLimits_only i s.cond.perChain[i] (f.snap.output i)
  have cond := only.field .cond
  have chains := only.field .chains
  refine (if_pos on).trans ?_
  dsimp only
  rw [State.place_eq, State.setCond_chains, cond, chains]

section
variable (f : Frame) (s : State) (i j : Fin 4)

theorem State.deliver_chain : (State.deliver f s i).chains[j] =
    if j = i ∧ f.takes i = true then { s.chains[i] with mailbox := some (f.snap.dutySet i) } else s.chains[j] := by
  cases on : f.takes i with
  | false => rw [State.deliver_off on, if_neg (by simp)]
  | true =>
    rw [State.deliver_on on]
    refine (getElem_setFin _ _ _ _).trans ?_
    simp only [and_true]

theorem State.deliver_output : (State.deliver f s i).cond.perChain[j] =
    if j = i ∧ f.takes i = true then f.snap.output i else s.cond.perChain[j] := by
  cases on : f.takes i with
  | false => rw [State.deliver_off on, if_neg (by simp)]
  | true =>
    rw [State.deliver_on on]
    refine (getElem_setFin _ _ _ _).trans ?_
    simp only [and_true]

theorem State.deliver_cond : (State.deliver f s i).cond = { s.cond with perChain := (State.deliver f s i).cond.perChain } := by
  cases on : f.takes i with
  | false => rw [State.deliver_off on]
  | true => rw [State.deliver_on on]; rfl

theorem State.deliver_notices : (State.deliver f s i).notices = if f.takes i = true then
    (s.raiseLimits i s.cond.perChain[i] (f.snap.output i)).notices else s.notices := by
  cases on : f.takes i with
  | false => rw [State.deliver_off on]; rfl
  | true => rw [State.deliver_on on]; rfl

theorem State.deliver_line : (State.deliver f s i).noticeLow = if f.takes i = true then
    (s.raiseLimits i s.cond.perChain[i] (f.snap.output i)).noticeLow else s.noticeLow := by
  cases on : f.takes i with
  | false => rw [State.deliver_off on]; rfl
  | true => rw [State.deliver_on on]; rfl

/-- The notices of one chain, written out (R115, R193). -/
theorem State.raiseLimits_notices (short : s.notices.list.length ≤ 8) (on : f.takes i = true) :
    (s.raiseLimits i s.cond.perChain[i] (f.snap.output i)).notices = limitNotices f s.cond.perChain s.notices i := by
  have thermal := Notices.raise_eq s.notices short .thermalLimit (.chain i) (.number ((f.snap.output i).thermal / 10))
  have short' : ∀ k x d, (s.notices.raise k x d).list.length ≤ 8 := fun k x d => Notices.raise_length _ short k x d
  rw [limitNotices, if_pos ((f.takes_iff i).1 on)]
  unfold State.raiseLimits
  dsimp only
  rw [← thermal]
  split_ifs <;> simp only [State.raise_notices]
  · rw [Notices.raise_eq _ (short' _ _ _)]
  · rw [Notices.raise_eq _ short]

theorem State.raiseLimits_quiet {a b : ChainOutput} (thermal : a.thermal ≠ 1000) (budget : a.budget ≠ 1000) :
    s.raiseLimits i a b = s := by
  simp only [State.raiseLimits, thermal, budget, false_and, if_false]

theorem State.raiseLimits_short (short : s.notices.list.length ≤ 8) (a b) :
    (s.raiseLimits i a b).notices.list.length ≤ 8 := by
  unfold State.raiseLimits
  dsimp only
  split_ifs
  · exact Notices.raise_length _ (Notices.raise_length _ short _ _ _) _ _ _
  · exact Notices.raise_length _ short _ _ _
  · exact Notices.raise_length _ short _ _ _
  · exact short

/-- The line follows the list wherever the list has changed (R196). -/
def State.lineFollows (before : Notices) (s : State) : Prop :=
  s.notices = before ∨ (s.noticeLow = true ↔ lineLow s.notices)

theorem State.raiseLimits_line {n : Notices} (h : s.lineFollows n) (a b) : (s.raiseLimits i a b).lineFollows n := by
  unfold State.raiseLimits
  dsimp only
  split_ifs
  · exact .inr (State.raise_line _ _ _ _)
  · exact .inr (State.raise_line _ _ _ _)
  · exact .inr (State.raise_line _ _ _ _)
  · exact h

theorem State.deliver_lineFollows {n : Notices} (h : s.lineFollows n) : (State.deliver f s i).lineFollows n := by
  unfold State.lineFollows
  rw [State.deliver_notices, State.deliver_line]
  split
  · exact s.raiseLimits_line i h _ _
  · exact h

end

/-- What the parts of a list of chains in a completion leave of one chain. -/
theorem State.foldl_deliver_chain (f : Frame) (is : List (Fin 4)) (j : Fin 4) : ∀ s : State,
    (is.foldl (State.deliver f) s).chains[j] =
        (if j ∈ is ∧ f.takes j = true then { s.chains[j] with mailbox := some (f.snap.dutySet j) } else s.chains[j]) ∧
      (is.foldl (State.deliver f) s).cond.perChain[j] =
        if j ∈ is ∧ f.takes j = true then f.snap.output j else s.cond.perChain[j] := by
  induction is with
  | nil => exact fun s => ⟨by simp, by simp⟩
  | cons i is ih =>
    intro s
    obtain ⟨chain, output⟩ := ih (State.deliver f s i)
    rw [List.foldl_cons, chain, output, State.deliver_chain, State.deliver_output]
    by_cases e : j = i
    · subst e
      cases f.takes j <;> simp [-Fin.getElem_fin]
    · simp [-Fin.getElem_fin, e]

theorem State.foldl_deliver_cond (f : Frame) (is : List (Fin 4)) : ∀ s : State,
    (is.foldl (State.deliver f) s).cond = { s.cond with perChain := (is.foldl (State.deliver f) s).cond.perChain } := by
  induction is with
  | nil => exact fun s => rfl
  | cons i is ih =>
    intro s
    rw [List.foldl_cons]
    refine (ih (State.deliver f s i)).trans ?_
    rw [State.deliver_cond]

/-- The notices of a list of chains, each once, in the order of the list (R115). -/
theorem State.foldl_deliver_notices (f : Frame) (perChain : Vector ChainOutput 4) (is : List (Fin 4)) : ∀ s : State, is.Nodup →
    (∀ i ∈ is, s.cond.perChain[i] = perChain[i]) → s.notices.list.length ≤ 8 →
    (is.foldl (State.deliver f) s).notices = is.foldl (limitNotices f perChain) s.notices := by
  induction is with
  | nil => exact fun s _ _ _ => rfl
  | cons i is ih =>
    intro s nodup outputs short
    obtain ⟨fresh, nodup⟩ := List.nodup_cons.1 nodup
    have one : (State.deliver f s i).notices = limitNotices f perChain s.notices i := by
      rw [State.deliver_notices]
      split
      · next on =>
        rw [State.raiseLimits_notices f s i short on]
        simp only [limitNotices, outputs i List.mem_cons_self]
      · next off => rw [limitNotices, if_neg fun h => off ((f.takes_iff i).2 h)]
    have short' : (State.deliver f s i).notices.list.length ≤ 8 := by
      rw [State.deliver_notices]
      split
      · exact s.raiseLimits_short i short _ _
      · exact short
    have rest : ∀ j ∈ is, (State.deliver f s i).cond.perChain[j] = perChain[j] := fun j mem => by
      rw [State.deliver_output, if_neg fun h : j = i ∧ f.takes i = true => fresh (h.1 ▸ mem), outputs j (List.mem_cons_of_mem _ mem)]
    rw [List.foldl_cons, ih _ nodup rest short', List.foldl_cons, one]

/-- Where every factor is below 1000 already, no notice is raised. -/
theorem State.foldl_deliver_quiet (f : Frame) (is : List (Fin 4)) : ∀ s : State, is.Nodup →
    (∀ i ∈ is, s.cond.perChain[i].thermal ≠ 1000 ∧ s.cond.perChain[i].budget ≠ 1000) →
    (is.foldl (State.deliver f) s).notices = s.notices ∧ (is.foldl (State.deliver f) s).noticeLow = s.noticeLow := by
  induction is with
  | nil => exact fun s _ _ => ⟨rfl, rfl⟩
  | cons i is ih =>
    intro s nodup low
    obtain ⟨fresh, nodup⟩ := List.nodup_cons.1 nodup
    obtain ⟨thermal, budget⟩ := low i List.mem_cons_self
    obtain ⟨notices, line⟩ := ih (State.deliver f s i) nodup fun j mem => by
      rw [State.deliver_output, if_neg fun h : j = i ∧ f.takes i = true => fresh (h.1 ▸ mem)]
      exact low j (List.mem_cons_of_mem _ mem)
    rw [State.deliver_notices, State.raiseLimits_quiet s i thermal budget, ite_self] at notices
    rw [State.deliver_line, State.raiseLimits_quiet s i thermal budget, ite_self] at line
    exact ⟨notices, line⟩

theorem State.foldl_deliver_line {n : Notices} (f : Frame) (is : List (Fin 4)) : ∀ s : State, s.lineFollows n →
    (is.foldl (State.deliver f) s).lineFollows n := by
  induction is with
  | nil => exact fun s h => h
  | cons i is ih => exact fun s h => ih _ (s.deliver_lineFollows f i h)

theorem Composer.record_latest (c : Composer) (f : Frame) (z : Fin 16) : (c.record f).latest[z] =
    if f.discarded.getLsbD z then c.latest[z] else some (f.snap.composite z) := by
  simp [Composer.record]

/-- Settles O38, by each chain's part in the completion. -/
theorem frameCompletionRecordsAndDelivers : Obligations.FrameCompletionRecordsAndDelivers := by
  intro s f awake flight
  have completed : s.completeFrame = (indices 4).foldl (State.deliver f) (s.setComposer (s.composer.record f)) := by
    simp only [State.completeFrame, flight]
  have nodup : (indices 4).Nodup := List.nodup_finRange 4
  have mem : ∀ i : Fin 4, i ∈ indices 4 := List.mem_finRange
  have composer := (State.foldl_deliver f (indices 4) (s.setComposer (s.composer.record f))).1
  rw [exec_frameCompletion, State.event_eq awake]
  refine ⟨_, rfl, ?_, ?_, ?_, fun z => ?_, fun i => ⟨fun takes => ?_, fun stays => ?_⟩, fun low => ?_, fun short => ?_, ?_, ?_,
    s.completeFrame_only.mono⟩ <;> rw [completed]
  · rw [composer]; rfl
  · rw [composer]; rfl
  · rw [composer]; rfl
  · rw [composer]
    exact s.composer.record_latest f z
  · obtain ⟨chain, output⟩ := State.foldl_deliver_chain f (indices 4) i (s.setComposer (s.composer.record f))
    have on : i ∈ indices 4 ∧ f.takes i = true := ⟨mem i, (f.takes_iff i).2 takes⟩
    rw [chain, output, if_pos on, if_pos on]
    exact ⟨rfl, rfl⟩
  · obtain ⟨chain, output⟩ := State.foldl_deliver_chain f (indices 4) i (s.setComposer (s.composer.record f))
    have off : ¬ (i ∈ indices 4 ∧ f.takes i = true) := fun on => stays ((f.takes_iff i).1 on.2)
    rw [chain, output, if_neg off, if_neg off]
    exact ⟨rfl, rfl⟩
  · exact State.foldl_deliver_quiet f _ (s.setComposer (s.composer.record f)) nodup fun i _ => low i
  · exact State.foldl_deliver_notices f s.cond.perChain _ (s.setComposer (s.composer.record f)) nodup (fun _ _ => rfl) short
  · exact State.foldl_deliver_line f _ (s.setComposer (s.composer.record f)) (.inl rfl)
  · exact State.foldl_deliver_cond f _ (s.setComposer (s.composer.record f))

end Sys2Proof.Machine

/-! PROOFS. The Sequence Engine (chapter 8): what the end of a run and a start leave, with the starts of a sequence and its
aborts. -/

namespace Sys2Proof.Machine

open Sys2Proof

/-! ## Steps of a slot -/

theorem HasStep.stepAt {k : Fin 6} {i : Nat} {x : Step} {s : State} (h : HasStep k i x s) :
    s.seq.slots[k].stepAt i = some x := by
  obtain ⟨j, at', step⟩ := h
  rw [SeqSlot.stepAt, index?_eq j at'.symm]
  exact step

theorem HasStep.congr {k : Fin 6} {i : Nat} {x : Step} {s t : State} (h : HasStep k i x s)
    (same : t.seq.slots[k].steps = s.seq.slots[k].steps) : HasStep k i x t := by
  obtain ⟨j, at', step⟩ := h
  exact ⟨j, at', by rw [same, step]⟩

/-- The step that a runner of the slot finds. -/
theorem HasStep.stepOf {k : Fin 6} {i : Nat} {x : Step} {s : State} (h : HasStep k i x s) {r : Fin 2}
    (runs : s.seq.runners[r].slot = some k) : s.seq.stepOf r i = some x := by
  rw [Sequencer.stepOf, runs]
  exact h.stepAt

/-- An advance that comes to a WAIT ends there (R159). -/
theorem State.advance_wait (n : Nat) {s : State} {r : Fin 2} {i d : Nat} (here : s.seq.stepOf r i = some (.wait d)) :
    State.advance (n + 1) r i s = s.waitAt r i .timedWait (some d) := by
  rw [State.advance, here]

/-! ## The zones that a slot posts to (R65) -/

/-- The zones of the template that a POST step names. -/
def Sequencer.zonesOf (q : Sequencer) : Option Step → BitVec 16
  | some (.post t _) => (q.templates[t].map (·.zones)).getD 0
  | _ => 0

theorem foldl_or_bit {α : Type} {w : Nat} (f : α → BitVec w) (xs : List α) (z : BitVec w) (n : Nat) :
    (xs.foldl (fun z x => z ||| f x) z).getLsbD n = true ↔ z.getLsbD n = true ∨ ∃ x ∈ xs, (f x).getLsbD n = true := by
  induction xs generalizing z with
  | nil => simp
  | cons x xs ih => simp [ih, or_assoc]

theorem Sequencer.postedZones_eq (q : Sequencer) (k : Fin 6) : q.postedZones k =
    q.slots[k].steps.toList.foldl (fun z x => z ||| q.zonesOf x) 0 := by
  refine congrArg (fun f => List.foldl f 0 q.slots[k].steps.toList) (funext fun z => funext fun x => ?_)
  rcases x with _ | step
  · exact BitVec.or_zero.symm
  · cases step with
    | post t l =>
      change (match q.templates[t] with
        | some d => z ||| d.zones
        | none => z) = z ||| ((q.templates[t]).map (·.zones)).getD 0
      cases q.templates[t] with
      | none => exact BitVec.or_zero.symm
      | some d => rfl
    | retire | modify | wait | waitSignal | repeatFrom | finish => exact BitVec.or_zero.symm

theorem mem_toList_iff {α : Type} {n : Nat} (v : Vector α n) (x : α) : x ∈ v.toList ↔ ∃ i : Fin n, v[i] = x := by
  rw [Vector.mem_toList_iff, Vector.mem_iff_getElem]
  exact ⟨fun ⟨i, hi, e⟩ => ⟨⟨i, hi⟩, e⟩, fun ⟨i, e⟩ => ⟨i, i.isLt, e⟩⟩

/-- The zones that a start releases are those that the slot posts to. -/
theorem State.postedZones_iff (s : State) (k : Fin 6) (z : Fin 16) :
    (s.seq.postedZones k).getLsbD z = true ↔ PostsTo k z s := by
  rw [Sequencer.postedZones_eq, foldl_or_bit]
  constructor
  · rintro (zero | ⟨x, mem, bit⟩)
    · simp at zero
    · obtain ⟨j, here⟩ := (mem_toList_iff _ _).1 mem
      unfold Sequencer.zonesOf at bit
      split at bit
      · next t l =>
        cases template : s.seq.templates[t] with
        | none => simp [-Fin.getElem_fin, template] at bit
        | some d => exact ⟨j, t, l, d, here, template, by simpa [-Fin.getElem_fin, template] using bit⟩
      · simp at bit
  · rintro ⟨j, t, l, d, here, template, bit⟩
    exact .inr ⟨_, (mem_toList_iff _ _).2 ⟨j, here⟩, by simpa [-Fin.getElem_fin, Sequencer.zonesOf, template] using bit⟩

theorem State.postedZones_zero {s : State} {k : Fin 6} (none' : ∀ z, ¬ PostsTo k z s) : s.seq.postedZones k = 0 := by
  refine BitVec.eq_of_getLsbD_eq fun i hi => ?_
  have off := (s.postedZones_iff k ⟨i, hi⟩).not.2 (none' _)
  simpa using off

/-! ## A start (R154) -/

section
variable {s : State} {r : Fin 2} {k : Fin 6} {d : Nat}

/-- A runner that is given a slot whose first step is a WAIT waits there. -/
theorem State.giveRunner_wait (first : HasStep k 0 (.wait d) s) (x : Starter) : s.giveRunner r k x =
    (((s.given r k x).releaseZones (s.seq.postedZones k)).reloadDark).waitAt r 0 .timedWait (some d) := by
  have steps : (s.given r k x).seq.slots[k].steps = s.seq.slots[k].steps := by rw [State.given_slot, if_pos rfl]
  have zones : (s.given r k x).seq.postedZones k = s.seq.postedZones k := by
    rw [Sequencer.postedZones, Sequencer.postedZones, steps]
    rfl
  have seq : (((s.given r k x).releaseZones (s.seq.postedZones k)).reloadDark).seq = (s.given r k x).seq :=
    (State.releaseZones_only _ _).field .seq
  rw [State.giveRunner_eq, zones]
  refine State.advance_wait 8223 ?_
  rw [seq]
  exact (first.congr steps).stepOf (by rw [State.given_runner, if_pos rfl]; rfl)

/-- What such a start leaves. -/
theorem State.giveRunner_started (first : HasStep k 0 (.wait d) s) (x : Starter) :
    Started r k x d s (s.giveRunner r k x) ∧
      (∀ q : Fin 2, q ≠ r → (s.giveRunner r k x).seq.runners[q] = s.seq.runners[q]) ∧
      (∀ m : Fin 6, m ≠ k → (s.giveRunner r k x).seq.slots[m] = s.seq.slots[m]) ∧
      (s.giveRunner r k x).power = s.power.reloadDark ∧
      (s.giveRunner r k x).zones = ((s.given r k x).releaseZones (s.seq.postedZones k)).zones ∧
      (s.giveRunner r k x).watches = ((s.given r k x).releaseZones (s.seq.postedZones k)).watches ∧
      OnlyChanges [.zones, .watches, .seq, .power] s (s.giveRunner r k x) := by
  rw [State.giveRunner_wait first]
  generalize s.seq.postedZones k = zones
  have seq : (((s.given r k x).releaseZones zones).reloadDark).seq = (s.given r k x).seq :=
    (State.releaseZones_only _ _).field .seq
  have power : (((s.given r k x).releaseZones zones).reloadDark).power = s.power.reloadDark :=
    congrArg Power.reloadDark ((State.releaseZones_only _ _).field .power)
  have runner : ∀ q : Fin 2, ((((s.given r k x).releaseZones zones).reloadDark).waitAt r 0 .timedWait (some d)).seq.runners[q] =
      if q = r then { Runner.given k x s.seq.nextOrder with state := .timedWait, index := 0, wait := some d }
      else s.seq.runners[q] := fun q => by
    rw [State.waitAt, State.setRunner_runner, seq]
    split
    · next e => rw [State.given_runner, if_pos rfl]
    · next e => rw [State.given_runner, if_neg e]
  have slot : ∀ m : Fin 6, ((((s.given r k x).releaseZones zones).reloadDark).waitAt r 0 .timedWait (some d)).seq.slots[m] =
      if m = k then { s.seq.slots[k] with state := .running r } else s.seq.slots[m] := fun m => by
    show (((s.given r k x).releaseZones zones).reloadDark).seq.slots[m] = _
    rw [seq, State.given_slot]
  refine ⟨⟨(runner r).trans (if_pos rfl), (slot k).trans (if_pos rfl), ?_, ?_⟩, fun q ne => (runner q).trans (if_neg ne),
    fun m ne => (slot m).trans (if_neg ne), power, rfl, rfl, ?_⟩
  · show (((s.given r k x).releaseZones zones).reloadDark).seq.templates = _
    rw [seq]
    rfl
  · show (((s.given r k x).releaseZones zones).reloadDark).seq.nextOrder = _
    rw [seq]
    rfl
  · exact ((((s.setSeq_only _).mono).trans ((State.releaseZones_only _ zones).mono)).trans
      ((State.reloadDark_only _).mono)).trans ((State.waitAt_only _ r 0 .timedWait (some d)).mono)

/-- With no zone to release, nothing but the Sequence Engine and the dark interval has changed. -/
theorem State.giveRunner_only_engine (first : HasStep k 0 (.wait d) s) (none' : ∀ z, ¬ PostsTo k z s) (x : Starter) :
    OnlyChanges [.seq, .power] s (s.giveRunner r k x) := by
  rw [State.giveRunner_wait first, State.postedZones_zero none']
  exact (((s.setSeq_only _).mono).trans ((State.reloadDark_only (s.given r k x)).mono)).trans
    ((State.waitAt_only _ r 0 .timedWait (some d)).mono)

end
/-! ## The labels of a runner (R157) -/

/-- Runner `r` has forgotten the labels that satisfy `p`, and nothing else of the Sequence Engine has changed. -/
def Relabels (r : Fin 2) (p : Handle → Bool) (s t : State) : Prop :=
  t.seq.runners[r] = { s.seq.runners[r] with labels := labelsWithout s.seq.runners[r].labels p } ∧
    (∀ q : Fin 2, q ≠ r → t.seq.runners[q] = s.seq.runners[q]) ∧ t.seq = { s.seq with runners := t.seq.runners }

theorem labelsWithout_false (labels : Vector (Option Handle) 8) : labelsWithout labels (fun _ => false) = labels := by
  refine Vector.ext fun i hi => ?_
  simp only [labelsWithout, Vector.getElem_map, Bool.not_false]
  cases labels[i] <;> rfl

theorem labelsWithout_twice (labels : Vector (Option Handle) 8) (p q : Handle → Bool) :
    labelsWithout (labelsWithout labels p) q = labelsWithout labels fun h => p h || q h := by
  refine Vector.ext fun i hi => ?_
  simp only [labelsWithout, Vector.getElem_map, Option.filter_filter, Bool.not_or]

theorem Relabels.of_seq {r : Fin 2} {s t : State} (same : t.seq = s.seq) : Relabels r (fun _ => false) s t :=
  ⟨by rw [same, labelsWithout_false], fun q _ => by rw [same], by rw [same]⟩

theorem Relabels.trans {r : Fin 2} {p q : Handle → Bool} {s u t : State} (first : Relabels r p s u)
    (second : Relabels r q u t) : Relabels r (fun h => p h || q h) s t := by
  obtain ⟨self, other, rest⟩ := first
  obtain ⟨self', other', rest'⟩ := second
  refine ⟨?_, fun j ne => (other' j ne).trans (other j ne), ?_⟩
  · rw [self', self]
    exact congrArg (fun l => { s.seq.runners[r] with labels := l }) (labelsWithout_twice _ p q)
  · rw [rest', rest]

/-- A freed cue leaves the labels of its runner. -/
theorem State.freeSlot_relabels {s : State} {k : Fin 48} {c : Cue} (live : s.cues.slots[k].cue = some c) {r : Fin 2}
    (own : ∀ y, c.tag = some y → y.runner = r) (g) :
    Relabels r (fun h => c.ranBy r && h == s.handleAt k) s (s.freeSlot g k) := by
  have seq := State.freeSlot_seq live g
  cases tag : c.tag with
  | none =>
    rw [tag] at seq
    have off : c.ranBy r = false := by rw [Cue.ranBy, tag]; rfl
    simp only [off, Bool.false_and]
    exact .of_seq seq
  | some y =>
    rw [tag] at seq
    have on : c.ranBy r = true := by rw [Cue.ranBy, tag, ← own y tag]; simp
    simp only [on, Bool.true_and]
    dsimp only at seq
    rw [own y tag] at seq
    refine ⟨?_, fun q ne => ?_, by rw [seq]⟩
    · rw [seq]
      refine (getElem_modifyAt_self _ _ _).trans ?_
      exact Runner.forget_eq _ _
    · rw [seq]
      exact getElem_modifyAt_ne _ _ ne

theorem CueSlot.faded_fades {exit : Cue → Nat} {x : CueSlot} {c : Cue} (made : (x.faded exit).cue = some c) :
    c.phase.isFadingOut = true := by
  obtain ⟨b, -, made⟩ := Option.bind_eq_some_iff.1 made
  split at made
  · next fades => cases made; exact fades
  · split at made <;> cases made
    rfl

theorem CueSlot.faded_tag {exit : Cue → Nat} {x : CueSlot} {c : Cue} (made : (x.faded exit).cue = some c) :
    ∃ b, x.cue = some b ∧ c.tag = b.tag := by
  obtain ⟨b, held, made⟩ := Option.bind_eq_some_iff.1 made
  refine ⟨b, held, ?_⟩
  split at made
  · cases made; rfl
  · split at made <;> cases made
    rfl

/-- Whether a fade-out of this slot's cue takes it out of the labels of runner `r` at once (R10, R157). -/
def CueSlot.labelEnds (r : Fin 2) (exit : Cue → Nat) (x : CueSlot) : Bool :=
  x.cue.any fun c => c.ranBy r && !c.phase.isFadingOut && exit c == 0

theorem CueSlot.labelEnds_faded (r : Fin 2) (exit : Cue → Nat) (x : CueSlot) : (x.faded exit).labelEnds r exit = false := by
  rw [CueSlot.labelEnds]
  cases made : (x.faded exit).cue with
  | none => rfl
  | some c => simp [CueSlot.faded_fades made]

/-- The cues of these slots are of runner `r`, or of none. -/
def State.ownedBy (s : State) (r : Fin 2) (ks : List (Fin 48)) : Prop :=
  ∀ k ∈ ks, ∀ c, s.cues.slots[k].cue = some c → ∀ y, c.tag = some y → y.runner = r

/-- A fade-out that frees a cue at once takes it out of the labels. -/
theorem State.beginFade_relabels {s : State} {r : Fin 2} {k : Fin 48} {ks : List (Fin 48)} (own : s.ownedBy r (k :: ks))
    (g exit) : Relabels r (fun h => s.cues.slots[k].labelEnds r exit && h == s.handleAt k) s (s.beginFade g exit k) := by
  cases live : s.cues.slots[k].cue with
  | none =>
    have off : s.cues.slots[k].labelEnds r exit = false := by rw [CueSlot.labelEnds, live]; rfl
    simp only [off, Bool.false_and]
    refine .of_seq ?_
    rw [State.beginFade, State.cueAt, live]
  | some c =>
    have ends : s.cues.slots[k].labelEnds r exit = (c.ranBy r && !c.phase.isFadingOut && exit c == 0) := by
      rw [CueSlot.labelEnds, live]; rfl
    rw [ends]
    cases on : c.phase.isFadingOut with
    | true =>
      rw [State.beginFade_fading live on]
      simp only [Bool.not_true, Bool.and_false, Bool.false_and]
      exact .of_seq rfl
    | false =>
      rw [State.beginFade_started live on]
      have seq : (s.fadeStarted g k c (exit c)).seq = s.seq := (State.fadeStarted_only s k c g (exit c)).field .seq
      split
      · next zero =>
        have now : (s.fadeStarted g k c (exit c)).cues.slots[k].cue = some (c.fading (exit c)) := by
          rw [State.fadeStarted_self]
        have freed := State.freeSlot_relabels now (own k (List.mem_cons_self ..) c live) g
        have same : (s.fadeStarted g k c (exit c)).handleAt k = s.handleAt k := by
          rw [State.handleAt, State.fadeStarted_self, State.handleAt]
        have once : (exit c == 0) = true := beq_iff_eq.2 zero
        refine (congrArg (fun p => Relabels r p s _) (funext fun h => ?_)).mp ((Relabels.of_seq seq).trans freed)
        rw [same, once, Bool.not_false, Bool.and_true, Bool.and_true, Bool.false_or]
        rfl
      · next long =>
        simp only [beq_eq_false_iff_ne.2 long, Bool.and_false, Bool.false_and]
        exact .of_seq seq

theorem State.ownedBy.tail {s : State} {r : Fin 2} {k : Fin 48} {ks : List (Fin 48)} (own : s.ownedBy r (k :: ks)) (g exit) :
    (s.beginFade g exit k).ownedBy r ks := by
  intro j mem c held
  rw [State.beginFade_slots] at held
  split at held
  · obtain ⟨b, was, tag⟩ := CueSlot.faded_tag held
    rw [tag]
    exact own k (List.mem_cons_self ..) b was
  · exact own j (List.mem_cons_of_mem _ mem) c held

/-- What a list of fade-outs takes out of the labels. -/
theorem State.foldl_beginFade_relabels {r : Fin 2} (g exit) (ks : List (Fin 48)) : ∀ {s : State}, s.ownedBy r ks →
    Relabels r (fun h => s.cues.slots[h.slot].labelEnds r exit && (decide (h.slot ∈ ks) && h.gen == s.cues.slots[h.slot].gen))
      s (ks.foldl (State.beginFade g exit) s) := by
  induction ks with
  | nil =>
    intro s _
    simp only [List.not_mem_nil, decide_false, Bool.false_and, Bool.and_false]
    exact .of_seq rfl
  | cons k ks ih =>
    intro s own
    have both := (State.beginFade_relabels own g exit).trans (ih (own.tail g exit))
    refine (congrArg (fun p => Relabels r p s _) (funext fun h => ?_)).mp both
    rw [State.beginFade_slots]
    have names : (h == s.handleAt k) = (decide (h.slot = k) && h.gen == s.cues.slots[k].gen) := by
      rcases h with ⟨slot, gen⟩
      rw [Bool.eq_iff_iff, beq_iff_eq, State.handleAt]
      simp [-Fin.getElem_fin]
    rw [names]
    by_cases here : h.slot = k
    · simp only [here, if_true, CueSlot.labelEnds_faded, Bool.false_and, Bool.or_false, decide_true, List.mem_cons_self]
    · simp only [here, if_false, decide_false, Bool.false_and, Bool.and_false, Bool.false_or, List.mem_cons, false_or]

/-! ## The end of a run (R163, R164, R166) -/

section
variable {s u : State} {r : Fin 2} {k : Fin 6} {p : Handle → Bool}

/-- A runner that stops, once its cues are disposed of. -/
theorem State.stopRunner_ends (labels : Relabels r p s u) (slot : s.seq.runners[r].slot = some k) (cause : EndCause) :
    RunEnds r k s (u.stopRunner r cause) := by
  obtain ⟨self, other, rest⟩ := labels
  have held : u.seq.runners[r].slot = some k := by rw [self]; exact slot
  have slots : ∀ m : Fin 6, u.seq.slots[m] = s.seq.slots[m] := fun m => by rw [rest]
  have frame : (u.idleRunner r).seq.templates = u.seq.templates ∧ (u.idleRunner r).seq.nextOrder = u.seq.nextOrder := by
    unfold State.idleRunner
    dsimp only
    split <;> exact ⟨rfl, rfl⟩
  rw [RunEnds, State.stopRunner_idle]
  refine ⟨?_, fun q ne => ?_, ?_, fun m ne => ?_, ?_, ?_⟩
  · rw [State.idleRunner_runner, if_pos rfl, self]
  · rw [State.idleRunner_runner, if_neg ne, other q ne]
  · rw [State.idleRunner_slot, if_pos held, slots]
  · rw [State.idleRunner_slot, if_neg (by rw [held]; simpa using Ne.symm ne), slots]
  · rw [frame.1, rest]
  · rw [frame.2, rest]

theorem State.stopRunner_notices (held : u.seq.runners[r].slot = some k) (few : u.notices.list.length ≤ 8) (cause : EndCause) :
    (u.stopRunner r cause).notices = u.notices.after .sequenceEnd (.slot k) (.ended cause) := by
  have same : (u.idleRunner r).notices = u.notices := (u.idleRunner_only r).field .notices
  rw [State.stopRunner, held]
  dsimp only
  rw [State.raise_notices, same, Notices.raise_eq _ few]

/-- The Palette after the report of the end of a run. -/
theorem State.reportIdle_settles (ends : RunEnds r k s u) (palette : u.palette = s.palette) : staysStaged r s u.reportIdle := by
  obtain ⟨self, other, -⟩ := ends
  have idle : u.seq.runners[r].state.active = false := by rw [self]; rfl
  have active : u.seq.anyActive = false ↔ ∀ q : Fin 2, q ≠ r → s.seq.runners[q].state = .idle := by
    have each : ∀ q : Fin 2, q ≠ r → (u.seq.runners[q].state.active = false ↔ s.seq.runners[q].state = .idle) := fun q ne => by
      rw [other q ne, ← Bool.not_eq_true, RunnerState.active_iff, ne_eq, Decidable.not_not]
    rw [Sequencer.anyActive_eq, Bool.or_eq_false_iff]
    refine (Fin.forall_fin_two (p := fun q => u.seq.runners[q].state.active = false)).symm.trans
      ⟨fun h q ne => (each q ne).1 (h q), fun h q => ?_⟩
    by_cases e : q = r
    · rw [e]
      exact idle
    · exact (each q e).2 (h q e)
  intro e
  rw [State.reportIdle]
  cases on : u.seq.anyActive with
  | true =>
    rw [if_pos rfl, if_neg (fun h => by rw [active.2 h] at on; cases on), palette]
  | false =>
    rw [if_neg Bool.false_ne_true, if_pos (active.1 on), ← palette]
    exact (Vector.getElem_map ..).trans (PaletteEntry.apply_eq_settled _)

end

/-! ## An abort (R164) -/

section
variable {s : State} {r : Fin 2}

theorem State.runnerCues_owned (s : State) (r : Fin 2) : s.ownedBy r (s.runnerCues r) := by
  intro k mem c live y tag
  have own := (List.mem_filter.1 mem).2
  rw [State.cueAt, live] at own
  simpa [tag] using own

/-- The cues of a runner fade (R164). -/
theorem State.fadeAll_runner (inv : CueInv s) : CuesFade (Cue.ranBy r) s (s.fadeAll (s.runnerCues r)) := by
  intro k
  have mem : k ∈ s.runnerCues r ↔ s.cues.slots[k].cue.any (Cue.ranBy r) = true := State.mem_cuesWhere inv _ k
  rw [State.fadeAll, State.foldl_beginFade_slots]
  simp only [mem]
  rcases s.cues.slots[k] with ⟨gen, _ | c⟩
  · rfl
  · cases mine : c.ranBy r with
    | false => simp [mine]
    | true => cases on : c.phase.isFadingOut with
      | true => simp [CueSlot.faded, mine, on]
      | false => by_cases zero : c.desc.fadeOut = 0 <;> simp [CueSlot.faded, mine, on, zero, Cue.ownFade, Cue.fading]

theorem State.fadeAll_relabels (s : State) (r : Fin 2) : ∃ p, Relabels r p s (s.fadeAll (s.runnerCues r)) :=
  ⟨_, State.foldl_beginFade_relabels none Cue.ownFade _ (s.runnerCues_owned r)⟩

/-- What an abort leaves before its report. -/
theorem State.abortQuiet_ends (inv : CueInv s) {k : Fin 6} (slot : s.seq.runners[r].slot = some k)
    (few : s.notices.list.length ≤ 8) (cause : EndCause) :
    RunEnds r k s (s.abortQuiet r cause) ∧ CuesFade (Cue.ranBy r) s (s.abortQuiet r cause) ∧
      (s.abortQuiet r cause).notices = s.notices.after .sequenceEnd (.slot k) (.ended cause) := by
  obtain ⟨p, labels⟩ := s.fadeAll_relabels r
  have held : (s.fadeAll (s.runnerCues r)).seq.runners[r].slot = some k := by rw [labels.1]; exact slot
  have notices : (s.fadeAll (s.runnerCues r)).notices = s.notices := (s.fadeAll_only _).field .notices
  refine ⟨State.stopRunner_ends labels slot cause, fun j => ?_, ?_⟩
  · rw [State.abortQuiet, show (State.stopRunner _ r cause).cues = _ from (State.stopRunner_only _ r cause).field .cues]
    exact State.fadeAll_runner inv j
  · rw [State.abortQuiet, State.stopRunner_notices held (by rw [notices]; exact few), notices]

/-- What an abort leaves. -/
theorem State.abortRunner_ends (inv : CueInv s) {k : Fin 6} (slot : s.seq.runners[r].slot = some k)
    (few : s.notices.list.length ≤ 8) (cause : EndCause) :
    RunEnds r k s (s.abortRunner r cause) ∧ CuesFade (Cue.ranBy r) s (s.abortRunner r cause) ∧
      (s.abortRunner r cause).notices = s.notices.after .sequenceEnd (.slot k) (.ended cause) ∧
      staysStaged r s (s.abortRunner r cause) := by
  obtain ⟨ends, fades, notices⟩ := State.abortQuiet_ends inv slot few cause
  have only := (s.abortQuiet r cause).reportIdle_only
  have seq : (s.abortRunner r cause).seq = (s.abortQuiet r cause).seq := only.field .seq
  have cues : (s.abortRunner r cause).cues = (s.abortQuiet r cause).cues := only.field .cues
  refine ⟨?_, fun j => ?_, (only.field .notices).trans notices, State.reportIdle_settles ends
    ((s.abortQuiet_only r cause).field .palette)⟩
  · rw [RunEnds, seq]
    exact ends
  · rw [cues]
    exact fades j

end

end Sys2Proof.Machine

/-! PROOFS. Starting, aborting and reading a sequence (R152 to R154, R164 to R167). -/

namespace Sys2Proof.Machine

open Sys2Proof

/-! ## Which runner a start takes (R152) -/

section
variable {q : Sequencer} {r : Fin 2} {n : Nat}

theorem Sequencer.arbitrate_idle (idle : q.runners[r].state = .idle) (below : ∀ j < r, q.runners[j].state ≠ .idle) (n : Nat) :
    q.arbitrate n = .free r := by
  match r with
  | 0 => exact if_pos idle
  | 1 => exact (if_neg (below 0 (by decide))).trans (if_pos idle)

theorem Sequencer.rankOf_eq {m : Fin 6} (slot : q.runners[r].slot = some m) : q.rankOf r = q.slots[m].rank := by
  rw [Sequencer.rankOf, slot]

theorem Sequencer.arbitrate_active (active : ∀ j : Fin 2, q.runners[j].state ≠ .idle) (n : Nat) :
    q.arbitrate n = if q.rankOf q.candidate < n then .preempt q.candidate else .busy :=
  (if_neg (active 0)).trans (if_neg (active 1))

/-- Of two active runners, a start pre-empts the one of the lower rank, of equals the one started earlier. -/
theorem Sequencer.candidate_eq {m : Fin 6} {a : Nat} (slot : q.runners[r].slot = some m) (order : q.runners[r].order = some a)
    (lower : ∀ j : Fin 2, j ≠ r → ∃ n b, q.runners[j].slot = some n ∧ q.runners[j].order = some b ∧
      (q.slots[m].rank < q.slots[n].rank ∨ (q.slots[m].rank = q.slots[n].rank ∧ a < b))) : q.candidate = r := by
  match r with
  | 0 =>
    obtain ⟨n, b, slot', order', less⟩ := lower 1 (by decide)
    rw [Sequencer.candidate, Sequencer.rankOf_eq slot, Sequencer.rankOf_eq slot', show q.runners[0].order = some a from order,
      show q.runners[1].order = some b from order']
    rcases less with less | ⟨same, less⟩
    · exact if_pos less
    · exact (if_neg (by omega)).trans ((if_neg (by omega)).trans (if_pos less))
  | 1 =>
    obtain ⟨n, b, slot', order', less⟩ := lower 0 (by decide)
    rw [Sequencer.candidate, Sequencer.rankOf_eq slot, Sequencer.rankOf_eq slot', show q.runners[1].order = some a from order,
      show q.runners[0].order = some b from order']
    rcases less with less | ⟨same, less⟩
    · exact (if_neg (by omega)).trans (if_pos less)
    · exact (if_neg (by omega)).trans ((if_neg (by omega)).trans (if_neg (Nat.not_lt.2 less.le)))

/-- Where the new rank is above neither, the start is refused. -/
theorem Sequencer.arbitrate_busy (held : ∀ j : Fin 2, q.runners[j].state ≠ .idle ∧
    ∃ m, q.runners[j].slot = some m ∧ n ≤ q.slots[m].rank) : q.arbitrate n = .busy := by
  obtain ⟨m, slot, least⟩ := (held q.candidate).2
  rw [Sequencer.arbitrate_active fun j => (held j).1, Sequencer.rankOf_eq slot, if_neg (Nat.not_lt.2 least)]

end

section
variable {s : State} {k m : Fin 6} {r : Fin 2}

theorem State.startSlot_free (ready : s.seq.slots[k].state = .ready) (idle : s.seq.runners[r].state = .idle)
    (below : ∀ j < r, s.seq.runners[j].state ≠ .idle) (x : Starter) : s.startSlot k x = .ok (r, s.giveRunner r k x) := by
  rw [State.startSlot, ready]
  simp only [Sequencer.arbitrate_idle idle below]

theorem State.startSlot_preempts (ready : s.seq.slots[k].state = .ready) (active : ∀ q : Fin 2, s.seq.runners[q].state ≠ .idle)
    (slot : s.seq.runners[r].slot = some m) {a : Nat} (order : s.seq.runners[r].order = some a)
    (less : s.seq.slots[m].rank < s.seq.slots[k].rank)
    (lower : ∀ q : Fin 2, q ≠ r → ∃ n b, s.seq.runners[q].slot = some n ∧ s.seq.runners[q].order = some b ∧
      (s.seq.slots[m].rank < s.seq.slots[n].rank ∨ (s.seq.slots[m].rank = s.seq.slots[n].rank ∧ a < b))) (x : Starter) :
    s.startSlot k x = .ok (r, (s.abortQuiet r .preempted).giveRunner r k x) := by
  have taken : s.seq.arbitrate s.seq.slots[k].rank = .preempt r := by
    rw [Sequencer.arbitrate_active active, Sequencer.candidate_eq slot order lower, Sequencer.rankOf_eq slot, if_pos less]
  rw [State.startSlot, ready]
  simp only [taken]

theorem State.startSlot_busy (ready : s.seq.slots[k].state = .ready) (held : ∀ q : Fin 2, s.seq.runners[q].state ≠ .idle ∧
    ∃ n, s.seq.runners[q].slot = some n ∧ s.seq.slots[k].rank ≤ s.seq.slots[n].rank) (x : Starter) :
    s.startSlot k x = .error .busy := by
  rw [State.startSlot, ready]
  simp only [Sequencer.arbitrate_busy held]

theorem State.startSlot_running (running : s.seq.slots[k].state = .running r) (x : Starter) : s.startSlot k x = .error .busy := by
  rw [State.startSlot, running]

theorem State.startSlot_absent (absent : s.seq.slots[k].state = .empty ∨ s.seq.slots[k].state = .loading) (x : Starter) :
    s.startSlot k x = .error .notFound := by
  rcases absent with e | e <;> rw [State.startSlot, e]

end

theorem Started.congr {r : Fin 2} {k : Fin 6} {x : Starter} {d : Nat} {s u t : State} (h : Started r k x d s u)
    (same : t.seq = u.seq) : Started r k x d s t := by
  rw [Started, same]
  exact h

theorem CuesFade.congr {p : Cue → Bool} {s u t : State} (h : CuesFade p s u) (same : t.cues = u.cues) : CuesFade p s t := by
  rw [CuesFade, same]
  exact h

/-- What a start leaves that takes runner `r`, which no start has pre-empted: with the zones it releases left aside. -/
def Takes (r : Fin 2) (k : Fin 6) (x : Starter) (d : Nat) (s t : State) : Prop :=
  Started r k x d s t ∧ (∀ q : Fin 2, q ≠ r → t.seq.runners[q] = s.seq.runners[q]) ∧
    (∀ m : Fin 6, m ≠ k → t.seq.slots[m] = s.seq.slots[m]) ∧ t.power = s.power.reloadDark

theorem Takes.congr {r : Fin 2} {k : Fin 6} {x : Starter} {d : Nat} {s u t : State} (h : Takes r k x d s u)
    (seq : t.seq = u.seq) (power : t.power = u.power) : Takes r k x d s t := by
  rw [Takes, Started, seq, power]
  exact h

theorem State.giveRunner_takes {s : State} {r : Fin 2} {k : Fin 6} {d : Nat} (first : HasStep k 0 (.wait d) s) (x : Starter) :
    Takes r k x d s (s.giveRunner r k x) := by
  obtain ⟨started, others, rest, power, -⟩ := State.giveRunner_started first x
  exact ⟨started, others, rest, power⟩

/-- What a start leaves that pre-empts runner `r`, with slot `m` (R152, R154, R164). -/
def Preempts (r : Fin 2) (k m : Fin 6) (x : Starter) (d : Nat) (s t : State) : Prop :=
  Started r k x d s t ∧ (∀ q : Fin 2, q ≠ r → t.seq.runners[q] = s.seq.runners[q]) ∧
    t.seq.slots[m] = { s.seq.slots[m] with state := .ready } ∧
    (∀ n : Fin 6, n ≠ k → n ≠ m → t.seq.slots[n] = s.seq.slots[n]) ∧ CuesFade (Cue.ranBy r) s t ∧
    t.notices = s.notices.after .sequenceEnd (.slot m) (.ended .preempted) ∧ t.power = s.power.reloadDark

theorem Preempts.congr {r : Fin 2} {k m : Fin 6} {x : Starter} {d : Nat} {s u t : State} (h : Preempts r k m x d s u)
    (seq : t.seq = u.seq) (cues : t.cues = u.cues) (notices : t.notices = u.notices) (power : t.power = u.power) :
    Preempts r k m x d s t := by
  rw [Preempts, Started, CuesFade, seq, cues, notices, power]
  exact h

theorem State.preempt_started {s : State} {r : Fin 2} {k m : Fin 6} (inv : CueInv s) (few : s.notices.list.length ≤ 8)
    (slot : s.seq.runners[r].slot = some m) (ne : m ≠ k) {d : Nat} (first : HasStep k 0 (.wait d) s)
    (none' : ∀ z, ¬ PostsTo k z s) (x : Starter) :
    Preempts r k m x d s ((s.abortQuiet r .preempted).giveRunner r k x) ∧
      OnlyChanges [.cues, .zones, .watches, .seq, .power, .notices, .noticeLow] s
        ((s.abortQuiet r .preempted).giveRunner r k x) := by
  obtain ⟨⟨-, others, freed, rest, templates, order⟩, fades, notices⟩ := State.abortQuiet_ends inv slot few .preempted
  have quiet := s.abortQuiet_only r .preempted
  generalize s.abortQuiet r .preempted = u at *
  have same : u.seq.slots[k] = s.seq.slots[k] := rest k ne.symm
  have first' : HasStep k 0 (.wait d) u := first.congr (by rw [same])
  have none'' : ∀ z, ¬ PostsTo k z u := fun z ⟨j, a, l, b, step, template, bit⟩ =>
    none' z ⟨j, a, l, b, by rw [← same]; exact step, by rw [← templates]; exact template, bit⟩
  obtain ⟨⟨runner, taken, kept, next⟩, others', rest', power⟩ := State.giveRunner_takes (r := r) first' x
  have only := State.giveRunner_only_engine (r := r) first' none'' x
  refine ⟨⟨⟨?_, ?_, kept.trans templates, next.trans (by rw [order])⟩, fun q ne' => (others' q ne').trans (others q ne'),
    (rest' m ne).trans freed, fun n nk nm => (rest' n nk).trans (rest n nm), fades.congr (only.field .cues),
    (only.field .notices).trans notices, power.trans (congrArg Power.reloadDark (quiet.field .power))⟩,
    (quiet.mono (by decide)).trans (only.mono (by decide))⟩
  · rw [runner, order]
  · rw [taken, same]

/-- The report of the Sequence Engine, field by field (R167). -/
theorem Sequencer.report_runner {q : Sequencer} {k : Fin 6} {r : Fin 2} (running : q.slots[k].state = .running r) (first : Nat) :
    (q.report k first).runner = some { number := r, runner := q.runners[r] } := by
  simp only [Sequencer.report, running]

/-! ## START_SEQUENCE and READ_SEQUENCE -/

section
variable {h : Header} {slot : Byte} {k : Fin 6} {s : State} (r : Reaches .open_ h s) (plain : h.plain = true)
  (named : slot.toNat = k.val)
include r plain named

theorem startSequence_starts (awake : s.power.state ≠ .dimming) {q s'} (starts : s.startSlot k (.client h.client) = .ok (q, s')) :
    CarriesOut h false (.runner q) (.startSequence h slot) s s' := by
  refine open_done (i := .startSequence h slot) r rfl ?_
  rw [require_true plain, requireSome_some (index?_eq k named), guardWith_false (beq_eq_false_iff_ne.2 awake), starts]

theorem startSequence_refuses (awake : s.power.state ≠ .dimming) {x} (refuses : s.startSlot k (.client h.client) = .error x) :
    Refuses h x .empty (.startSequence h slot) s := by
  refine open_refused (i := .startSequence h slot) r rfl ?_
  rw [require_true plain, requireSome_some (index?_eq k named), guardWith_false (beq_eq_false_iff_ne.2 awake), refuses]

end

/-- A release leaves the generations of the watch slots. -/
theorem State.releaseZones_gen (s : State) (zones : BitVec 16) (w : Fin 8) :
    (s.releaseZones zones).watches.slots[w].gen = s.watches.slots[w].gen := by
  have one : ∀ (s : State) (z : Fin 16), (s.releaseZone z).watches.slots[w].gen = s.watches.slots[w].gen := fun s z => by
    unfold State.releaseZone
    split
    · rfl
    · exact (congrArg WatchSlot.gen (WatchTable.invalidate_slot s.watches none z w)).trans rfl
  unfold State.releaseZones
  generalize members zones = zs
  induction zs generalizing s with
  | nil => rfl
  | cons z zs ih => exact (ih (s.releaseZone z)).trans (one s z)

theorem State.releaseZones_zone (s : State) (zones : BitVec 16) (z : Fin 16) : (s.releaseZones zones).zones[z] =
    if zones.getLsbD z = true ∧ s.zones[z].hold ≠ .clear then
      { s.zones[z] with hold := .clear, count := s.zones[z].count + 1 } else s.zones[z] := by
  refine ((releaseZone_op.foldl (members_nodup zones) s).1 z).trans ?_
  simp only [mem_members, bne_iff_ne]

theorem State.releaseZones_watch (s : State) (zones : BitVec 16) (w : Fin 8) : (s.releaseZones zones).watches.slots[w] =
    { s.watches.slots[w] with entry := s.watches.slots[w].entry.filter fun e =>
        !(zones.getLsbD e.zone && s.zones[e.zone].hold != .clear) } := by
  have entry := (releaseZone_op.foldl (members_nodup zones) s).2 w
  have gen := s.releaseZones_gen zones w
  simp only [mem_members, Bool.decide_eq_true] at entry
  change (s.releaseZones zones).watches.slots[w].entry = _ at entry
  calc (s.releaseZones zones).watches.slots[w]
      = { gen := (s.releaseZones zones).watches.slots[w].gen, entry := (s.releaseZones zones).watches.slots[w].entry } := rfl
    _ = _ := by rw [gen, entry]

/-- Settles O51, by the arbitration and what a start leaves that takes a runner or pre-empts one. -/
theorem startSequenceTakesARunner : Obligations.StartSequenceTakesARunner := by
  refine ⟨fun h slot k s reaches plain named => ⟨?_, ?_, ?_, ?_, ?_, ?_, ?_, ?_⟩, fun h slot first s reaches plain => ⟨?_, ?_⟩⟩
  · intro d awake ready step noPost idle
    have first : HasStep k 0 (.wait d) s := ⟨0, rfl, step⟩
    have none' : ∀ z, ¬ PostsTo k z s := fun z ⟨j, t, l, _, post, _⟩ => noPost j t l post
    obtain ⟨t, run, answers, stored⟩ := startSequence_starts reaches plain named awake
      (State.startSlot_free ready idle (fun j less => absurd less (Fin.not_lt_zero j)) (.client h.client))
    obtain ⟨⟨runner, taken, templates, -⟩, others, rest, power⟩ :=
      (State.giveRunner_takes first _).congr (stored.field .seq) (stored.field .power)
    exact ⟨t, run, answers, runner, others 1 (by decide), taken, rest, templates, power,
      OnlyChanges.answered (State.giveRunner_only_engine first none' _) stored⟩
  · intro d r awake ready first idle below
    have lower : ∀ j < r, s.seq.runners[j].state ≠ .idle := fun j less => by
      have e : r = 1 ∧ j = 0 := by omega
      rw [e.2]
      exact below e.1
    obtain ⟨t, run, answers, stored⟩ := startSequence_starts reaches plain named awake
      (State.startSlot_free ready idle lower (.client h.client))
    obtain ⟨started, others, rest, power⟩ :=
      (State.giveRunner_takes first (.client h.client)).congr (stored.field .seq) (stored.field .power)
    obtain ⟨-, -, -, -, zones, watches, only⟩ := State.giveRunner_started (r := r) first (.client h.client)
    have zones' : t.zones = _ := (stored.field .zones).trans zones
    have watches' : t.watches = _ := (stored.field .watches).trans watches
    refine ⟨t, run, answers, started, others, rest, fun z => ?_, power, OnlyChanges.answered only stored⟩
    have posts := s.postedZones_iff k z
    rw [zones', watches', State.releaseZones_zone]
    refine ⟨fun posted held => ⟨if_pos ⟨posts.2 posted, held⟩, fun w at' => ?_⟩, fun off => ⟨if_neg ?_, fun w at' => ?_⟩⟩
    · obtain ⟨e, entry, rfl⟩ := Option.map_eq_some_iff.1 at'
      rw [State.releaseZones_watch]
      change s.watches.slots[w].entry.filter _ = none
      rw [entry, Option.filter_some, if_neg]
      rw [posts.2 posted, Bool.true_and]
      change ¬ (!(s.zones[e.zone].hold != .clear)) = true
      simpa using held
    · rintro ⟨on, held⟩
      exact off.elim (fun off => off (posts.1 on)) held
    · obtain ⟨e, entry, rfl⟩ := Option.map_eq_some_iff.1 at'
      have stays : ((s.seq.postedZones k).getLsbD e.zone && s.zones[e.zone].hold != .clear) = false := by
        rw [Bool.and_eq_false_iff]
        exact off.imp (fun off => Bool.not_eq_true _ ▸ posts.not.2 off) fun clear => by rw [clear]; rfl
      rw [State.releaseZones_watch]
      calc ({ s.watches.slots[w] with entry := s.watches.slots[w].entry.filter fun e =>
              !((s.seq.postedZones k).getLsbD e.zone && s.zones[e.zone].hold != .clear) } : WatchSlot)
          = { gen := s.watches.slots[w].gen, entry := s.watches.slots[w].entry } := by
            rw [entry, Option.filter_some, stays]
            rfl
        _ = s.watches.slots[w] := rfl
  · intro d r m a awake ready first none' inv few ne active slot' order less lower
    obtain ⟨t, run, answers, stored⟩ := startSequence_starts reaches plain named awake
      (State.startSlot_preempts ready active slot' order less lower (.client h.client))
    obtain ⟨preempts, only⟩ := State.preempt_started inv few slot' ne first none' (.client h.client)
    obtain ⟨started, others, freed, rest, fades, notices, power⟩ :=
      preempts.congr (stored.field .seq) (stored.field .cues) (stored.field .notices) (stored.field .power)
    exact ⟨t, run, answers, started, others, freed, rest, fades, notices, power, OnlyChanges.answered only stored⟩
  · intro awake ready held
    exact startSequence_refuses reaches plain named awake (State.startSlot_busy ready held _)
  · intro r awake running
    exact startSequence_refuses reaches plain named awake (State.startSlot_running running _)
  · intro awake absent
    exact startSequence_refuses reaches plain named awake (State.startSlot_absent absent _)
  · intro dimming
    refine open_refused (i := .startSequence h slot) reaches rfl ?_
    rw [require_true plain, requireSome_some (index?_eq k named), guardWith_true (by rw [dimming]; rfl)]
  · intro first j at'
    have done : CarriesOut h false (.sequence (s.seq.report k first.toNat)) (.readSequence h slot first) s s := by
      refine open_done (i := .readSequence h slot first) reaches rfl ?_
      rw [require_true (by rw [plain, Bool.true_and, decide_eq_true_eq]; omega), requireSome_some (index?_eq k named)]
    obtain ⟨t, run, answers, stored⟩ := done
    exact ⟨t, _, run, answers, rfl, rfl, rfl, by rw [at']; rfl, fun n running => Sequencer.report_runner running _, stored⟩
  · intro beyond
    refine open_refused (i := .startSequence h slot) reaches rfl ?_
    rw [require_true plain, requireSome_none (index?_none beyond)]
  · rintro beyond
    refine open_refused (i := .readSequence h slot first) reaches rfl ?_
    by_cases late : 31 < first.toNat
    · rw [require_false (by rw [plain, Bool.true_and, decide_eq_false_iff_not]; omega)]
    · rw [require_true (by rw [plain, Bool.true_and, decide_eq_true_eq]; omega),
        requireSome_none (index?_none (beyond.resolve_right late))]

/-! ## ABORT_SEQUENCE (R165) -/

section
variable {h : Header} {slot : Byte} {k : Fin 6} {s : State} (reaches : Reaches .open_ h s) (plain : h.plain = true)
  (named : slot.toNat = k.val) {r : Fin 2} (running : s.seq.slots[k].state = .running r)
include reaches plain named running

theorem abortSequence_aborts (own : h.client = 0 ∨ s.seq.runners[r].startedBy = some (.client h.client)) :
    CarriesOut h false .empty (.abortSequence h slot) s (s.abortRunner r .aborted) := by
  have may : s.seq.runners[r].abortableBy h.client = true := by simpa [-Fin.getElem_fin, Runner.abortableBy] using own
  refine open_done (i := .abortSequence h slot) reaches rfl ?_
  rw [require_true plain, requireSome_some (index?_eq k named), running]
  dsimp only
  rw [guardWith_false (by rw [may]; rfl)]

theorem abortSequence_denied (host : h.client ≠ 0) (other : s.seq.runners[r].startedBy ≠ some (.client h.client)) :
    Refuses h .denied .empty (.abortSequence h slot) s := by
  have may : s.seq.runners[r].abortableBy h.client = false := by
    simpa [-Fin.getElem_fin, Runner.abortableBy] using ⟨host, other⟩
  refine open_refused (i := .abortSequence h slot) reaches rfl ?_
  rw [require_true plain, requireSome_some (index?_eq k named), running]
  dsimp only
  rw [guardWith_true (by rw [may]; rfl)]

end

theorem RunEnds.congr {r : Fin 2} {k : Fin 6} {s u t : State} (h : RunEnds r k s u) (same : t.seq = u.seq) :
    RunEnds r k s t := by
  rw [RunEnds, same]
  exact h

theorem staysStaged.congr {r : Fin 2} {s u t : State} (h : staysStaged r s u) (same : t.palette = u.palette) :
    staysStaged r s t := by
  rw [staysStaged, same]
  exact h

/-- An abort of a runner that has no cue (R164). -/
theorem State.abortRunner_alone {s : State} {r : Fin 2} {k : Fin 6} (slot : s.seq.runners[r].slot = some k)
    (alone : ∀ (j : Fin 48) (c : Cue), s.cues.slots[j].cue = some c → ∀ x, c.tag = some x → x.runner ≠ r)
    (few : s.notices.list.length ≤ 8) (cause : EndCause) :
    RunEnds r k s (s.abortRunner r cause) ∧
      (s.abortRunner r cause).notices = s.notices.after .sequenceEnd (.slot k) (.ended cause) ∧
      staysStaged r s (s.abortRunner r cause) ∧
      OnlyChanges [.seq, .palette, .notices, .noticeLow] s (s.abortRunner r cause) := by
  have none' : s.runnerCues r = [] := List.filter_eq_nil_iff.2 fun j _ own => by
    rw [State.cueAt] at own
    cases live : s.cues.slots[j].cue with
    | none =>
      rw [live] at own
      cases own
    | some c =>
      rw [live] at own
      cases tag : c.tag with
      | none => simp [tag] at own
      | some x => exact alone j c live x tag (by simpa [tag] using own)
  rw [State.abortRunner, State.abortQuiet, none']
  have ends : RunEnds r k s (s.stopRunner r cause) := State.stopRunner_ends (.of_seq rfl) slot cause
  have notices := State.stopRunner_notices slot few cause
  have stop := s.stopRunner_only r cause
  change RunEnds r k s (s.stopRunner r cause).reportIdle ∧ (s.stopRunner r cause).reportIdle.notices = _ ∧
    staysStaged r s (s.stopRunner r cause).reportIdle ∧ OnlyChanges _ s (s.stopRunner r cause).reportIdle
  have only := (s.stopRunner r cause).reportIdle_only
  exact ⟨ends.congr (only.field .seq), (only.field .notices).trans notices,
    State.reportIdle_settles ends (stop.field .palette), stop.mono.trans only.mono⟩

/-- Settles O52, by what an abort leaves. -/
theorem abortSequenceStopsTheRunner : Obligations.AbortSequenceStopsTheRunner := by
  refine ⟨fun h slot k s reaches plain named => ⟨?_, ?_, ?_, ?_⟩, fun h slot s reaches plain beyond => ?_⟩
  · intro r running held own alone few
    obtain ⟨t, run, answers, stored⟩ := abortSequence_aborts reaches plain named running own
    obtain ⟨ends, notices, staged, only⟩ := State.abortRunner_alone held alone few .aborted
    obtain ⟨self, others, ready, rest, templates, -⟩ := ends.congr (stored.field .seq)
    refine ⟨t, run, answers, by rw [self]; rfl, by rw [self]; rfl, others, ready, rest, templates,
      (stored.field .notices).trans notices, ?_, OnlyChanges.answered only stored⟩
    exact staged.congr (stored.field .palette)
  · intro r running held own inv few
    obtain ⟨t, run, answers, stored⟩ := abortSequence_aborts reaches plain named running own
    obtain ⟨ends, fades, notices, staged⟩ := State.abortRunner_ends inv held few .aborted
    exact ⟨t, run, answers, ends.congr (stored.field .seq), fades.congr (stored.field .cues),
      (stored.field .notices).trans notices, staged.congr (stored.field .palette),
      OnlyChanges.answered (s.abortRunner_only r .aborted) stored⟩
  · intro r running host other
    exact abortSequence_denied reaches plain named running host other
  · intro still
    refine open_refused (i := .abortSequence h slot) reaches rfl ?_
    rw [require_true plain, requireSome_some (index?_eq k named)]
    split
    · next r running => exact absurd running (still r)
    · rfl
  · refine open_refused (i := .abortSequence h slot) reaches rfl ?_
    rw [require_true plain, requireSome_none (index?_none beyond)]

end Sys2Proof.Machine

/-! PROOFS. The wake (R169, R172 to R178): the events of DORMANT and WAKING, and the WAKE edge in every state. -/

namespace Sys2Proof.Machine

open Sys2Proof

/-! ## The wake start (R169) -/

section
variable {s : State} {k : Fin 6} (armed : s.power.welcomeArm = some k)
include armed

theorem State.wakeStart_running {r : Fin 2} (running : s.seq.slots[k].state = .running r) : s.wakeStart = s := by
  rw [State.wakeStart, armed]
  dsimp only
  rw [running]

theorem State.wakeStart_starts (still : ∀ r, s.seq.slots[k].state ≠ .running r) {r s'} (starts : s.startSlot k .wake = .ok (r, s')) :
    s.wakeStart = s' := by
  rw [State.wakeStart, armed]
  dsimp only
  split
  · next running => exact absurd running (still _)
  · rw [starts]

theorem State.wakeStart_absent (absent : s.seq.slots[k].state = .empty ∨ s.seq.slots[k].state = .loading) :
    s.wakeStart = s.raise .sequenceEnd (.slot k) (.ended .notLoaded) := by
  rw [State.wakeStart, armed]
  dsimp only
  split
  · next running => rcases absent with e | e <;> rw [e] at running <;> cases running
  · rw [State.startSlot_absent absent]

theorem State.wakeStart_busy (ready : s.seq.slots[k].state = .ready) (held : ∀ q : Fin 2, s.seq.runners[q].state ≠ .idle ∧
    ∃ n, s.seq.runners[q].slot = some n ∧ s.seq.slots[k].rank ≤ s.seq.slots[n].rank) :
    s.wakeStart = s.raise .sequenceEnd (.slot k) (.ended .refusedBusy) := by
  rw [State.wakeStart, armed]
  dsimp only
  split
  · next running => rw [ready] at running; cases running
  · rw [State.startSlot_busy ready held]

theorem State.wakeStart_free (ready : s.seq.slots[k].state = .ready) {r : Fin 2} (idle : s.seq.runners[r].state = .idle)
    (below : ∀ j < r, s.seq.runners[j].state ≠ .idle) : s.wakeStart = s.giveRunner r k .wake :=
  State.wakeStart_starts armed (fun _ running => by rw [ready] at running; cases running)
    (State.startSlot_free ready idle below .wake)

end

theorem State.wakeEdge_armed {s : State} {k : Fin 6} (armed : s.power.welcomeArm = some k) (awake : s.power.state ≠ .dormant) :
    s.wakeEdge = s.armedEdge := by
  rw [State.wakeEdge, if_neg awake, if_pos (by rw [armed]; rfl)]

theorem exec_csNFallInDormant (s : State) : exec .csNFallInDormant s = s.event fun s =>
    if s.power.state = .dormant then s.useFree.wakeByChipSelect (Config.clockedInDormant s.freeCounter) else s := rfl

theorem exec_wakeDelayExpiry (s : State) : exec .wakeDelayExpiry s = s.event State.wakeDelayExpiry := rfl

/-- The wake by chip select (R172). -/
theorem State.wakeByChipSelect_leaves (s : State) (n : Nat) :
    (s.wakeByChipSelect n).power = s.power.wakeUp false ∧
      (s.wakeByChipSelect n).reply = { status := .notReady, tag := 0, payload := .empty } ∧
      (s.wakeByChipSelect n).sdo.frame = some s.reply ∧
      OnlyChanges [.power, .reply, .sdo] s (s.wakeByChipSelect n) :=
  ⟨rfl, rfl, rfl, s.wakeByChipSelect_only n⟩

theorem State.raisePower_notices (s : State) (few : s.notices.list.length ≤ 8) (x : Subject) (c : PowerCause) :
    (s.raisePower x c).notices = s.notices.after .powerState x (.power c) := Notices.raise_eq _ few _ _ _

theorem Notices.after_length {n : Notices} (few : n.list.length ≤ 8) (k x d) : (n.after k x d).list.length ≤ 8 := by
  rw [← Notices.raise_eq n few]
  exact Notices.raise_length n few k x d

/-- The wake delay expires (R173). -/
theorem State.wakeDelayExpiry_eq {s : State} (waking : s.power.state = .waking) : s.wakeDelayExpiry =
    if s.power.continueIntent then
      ((s.setPower { s.power with state := .standby, wakeTimer := none, continueIntent := false }).raisePower .standby .woken).enterPowering
        (if s.power.pendingWake then .wake else .command)
    else (s.setPower { s.power with state := .standby, wakeTimer := none, continueIntent := false }).raisePower .standby .woken :=
  if_pos waking

theorem State.wakeDelayExpiry_stays {s : State} (waking : s.power.state = .waking) (stay : s.power.continueIntent = false)
    (few : s.notices.list.length ≤ 8) :
    s.wakeDelayExpiry.power = { s.power with state := .standby, wakeTimer := none } ∧
      s.wakeDelayExpiry.notices = s.notices.after .powerState .standby (.power .woken) ∧
      OnlyChanges [.power, .notices, .noticeLow] s s.wakeDelayExpiry := by
  rw [State.wakeDelayExpiry_eq waking, stay]
  refine ⟨?_, State.raisePower_notices _ few _ _, (s.setPower_only _).mono.trans (State.raisePower_only _ _ _).mono⟩
  show ({ s.power with state := .standby, wakeTimer := none, continueIntent := false } : Power) = _
  rw [← stay]

theorem State.wakeDelayExpiry_goes {s : State} (waking : s.power.state = .waking) (go : s.power.continueIntent = true)
    (few : s.notices.list.length ≤ 8) :
    s.wakeDelayExpiry.power = { s.power with
        state := .powering, wakeTimer := none, continueIntent := false, settle := some s.power.settleTime, awaited := 0
        cause := some (if s.power.pendingWake then .wake else .command) } ∧
      s.wakeDelayExpiry.supplyEn = true ∧
      s.wakeDelayExpiry.notices = s.notices.after .powerState .standby (.power .woken) ∧
      OnlyChanges [.power, .supplyEn, .notices, .noticeLow] s s.wakeDelayExpiry := by
  rw [State.wakeDelayExpiry_eq waking, go, if_pos rfl]
  refine ⟨rfl, rfl, State.raisePower_notices _ few _ _, ?_⟩
  exact ((s.setPower_only _).mono.trans (State.raisePower_only _ _ _).mono).trans (State.enterPowering_only _ _).mono

/-! ## The reversal of DIMMING by a WAKE edge (R178) -/

theorem Reversed.congr {n : Notices} {s u t : State} (h : Reversed n s u) (power : t.power = u.power) (cond : t.cond = u.cond)
    (composer : t.composer = u.composer) : Reversed t.notices s t := by
  obtain ⟨p, c, latest, timer, period, -⟩ := h
  rw [Reversed, power, cond, composer]
  exact ⟨p, c, latest, timer, period, rfl⟩

theorem State.reverseDimming_notices {s : State} (few : s.notices.list.length ≤ 8) :
    s.reverseDimming.notices = s.notices.after .powerState .lit (.power .resumed) := by
  obtain ⟨-, -, -, -, -, notices⟩ := s.reverseDimming_leaves few
  exact notices

/-- A reload of the dark interval after a reversal reloads it again. -/
theorem Reversed.reload {n : Notices} {s u : State} (h : Reversed n s u) : u.power.reloadDark = u.power := by
  rw [h.1, Power.reloadDark, if_pos rfl]

/-- What a start leaves of a state that another state has the sequences and the power of. -/
theorem Started.from {r : Fin 2} {k : Fin 6} {x : Starter} {d : Nat} {s u t : State} (h : Started r k x d u t)
    (same : u.seq = s.seq) : Started r k x d s t := by
  rw [Started, same] at h
  exact h

theorem State.reverseDimming_seq (s : State) : s.reverseDimming.seq = s.seq := s.reverseDimming_only.field .seq

/-- What a wake start leaves after a reversal: the reversal, and whatever the start changes beside the Sequence Engine. -/
theorem reversed_then {s t : State} (few : s.notices.list.length ≤ 8) {l : List Field} (starts : OnlyChanges l s.reverseDimming t)
    (power : t.power = s.reverseDimming.power) (cond : .cond ∉ l := by decide) (composer : .composer ∉ l := by decide) :
    Reversed t.notices s t :=
  Reversed.congr (s.reverseDimming_leaves few) power (starts.field .cond cond) (starts.field .composer composer)

/-- Settles O57, event by event and state by state. -/
theorem wakeFromDormant : Obligations.WakeFromDormant := by
  intro s awake few
  have edge : exec .wakeRisingEdge s = .next s.wakeEdge := State.event_eq awake _
  have delay : exec .wakeDelayExpiry s = .next s.wakeDelayExpiry := State.event_eq awake _
  refine ⟨fun dormant => ⟨?_, ?_⟩, fun waking => ⟨fun stay => ?_, fun go => ?_⟩, fun k standby armed => ?_,
    fun on unarmed => ?_, fun k armed => ⟨fun waking => ?_, fun powering => ?_, fun r lit running => ?_, fun lit absent => ?_,
      fun d r lit ready first none' idle below => ?_,
      fun d r m a lit ready first none' inv ne active slot order less lower => ?_, fun lit ready held => ?_,
      fun r dimming running => ?_, fun dimming absent => ?_, fun d r dimming ready first none' idle below => ?_⟩⟩
  · refine ⟨_, State.event_eq awake _, ?_⟩
    rw [if_pos dormant]
    obtain ⟨power, reply, sdo, only⟩ := s.useFree.wakeByChipSelect_leaves (Config.clockedInDormant s.freeCounter)
    exact ⟨power, reply, sdo, s.useFree_only.mono.trans only.mono⟩
  · refine ⟨_, edge, ?_⟩
    rw [State.wakeEdge, if_pos dormant]
    exact ⟨rfl, s.setPower_only _⟩
  · exact ⟨_, delay, State.wakeDelayExpiry_stays waking stay few⟩
  · exact ⟨_, delay, State.wakeDelayExpiry_goes waking go few⟩
  · refine ⟨_, edge, ?_⟩
    rw [State.wakeEdge_armed armed (by rw [standby]; nofun), State.armedEdge, standby]
    exact ⟨rfl, rfl, (s.setPower_only _).mono.trans (State.enterPowering_only _ _)⟩
  · rw [edge, State.wakeEdge, if_neg on, unarmed]
    rfl
  · refine ⟨_, edge, ?_⟩
    rw [State.wakeEdge_armed armed (by rw [waking]; nofun), State.armedEdge, waking]
    exact ⟨rfl, s.setPower_only _⟩
  · refine ⟨_, edge, ?_⟩
    rw [State.wakeEdge_armed armed (by rw [powering]; nofun), State.armedEdge, powering]
    exact ⟨rfl, s.setPower_only _⟩
  · rw [edge, State.wakeEdge_lit lit, State.wakeStart_running armed running]
  · refine ⟨_, edge, ?_⟩
    rw [State.wakeEdge_lit lit, State.wakeStart_absent armed absent]
    exact ⟨Notices.raise_eq _ few _ _ _, s.raise_only _ _ _⟩
  · refine ⟨_, edge, ?_⟩
    rw [State.wakeEdge_lit lit, State.wakeStart_free armed ready idle below]
    obtain ⟨started, others, rest, power⟩ := State.giveRunner_takes (r := r) first .wake
    exact ⟨started, others, rest, power, State.giveRunner_only_engine first none' _⟩
  · refine ⟨_, edge, ?_⟩
    rw [State.wakeEdge_lit lit, State.wakeStart_starts armed (fun _ running => by rw [ready] at running; cases running)
      (State.startSlot_preempts ready active slot order less lower .wake)]
    obtain ⟨⟨started, others, freed, rest, fades, notices, power⟩, only⟩ := State.preempt_started inv few slot ne first none' .wake
    exact ⟨started, others, freed, rest, fades, notices, power, only⟩
  · refine ⟨_, edge, ?_⟩
    rw [State.wakeEdge_lit lit, State.wakeStart_busy armed ready held]
    exact ⟨Notices.raise_eq _ few _ _ _, s.raise_only _ _ _⟩
  · have same : s.wakeEdge = s.reverseDimming := by
      rw [State.wakeEdge_armed armed (by rw [dimming]; nofun), State.armedEdge, dimming]
      exact State.wakeStart_running (s := s.reverseDimming) armed running
    exact ⟨_, edge, same ▸ s.reverseDimming_leaves few, same ▸ s.reverseDimming_only⟩
  · have same : s.wakeEdge = s.reverseDimming.raise .sequenceEnd (.slot k) (.ended .notLoaded) := by
      rw [State.wakeEdge_armed armed (by rw [dimming]; nofun), State.armedEdge, dimming]
      exact State.wakeStart_absent (s := s.reverseDimming) armed absent
    refine ⟨_, edge, ?_, ?_⟩
    · have reversed := reversed_then few (s.reverseDimming.raise_only .sequenceEnd (.slot k) (.ended .notLoaded)) rfl
      rw [State.raise_notices, State.reverseDimming_notices few, Notices.raise_eq _ (Notices.after_length few _ _ _), ← same] at reversed
      exact reversed
    · rw [same]
      exact s.reverseDimming_only.mono.trans (State.raise_only _ _ _ _).mono
  · have same : s.wakeEdge = s.reverseDimming.giveRunner r k .wake := by
      rw [State.wakeEdge_armed armed (by rw [dimming]; nofun), State.armedEdge, dimming]
      exact State.wakeStart_free (s := s.reverseDimming) armed ready idle below
    have first' : HasStep k 0 (.wait d) s.reverseDimming := first
    have only := State.giveRunner_only_engine (r := r) first' none' .wake
    obtain ⟨started, others, rest, power⟩ := State.giveRunner_takes (r := r) first' .wake
    have reversed := reversed_then few only (power.trans (Reversed.reload (s.reverseDimming_leaves few)))
    rw [only.field .notices, State.reverseDimming_notices few, ← same] at reversed
    rw [← same] at started others rest only
    refine ⟨_, edge, reversed, started.from s.reverseDimming_seq, ?_, ?_, s.reverseDimming_only.mono.trans only.mono⟩
    · exact others
    · exact rest

end Sys2Proof.Machine

/-! PROOFS. DIMMING (R177 to R179): its entry with the aborts of the active runners, its end, and the commands and events that
bring them. -/

namespace Sys2Proof.Machine

open Sys2Proof

/-! ## The frame in flight while chains change (R117) -/

/-- The Composer but for its marks that chains have left the state they held at the snapshot. -/
def Composer.marked (c d : Composer) : Prop :=
  d.period = c.period ∧ d.timer = c.timer ∧ d.latest = c.latest ∧
    d.frame.map (fun f => (f.snap, f.discarded)) = c.frame.map (fun f => (f.snap, f.discarded))

theorem Composer.marked.refl (c : Composer) : c.marked c := ⟨rfl, rfl, rfl, rfl⟩

theorem Composer.marked.trans {c d e : Composer} (h : c.marked d) (h' : d.marked e) : c.marked e := by
  obtain ⟨period, timer, latest, frame⟩ := h
  obtain ⟨period', timer', latest', frame'⟩ := h'
  exact ⟨period'.trans period, timer'.trans timer, latest'.trans latest, frame'.trans frame⟩

theorem Composer.markLeft_marked (c : Composer) (i : Fin 4) : c.marked (c.markLeft i) := by
  refine ⟨rfl, rfl, rfl, ?_⟩
  simp only [Composer.markLeft, Option.map_map]
  rfl

theorem State.setChain_marked (s : State) (i : Fin 4) (c : Chain) : s.composer.marked (s.setChain i c).composer := by
  rw [State.setChain_composer]
  split
  · exact .refl _
  · exact Composer.markLeft_marked _ i

theorem State.stopChain_marked (s : State) (i : Fin 4) : s.composer.marked (s.stopChain i).composer := by
  unfold State.stopChain
  split
  · exact .refl _
  · exact s.setChain_marked i _

theorem State.stopChains_marked (s : State) : s.composer.marked s.stopChains.composer := by
  have all : ∀ (is : List (Fin 4)) (s : State), s.composer.marked (is.foldl State.stopChain s).composer := fun is => by
    induction is with
    | nil => exact fun s => .refl _
    | cons i is ih => exact fun s => (s.stopChain_marked i).trans (ih _)
  exact all _ s

theorem Composer.marked.snap {c d : Composer} (h : c.marked d) : d.frame.map (·.snap) = c.frame.map (·.snap) := by
  obtain ⟨-, -, -, frame⟩ := h
  have snaps := congrArg (Option.map Prod.fst) frame
  rw [Option.map_map, Option.map_map] at snaps
  exact snaps

/-- The composites that a frame in flight leaves as the latest are of its snapshot, whatever has been marked since. -/
theorem Composer.marked.latestAfter {s t : State} (h : s.composer.marked t.composer) (z : Fin 16) :
    latestAfter t z = latestAfter s z := by
  obtain ⟨-, -, latest, frame⟩ := h
  unfold Machine.latestAfter
  rw [latest]
  cases before : s.composer.frame with
  | none =>
    rw [before] at frame
    rw [Option.map_eq_none_iff.1 frame]
  | some f =>
    rw [before] at frame
    obtain ⟨g, now, same⟩ := Option.map_eq_some_iff.1 frame
    obtain ⟨snap, discarded⟩ := Prod.mk.inj same
    rw [now]
    dsimp only
    rw [snap, discarded]

/-! ## The end of DIMMING (R178) -/

/-- What the stop of every chain leaves of each. -/
theorem State.stopChains_chain (s : State) (j : Fin 4) : s.stopChains.chains[j] = if s.chains[j].mode = .off then s.chains[j]
    else { s.chains[j] with mailbox := none, mode := .off, sent := sleepSent s.chains[j] } := by
  have all : ∀ (is : List (Fin 4)) (s : State), (is.foldl State.stopChain s).chains[j] =
      if j ∈ is ∧ s.chains[j].mode ≠ .off then s.chains[j].stop else s.chains[j] := fun is => by
    induction is with
    | nil => exact fun s => by simp
    | cons i is ih =>
      intro s
      rw [List.foldl_cons, ih, State.stopChain_chain]
      by_cases e : j = i
      · subst e
        by_cases off : s.chains[j].mode = .off
        · simp [off, -Fin.getElem_fin]
        · have now : (if j = j ∧ s.chains[j].mode ≠ .off then s.chains[j].stop else s.chains[j]) = s.chains[j].stop :=
            if_pos ⟨rfl, off⟩
          rw [now, if_neg fun h => h.2 rfl, if_pos ⟨List.mem_cons_self .., off⟩]
      · simp [e, -Fin.getElem_fin]
  refine (all _ s).trans ?_
  have mem : j ∈ indices 4 := List.mem_finRange j
  by_cases off : s.chains[j].mode = .off
  · rw [if_neg fun h => h.2 off, if_pos off]
  · rw [if_pos ⟨mem, off⟩, if_neg off]
    rfl

/-- The post-order list after a list of cues is freed. -/
theorem State.foldl_freeSlot_postOrder (g) (ks : List (Fin 48)) : ∀ {s : State}, CueInv s →
    (ks.foldl (State.freeSlot g) s).cues.postOrder = s.cues.postOrder.filter fun j => !decide (j ∈ ks) := by
  induction ks with
  | nil => exact fun _ => (List.filter_eq_self.2 fun _ _ => by simp).symm
  | cons k ks ih =>
    intro s inv
    rw [List.foldl_cons, ih ((s.freeSlot_keeps g k).cue inv), (State.freeSlot_lists inv g k).1, List.filter_filter]
    refine congrArg (fun p => s.cues.postOrder.filter p) (funext fun j => ?_)
    by_cases e : j = k <;> simp [e]

theorem State.freeTransients_cues {s : State} (inv : CueInv s) :
    (∀ k : Fin 48, s.freeTransients.cues.slots[k] =
      if 8 ≤ k.val then { gen := s.cues.slots[k].gen, cue := none } else s.cues.slots[k]) ∧
    s.freeTransients.cues.postOrder = s.cues.postOrder.filter fun k => decide (k.val < 8) := by
  have mem : ∀ k, k ∈ s.cues.postOrder.filter transient ↔ s.cues.slots[k].cue.isSome ∧ 8 ≤ k.val := fun k => by
    obtain ⟨-, -, live, -⟩ := inv
    rw [List.mem_filter, live k, transient, decide_eq_true_eq]
  refine ⟨fun k => ?_, ?_⟩
  · rw [State.freeTransients, State.freeAll, State.foldl_freeSlot_slots]
    simp only [mem]
    by_cases hi : 8 ≤ k.val
    · cases live : s.cues.slots[k].cue with
      | none =>
        rw [if_neg (by simp), if_pos hi]
        exact (congrArg (CueSlot.mk s.cues.slots[k].gen) live)
      | some c => rw [if_pos ⟨rfl, hi⟩, if_pos hi]
    · rw [if_neg fun h => hi h.2, if_neg hi]
  · rw [State.freeTransients, State.freeAll, State.foldl_freeSlot_postOrder none _ inv]
    refine List.filter_congr fun k held => ?_
    simp only [List.mem_filter, transient, held, true_and, decide_eq_true_eq]
    by_cases hi : 8 ≤ k.val
    · simp [hi]
    · simp [hi, Nat.lt_of_not_le hi]

/-- What the end of DIMMING leaves but for the entry to DORMANT. -/
theorem State.darkened_ends {s : State} (few : s.notices.list.length ≤ 8) :
    s.darkened.power = { s.power with state := .standby, dest := none } ∧ s.darkened.supplyEn = false ∧
    s.composer.marked { s.darkened.composer with timer := s.composer.timer } ∧ s.darkened.composer.timer = none ∧
    s.darkened.chains = s.stopChains.chains ∧ s.darkened.cues = s.stopChains.freeTransients.cues ∧
    s.darkened.notices = s.notices.after .powerState .standby (.power .dimmed) ∧ OnlyChanges dimmedFields s s.darkened := by
  have stops := s.stopChains_only
  have frees := s.stopChains.freeTransients_only
  have marked := s.stopChains_marked
  unfold State.darkened
  generalize s.stopChains = u at *
  have composer : u.freeTransients.composer = u.composer := frees.field .composer
  have notices : u.freeTransients.notices = s.notices := (frees.field .notices).trans (stops.field .notices)
  refine ⟨rfl, rfl, ?_, rfl, frees.field .chains, rfl, ?_, ?_⟩
  · obtain ⟨period, timer, latest, frame⟩ := marked
    change s.composer.marked { u.freeTransients.composer with timer := s.composer.timer }
    rw [composer]
    exact ⟨period, rfl, latest, frame⟩
  · refine (Notices.raise_eq u.freeTransients.notices (by rw [notices]; exact few) _ _ _).trans ?_
    rw [notices]
  · exact ((stops.mono.trans frees.mono).trans (((State.setPower_only _ _).mono.trans (State.setComposer_only _ _).mono).trans
      (State.setSupplyEn_only _ _).mono)).trans (State.raisePower_only _ _ _).mono

/-! ## The entry to DORMANT (R172, R97) -/

theorem State.enterDormant_power (s : State) : s.enterDormant.power = { s.power with state := .dormant } := by
  unfold State.enterDormant
  dsimp only
  rw [show (s.finishLastFrame.setPower { s.finishLastFrame.power with state := .dormant }).power =
    { s.finishLastFrame.power with state := .dormant } from rfl, State.finishLastFrame_power]

theorem State.finishLastFrame_times (s : State) : s.finishLastFrame.composer.timer = s.composer.timer ∧
    s.finishLastFrame.composer.period = s.composer.period := by
  unfold State.finishLastFrame
  split <;> exact ⟨rfl, rfl⟩

theorem State.enterDormant_composer (s : State) : s.enterDormant.composer.timer = s.composer.timer ∧
    s.enterDormant.composer.period = s.composer.period ∧ s.enterDormant.composer.frame = none :=
  ⟨s.finishLastFrame_times.1, s.finishLastFrame_times.2, s.finishLastFrame_frame⟩

theorem State.enterDormant_latest (s : State) (z : Fin 16) : s.enterDormant.composer.latest[z] = latestAfter s z := by
  change s.finishLastFrame.composer.latest[z] = _
  unfold State.finishLastFrame latestAfter
  cases s.composer.frame with
  | none => rfl
  | some f => exact Composer.record_latest _ f z

/-- What the end of DIMMING leaves. -/
theorem State.endOfDimming_ends {s : State} (inv : CueInv s) (few : s.notices.list.length ≤ 8) {dest : Destination}
    (toward : s.power.dest = some dest) : DimmingEnds dest s s.endOfDimming ∧ OnlyChanges dimmedFields s s.endOfDimming := by
  obtain ⟨power, supply, marked, timer, chains, cues, notices, only⟩ := State.darkened_ends few
  have inv' : CueInv s.stopChains := s.stopChains_keeps.cue inv
  have table : s.stopChains.cues = s.cues := s.stopChains_only.field .cues
  obtain ⟨slots, post⟩ := State.freeTransients_cues inv'
  rw [← cues, table] at slots post
  have stopped : ∀ i : Fin 4, s.darkened.chains[i] = _ := fun i => (congrArg (fun v => v[i]) chains).trans (s.stopChains_chain i)
  rw [State.endOfDimming_eq, toward]
  generalize s.darkened = u at *
  cases dest with
  | standby =>
    rw [if_neg nofun]
    have snap := marked.snap
    obtain ⟨period, -, latest, -⟩ := marked
    exact ⟨⟨power, supply, timer, period, fun _ => ⟨latest, snap⟩, nofun, stopped, slots, post, notices⟩, only⟩
  | dormant =>
    rw [if_pos rfl]
    have after := marked.latestAfter (t := u.setComposer { u.composer with timer := s.composer.timer })
    obtain ⟨period, -, -, -⟩ := marked
    have same : ∀ z : Fin 16, u.enterDormant.composer.latest[z] = latestAfter s z := fun z =>
      (u.enterDormant_latest z).trans (after z)
    have entry := u.enterDormant_only
    obtain ⟨timer', period', frame'⟩ := u.enterDormant_composer
    refine ⟨⟨?_, (entry.field .supplyEn).trans supply, timer'.trans timer, period'.trans period, nofun,
      fun _ => ⟨frame', same⟩, fun i => ?_, fun k => ?_, ?_,
      (entry.field .notices).trans notices⟩, only.mono.trans entry.mono⟩
    · rw [State.enterDormant_power, power]
    · rw [show u.enterDormant.chains = u.chains from entry.field .chains]
      exact stopped i
    · rw [show u.enterDormant.cues = u.cues from entry.field .cues]
      exact slots k
    · rw [show u.enterDormant.cues = u.cues from entry.field .cues]
      exact post

/-! ## The entry to DIMMING (R177) -/

/-- Two lists of fade-outs, one after the other. -/
theorem CuesFade.trans {p q : Cue → Bool} {s u t : State} (first : CuesFade p s u) (second : CuesFade q u t) :
    CuesFade (fun c => p c || q c) s t := by
  intro k
  have now := first k
  rw [second k, now]
  cases s.cues.slots[k].cue with
  | none => rfl
  | some c =>
    dsimp only
    by_cases on : c.phase.isFadingOut = true
    · simp [on]
    · by_cases mine : p c = true
      · rw [Bool.not_eq_true] at on
        by_cases zero : c.desc.fadeOut = 0
        · simp [mine, on, zero]
        · simp [mine, on, zero, show (Phase.fadingOut 0 c.desc.fadeOut c.fadeEnvelope).isFadingOut = true from rfl]
      · simp [mine]

theorem CuesFade.refl (s : State) : CuesFade (fun _ => false) s s := by
  intro k
  rcases s.cues.slots[k] with ⟨gen, _ | c⟩
  · rfl
  · simp

/-- What the abort of a runner for the entry to DIMMING leaves, whether it is active or not. -/
def EndsForPower (r : Fin 2) (s t : State) : Prop :=
  (∀ q : Fin 2, t.seq.runners[q] = if q = r ∧ s.seq.runners[q].state.active = true then
      { Runner.idle with index := s.seq.runners[q].index } else s.seq.runners[q]) ∧
  (∀ m : Fin 6, t.seq.slots[m] = if s.seq.slots[m].state = .running r then { s.seq.slots[m] with state := .ready }
    else s.seq.slots[m]) ∧
  t.seq.templates = s.seq.templates ∧ t.seq.nextOrder = s.seq.nextOrder ∧
  CuesFade (fun c => s.seq.runners[r].state.active && c.ranBy r) s t ∧
  t.notices = (match s.seq.runners[r].slot with
    | none => s.notices
    | some k => s.notices.after .sequenceEnd (.slot k) (.ended .power)) ∧
  ∀ e : Fin 32, t.palette[e] = if s.seq.runners[r].state.active = true ∧
      (∀ q : Fin 2, q ≠ r → s.seq.runners[q].state = .idle) then s.palette[e].settled else s.palette[e]

theorem State.abortForPower_ends {s : State} (inv : CueInv s) (runs : RunnerInv s) (few : s.notices.list.length ≤ 8) (r : Fin 2) :
    EndsForPower r s (s.abortForPower r) := by
  obtain ⟨active, names⟩ := runs
  unfold State.abortForPower
  cases on : s.seq.runners[r].state.active with
  | false =>
    have free : s.seq.runners[r].slot = none := by
      rw [← Option.isSome_eq_false_iff.trans Option.isNone_iff_eq_none, ← active r, on]
    rw [if_neg Bool.false_ne_true]
    refine ⟨fun q => (if_neg ?_).symm, fun m => (if_neg ?_).symm, rfl, rfl, ?_, ?_, fun e => (if_neg ?_).symm⟩
    · rintro ⟨rfl, act⟩
      rw [on] at act
      cases act
    · intro held
      rw [(names r m).2 held] at free
      cases free
    · simp only [on, Bool.false_and]
      exact .refl s
    · rw [free]
    · rintro ⟨act, -⟩
      rw [on] at act
      cases act
  | true =>
    obtain ⟨k, slot⟩ : ∃ k, s.seq.runners[r].slot = some k := Option.isSome_iff_exists.1 ((active r).symm.trans on)
    obtain ⟨⟨self, others, ready, rest, templates, order⟩, fades, notices, staged⟩ := State.abortRunner_ends inv slot few .power
    rw [if_pos rfl]
    refine ⟨fun q => ?_, fun m => ?_, templates, order, ?_, ?_, fun e => ?_⟩
    · by_cases e : q = r
      · rw [e, if_pos ⟨rfl, on⟩, self]
      · rw [if_neg fun h => e h.1, others q e]
    · by_cases e : m = k
      · rw [e, if_pos ((names r k).1 slot), ready]
      · rw [if_neg fun held => e (Option.some_inj.1 (((names r m).2 held).symm.trans slot)), rest m e]
    · simp only [on, Bool.true_and]
      exact fades
    · rw [slot]
      exact notices
    · rw [staged e]
      simp only [on, true_and]

/-- Every active runner has been aborted with the cause POWER (R164, R177). -/
def AbortsBoth (s t : State) : Prop :=
  (∀ r : Fin 2, t.seq.runners[r] = if s.seq.runners[r].state.active then
      { Runner.idle with index := s.seq.runners[r].index }
    else s.seq.runners[r]) ∧
  (∀ k : Fin 6, t.seq.slots[k] = { s.seq.slots[k] with state := match s.seq.slots[k].state with
    | .running _ => .ready
    | x => x }) ∧
  t.seq.templates = s.seq.templates ∧ t.seq.nextOrder = s.seq.nextOrder ∧
  CuesFade (fun c => c.tag.any fun x => s.seq.runners[x.runner].state.active) s t ∧ t.notices = abortNotices s ∧
  ∀ e : Fin 32, t.palette[e] =
    if (∃ r : Fin 2, s.seq.runners[r].state.active = true) then s.palette[e].settled else s.palette[e]

theorem EndsForPower.both {s u t : State} (first : EndsForPower 0 s u) (second : EndsForPower 1 u t) : AbortsBoth s t := by
  obtain ⟨runners, slots, templates, order, fades, notices, palette⟩ := first
  obtain ⟨runners', slots', templates', order', fades', notices', palette'⟩ := second
  have one : u.seq.runners[(1 : Fin 2)] = s.seq.runners[(1 : Fin 2)] := (runners 1).trans (if_neg fun h => by cases h.1)
  have zero : u.seq.runners[(0 : Fin 2)].state = .idle := by
    rw [runners 0]
    split
    · rfl
    · next off =>
      refine Decidable.not_not.1 fun on => off ⟨rfl, (RunnerState.active_iff _).2 on⟩
  refine ⟨fun r => ?_, fun k => ?_, templates'.trans templates, order'.trans order, ?_, ?_, fun e => ?_⟩
  · match r with
    | 0 => rw [runners' 0, if_neg (fun h => by cases h.1), runners 0]; simp only [true_and]
    | 1 => rw [runners' 1, one]; simp only [true_and]
  · rw [slots' k, slots k]
    rcases s.seq.slots[k] with ⟨state, rank, count, steps, written⟩
    cases state with
    | running r =>
      match r with
      | 0 => rfl
      | 1 => rfl
    | empty => rfl
    | loading => rfl
    | ready => rfl
  · have both := fades.trans fades'
    refine (congrArg (fun p => CuesFade p s t) (funext fun c => ?_)).mp both
    rw [one]
    rcases c with ⟨owner, _ | x, rest⟩
    · simp [Cue.ranBy]
    · rcases x with ⟨r, label⟩
      match r with
      | 0 => simp [Cue.ranBy, -Fin.getElem_fin]
      | 1 => simp [Cue.ranBy, -Fin.getElem_fin]
  · rw [notices', one, notices, abortNotices]
    rfl
  · have quiet : ∀ q : Fin 2, q ≠ 1 → u.seq.runners[q].state = .idle := fun q ne => by
      rw [show q = 0 by omega]
      exact zero
    have other : (∀ q : Fin 2, q ≠ 0 → s.seq.runners[q].state = .idle) ↔ s.seq.runners[(1 : Fin 2)].state.active = false := by
      rw [← Bool.not_eq_true, RunnerState.active_iff, ne_eq, Decidable.not_not]
      exact ⟨fun h => h 1 (by decide), fun h q ne => by rw [show q = 1 by omega]; exact h⟩
    rw [palette' e, palette e, one]
    by_cases second : s.seq.runners[(1 : Fin 2)].state.active = true
    · rw [if_pos ⟨second, quiet⟩, if_neg fun h => Bool.false_ne_true ((other.1 h.2).symm.trans second), if_pos ⟨1, second⟩]
    · rw [if_neg fun h => second h.1]
      by_cases first : s.seq.runners[(0 : Fin 2)].state.active = true
      · rw [if_pos ⟨first, other.2 (Bool.not_eq_true _ ▸ second)⟩, if_pos ⟨0, first⟩]
      · rw [if_neg fun h => first h.1, if_neg fun h => (Fin.exists_fin_two.1 h).elim first second]

/-- The part as it enters DIMMING, before a power fade time of 0 ends it (R177). -/
def State.dims (s : State) (dest : Destination) : State :=
  ((s.setPower { s.power with state := .dimming, dest := some dest, envStart := s.power.envelope, envElapsed := 0,
                              darkRemaining := none }).abortForPower 0).abortForPower 1

theorem State.dims_power (s : State) (dest : Destination) : (s.dims dest).power = { s.power with
    state := .dimming, dest := some dest, envStart := s.power.envelope, envElapsed := 0, darkRemaining := none } :=
  ((State.abortForPower_only _ 1).field .power).trans ((State.abortForPower_only _ 0).field .power)

theorem State.enterDimming_eq {s : State} (clear : s.power.pendingWake = false) (dest : Destination) : s.enterDimming dest =
    if s.power.fadeTime = 0 then (s.dims dest).endOfDimming else s.dims dest := by
  unfold State.enterDimming
  rw [State.makePendingWake_clear s clear]
  change (if (s.dims dest).power.fadeTime = 0 then (s.dims dest).endOfDimming else s.dims dest) = _
  rw [State.dims_power]

theorem State.abortBoth_ends {s : State} (inv : CueInv s) (runs : RunnerInv s) (few : s.notices.list.length ≤ 8) :
    AbortsBoth s ((s.abortForPower 0).abortForPower 1) := by
  have first := State.abortForPower_ends inv runs few 0
  have keeps := s.abortForPower_keeps 0
  refine first.both (State.abortForPower_ends (keeps.cue inv) (keeps.runner runs) ?_ 1)
  obtain ⟨-, -, -, -, -, notices, -⟩ := first
  rw [notices]
  split
  · exact few
  · exact Notices.after_length few _ _ _

/-- What the entry to DIMMING leaves. -/
theorem State.dims_enters {s : State} (inv : CueInv s) (runs : RunnerInv s) (few : s.notices.list.length ≤ 8)
    (dest : Destination) : EntersDimming dest s (s.dims dest) ∧ OnlyChanges dimmingFields s (s.dims dest) :=
  ⟨⟨s.dims_power dest, State.abortBoth_ends (s := s.setPower _) inv runs few⟩,
    ((s.setPower_only _).mono.trans (State.abortForPower_only _ 0).mono).trans (State.abortForPower_only _ 1).mono⟩

theorem State.dims_idle {s : State} (idle : ∀ r : Fin 2, s.seq.runners[r].state = .idle) (dest : Destination) : s.dims dest =
    s.setPower { s.power with
      state := .dimming, dest := some dest, envStart := s.power.envelope, envElapsed := 0, darkRemaining := none } := by
  have alone : ∀ (p : Power) (r : Fin 2), (s.setPower p).abortForPower r = s.setPower p := fun p r =>
    if_neg (by rw [show (s.setPower p).seq.runners[r].state = .idle from idle r]; decide)
  rw [State.dims, alone, alone]

theorem abortNotices_length {s : State} (few : s.notices.list.length ≤ 8) : (abortNotices s).list.length ≤ 8 := by
  have all : ∀ (rs : List (Fin 2)) (n : Notices), n.list.length ≤ 8 → (rs.foldl (fun n r => match s.seq.runners[r].slot with
      | none => n
      | some k => n.after .sequenceEnd (.slot k) (.ended .power)) n).list.length ≤ 8 := fun rs => by
    induction rs with
    | nil => exact fun _ h => h
    | cons r rs ih =>
      intro n h
      refine ih _ ?_
      dsimp only
      split
      · exact h
      · exact Notices.after_length h _ _ _
  exact all _ _ few

/-- DIMMING entered with a power fade time of 0 ends in the same taking (R171). -/
theorem State.dims_ends {s : State} (inv : CueInv s) (runs : RunnerInv s) (few : s.notices.list.length ≤ 8)
    (dest : Destination) : DimmingEnds dest (s.dims dest) (s.dims dest).endOfDimming ∧
      OnlyChanges dimmedFields (s.dims dest) (s.dims dest).endOfDimming := by
  have keeps := ((s.setPower { s.power with
    state := .dimming, dest := some dest, envStart := s.power.envelope, envElapsed := 0
    darkRemaining := none }).abortForPower_keeps 0).trans (State.abortForPower_keeps _ 1)
  have inv' : CueInv (s.dims dest) := keeps.cue inv
  obtain ⟨⟨-, -, -, -, -, -, notices, -⟩, -⟩ := State.dims_enters inv runs few dest
  refine State.endOfDimming_ends inv' ?_ (by rw [State.dims_power])
  rw [notices]
  exact abortNotices_length few

/-! ## A wake start that waits for the first snapshot (R176, 6) -/

/-- The state in which a wake start that still waits has been made (R177). -/
def State.woken (s : State) : State := (withoutWake s).wakeStart

section
variable {s : State} (lit : s.power.state = .lit)
include lit

theorem exec_wakeRisingEdge_withoutWake (awake : s.resetLow = false) : exec .wakeRisingEdge (withoutWake s) = .next s.woken :=
  (State.event_eq (s := withoutWake s) awake _).trans (congrArg Host.Outcome.next (State.wakeEdge_lit (s := withoutWake s) lit))

theorem State.woken_power : ∃ d, s.woken.power = { s.power with state := .lit, pendingWake := false, darkRemaining := d } := by
  obtain ⟨d, power⟩ := (withoutWake s).wakeStart_sameButDark
  refine ⟨d, power.trans ?_⟩
  rw [← lit]
  rfl

theorem State.enterDimming_woken (pending : s.power.pendingWake = true) (dest : Destination) :
    s.enterDimming dest = s.woken.enterDimming dest := by
  have made : s.makePendingWake = s.woken := if_pos pending
  obtain ⟨d, power⟩ := State.woken_power lit
  have clear : s.woken.makePendingWake = s.woken := State.makePendingWake_clear _ (by rw [power])
  unfold State.enterDimming
  rw [made, clear]

end

/-! ## The dark interval and the end of DIMMING (R178, R179) -/

theorem exec_darkIntervalExpiry (s : State) : exec .darkIntervalExpiry s = s.event State.darkExpiry := rfl

theorem exec_endOfDimming (s : State) : exec .endOfDimming s = s.event State.dimmingEnd := rfl

theorem State.darkExpiry_due {s : State} (lit : s.power.state = .lit) (out : s.power.darkRemaining = some 0) :
    s.darkExpiry = s.enterDimming .standby := if_pos (by rw [Power.darkDue, lit, out]; rfl)

/-- An entry to DIMMING makes the dark remaining absent, whatever it was. -/
theorem State.enterDimming_dark {s : State} (clear : s.power.pendingWake = false) (d : Option Nat) (dest : Destination) :
    (s.setPower { s.power with darkRemaining := d }).enterDimming dest = s.enterDimming dest := by
  have clear' : (s.setPower { s.power with darkRemaining := d }).power.pendingWake = false := clear
  rw [State.enterDimming_eq clear, State.enterDimming_eq clear']
  rfl

theorem exec_darkIntervalExpiry_out {s : State} (awake : s.resetLow = false) (lit : s.power.state = .lit)
    (clear : s.power.pendingWake = false) :
    exec .darkIntervalExpiry (s.setPower { s.power with darkRemaining := some 0 }) = .next (s.enterDimming .standby) := by
  have awake' : (s.setPower { s.power with darkRemaining := some 0 }).resetLow = false := awake
  have lit' : (s.setPower { s.power with darkRemaining := some 0 }).power.state = .lit := lit
  rw [exec_darkIntervalExpiry, State.event_eq awake', State.darkExpiry_due lit' rfl, State.enterDimming_dark clear]

/-- Settles O59, by what DIMMING leaves as it is entered and as it ends. -/
theorem darkExpiryAndEndOfDimming : Obligations.DarkExpiryAndEndOfDimming := by
  intro s awake few
  have expiry : exec .darkIntervalExpiry s = .next s.darkExpiry := State.event_eq awake _
  refine ⟨fun lit out clear fade idle => ?_, fun lit out clear inv runs => ⟨fun fade => ?_, fun fade => ?_⟩,
    fun dest inv dimming toward zero => ?_, fun lit out pending => ?_⟩
  · rw [State.darkExpiry_due lit out, State.enterDimming_eq clear, if_neg fade, State.dims_idle idle] at expiry
    exact ⟨_, expiry, rfl, s.setPower_only _⟩
  · rw [State.darkExpiry_due lit out, State.enterDimming_eq clear, if_neg fade] at expiry
    exact ⟨_, expiry, State.dims_enters inv runs few .standby⟩
  · rw [State.darkExpiry_due lit out, State.enterDimming_eq clear, if_pos fade] at expiry
    obtain ⟨enters, only⟩ := State.dims_enters inv runs few .standby
    exact ⟨_, _, enters, only, expiry, State.dims_ends inv runs few .standby⟩
  · have due : s.dimmingEnd = s.endOfDimming := if_pos (by rw [Power.dimmed, dimming, zero]; rfl)
    exact ⟨_, (State.event_eq awake _).trans (congrArg Host.Outcome.next due), State.endOfDimming_ends inv few toward⟩
  · obtain ⟨d, power⟩ := State.woken_power lit
    have awake' : s.woken.resetLow = false := ((withoutWake s).wakeStart_only.field .resetLow).trans awake
    have clear : s.woken.power.pendingWake = false := by rw [power]
    refine ⟨s.woken, exec_wakeRisingEdge_withoutWake lit awake, ?_⟩
    rw [expiry, State.darkExpiry_due lit out, State.enterDimming_woken lit pending]
    exact (exec_darkIntervalExpiry_out awake' (by rw [power]) clear).symm

/-! ## GO_STANDBY and GO_DORMANT (R172 to R178, R182) -/

/-- What the abandonment of POWERING leaves (R175). -/
theorem State.abandonPowering_leaves (s : State) (few : s.notices.list.length ≤ 8) :
    (∀ i : Fin 4, s.abandonPowering.chains[i] = if s.chains[i].mode = .off then s.chains[i]
      else { s.chains[i] with mailbox := none, mode := .off, sent := sleepSent s.chains[i] }) ∧
    s.abandonPowering.supplyEn = false ∧
    s.abandonPowering.power = { s.power with state := .standby, settle := none, awaited := 0, cause := none,
                                             pendingWake := false } ∧
    s.abandonPowering.notices = s.notices.after .powerState .standby (.power .abandoned) := by
  have chains := s.stopChains_chain
  have only := s.stopChains_only
  unfold State.abandonPowering
  generalize s.stopChains = u at *
  have power : u.power = s.power := only.field .power
  have notices : u.notices = s.notices := only.field .notices
  refine ⟨chains, rfl, ?_, ?_⟩
  · rw [← power]
    rfl
  · rw [← notices] at few ⊢
    exact Notices.raise_eq _ few _ _ _

/-- What GO_STANDBY does in each power state. -/
def goStandbyBlock (s : State) : PowerState → Verdict
  | .dormant | .standby => s.went
  | .waking => (s.setPower { s.power with continueIntent := false, pendingWake := false }).went
  | .powering => s.abandonPowering.went
  | .lit => (s.enterDimming .standby).went
  | .dimming => (s.setPower { s.power with dest := some .standby }).went

/-- What GO_DORMANT does in each power state. -/
def goDormantBlock (s : State) : PowerState → Verdict
  | .dormant | .waking | .powering => s.stayed .busy
  | .standby => s.enterDormant.went
  | .lit => (s.enterDimming .dormant).went
  | .dimming => (s.setPower { s.power with dest := some .dormant }).went

section
variable {h : Header} {s : State} (plain : h.plain = true)
include plain

theorem goStandby_frame : exec (.goStandby h) s = s.takePower 0 h fun s => goStandbyBlock s s.power.state := by
  change s.takePower 0 h (fun s => if h.plain then goStandbyBlock s s.power.state else s.stayed .badValue) = _
  simp only [plain, if_true]

theorem goDormant_frame : exec (.goDormant h) s = s.takePower 0 h fun s => goDormantBlock s s.power.state := by
  change s.takePower 0 h (fun s => if h.plain then goDormantBlock s s.power.state else s.stayed .badValue) = _
  simp only [plain, if_true]

variable (awake : s.resetLow = false) (client : h.client = 0)
include awake client

theorem goStandby_done {p : PowerState} (state : s.power.state = p) (on : p ≠ .dormant) {s' : State}
    (v : goStandbyBlock s p = s'.went) :
    ∃ t, exec (.goStandby h) s = .next t ∧ Answers s t h .ok (goReply t) ∧ OnlyChanges [.reply, .sdo] s' t := by
  subst state
  exact went awake on client (goStandby_frame plain) v

theorem goDormant_done {p : PowerState} (state : s.power.state = p) (on : p ≠ .dormant) {s' : State}
    (v : goDormantBlock s p = s'.went) :
    ∃ t, exec (.goDormant h) s = .next t ∧ Answers s t h .ok (goReply t) ∧ OnlyChanges [.reply, .sdo] s' t := by
  subst state
  exact went awake on client (goDormant_frame plain) v

theorem goDormant_busy {p : PowerState} (state : s.power.state = p) (on : p ≠ .dormant) (v : goDormantBlock s p = s.stayed .busy) :
    ∃ t, exec (.goDormant h) s = .next t ∧ Answers s t h .busy (goReply t) ∧ OnlyChanges [.reply, .sdo] s t := by
  subst state
  exact stayed awake on client (goDormant_frame plain) v

end

theorem EntersDimming.congr {dest : Destination} {s u t : State} (h : EntersDimming dest s u)
    (stored : OnlyChanges [.reply, .sdo] u t) : EntersDimming dest s t := by
  rw [EntersDimming, CuesFade, show t.power = u.power from stored.field .power, show t.seq = u.seq from stored.field .seq,
    show t.cues = u.cues from stored.field .cues, show t.notices = u.notices from stored.field .notices,
    show t.palette = u.palette from stored.field .palette]
  exact h

theorem DimmingEnds.congr {dest : Destination} {s u t : State} (h : DimmingEnds dest s u)
    (stored : OnlyChanges [.reply, .sdo] u t) : DimmingEnds dest s t := by
  unfold DimmingEnds
  rw [show t.power = u.power from stored.field .power, show t.supplyEn = u.supplyEn from stored.field .supplyEn,
    show t.cues = u.cues from stored.field .cues, show t.notices = u.notices from stored.field .notices,
    show t.composer = u.composer from stored.field .composer, show t.chains = u.chains from stored.field .chains]
  exact h

/-- GO_STANDBY and GO_DORMANT in LIT, by the destination (R177). -/
theorem goDimming_done {h : Header} {s : State} {dest : Destination} {i : Instr}
    (names : (dest = .standby ∧ i = .goStandby h) ∨ (dest = .dormant ∧ i = .goDormant h)) (plain : h.plain = true)
    (awake : s.resetLow = false) (client : h.client = 0) (lit : s.power.state = .lit) :
    ∃ t, exec i s = .next t ∧ Answers s t h .ok (goReply t) ∧ OnlyChanges [.reply, .sdo] (s.enterDimming dest) t := by
  rcases names with ⟨rfl, rfl⟩ | ⟨rfl, rfl⟩
  · exact goStandby_done plain awake client lit nofun rfl
  · exact goDormant_done plain awake client lit nofun rfl

/-- What a GO command stores depends on the state before it by the reply that is shifted out. -/
theorem State.went_stored {s u : State} (reply : u.reply = s.reply) (t : State) (n : Nat) (tag : Byte) :
    t.went.stored s n tag = t.went.stored u n tag := by
  rw [State.went, Verdict.stored, Verdict.stored, reply]

/-- Settles O55, state by state, by what DIMMING leaves as it is entered and as it ends. -/
theorem goStandbyAndGoDormantByPowerState : Obligations.GoStandbyAndGoDormantByPowerState := by
  intro h s awake client plain few
  refine ⟨fun waking => ⟨?_, ?_⟩, fun standby => ⟨?_, ?_⟩, fun powering => ⟨?_, ?_⟩, fun lit clear fade idle => ?_,
    fun dest i names lit clear inv runs => ⟨fun fade => ?_, fun fade => ?_⟩, fun dimming => ⟨?_, ?_⟩, fun lit pending => ?_⟩
  · obtain ⟨t, run, answers, stored⟩ := goStandby_done plain awake client waking nofun rfl
    exact ⟨t, run, answers, stored.field .power, OnlyChanges.answered (s.setPower_only _) stored⟩
  · exact goDormant_busy plain awake client waking nofun rfl
  · exact goStandby_done plain awake client standby nofun rfl
  · obtain ⟨t, run, answers, stored⟩ := goDormant_done plain awake client standby nofun rfl
    have composer : t.composer = s.enterDormant.composer := stored.field .composer
    obtain ⟨timer, period, frame⟩ := s.enterDormant_composer
    refine ⟨t, run, answers, (stored.field .power).trans s.enterDormant_power, ?_, ?_, ?_, ?_,
      OnlyChanges.answered s.enterDormant_only stored⟩ <;> rw [composer]
    · exact frame
    · exact s.enterDormant_latest
    · exact timer
    · exact period
  · obtain ⟨t, run, answers, stored⟩ := goStandby_done plain awake client powering nofun rfl
    obtain ⟨chains, supply, power, notices⟩ := s.abandonPowering_leaves few
    have chains' : t.chains = s.abandonPowering.chains := stored.field .chains
    refine ⟨t, run, answers, ?_, (stored.field .supplyEn).trans supply, (stored.field .power).trans power,
      (stored.field .notices).trans notices, OnlyChanges.answered s.abandonPowering_only stored⟩
    rw [chains']
    exact chains
  · exact goDormant_busy plain awake client powering nofun rfl
  · have each : ∀ dest i, (dest = .standby ∧ i = .goStandby h) ∨ (dest = .dormant ∧ i = .goDormant h) →
        ∃ t, exec i s = .next t ∧ Answers s t h .ok (goReply t) ∧
          t.power = { s.power with state := .dimming, dest := some dest, envStart := s.power.envelope,
                                   envElapsed := 0, darkRemaining := none } ∧ OnlyChanges [.power, .reply, .sdo] s t := by
      intro dest i names
      obtain ⟨t, run, answers, stored⟩ := goDimming_done names plain awake client lit
      rw [State.enterDimming_eq clear, if_neg fade, State.dims_idle idle] at stored
      exact ⟨t, run, answers, stored.field .power, OnlyChanges.answered (s.setPower_only _) stored⟩
    exact ⟨each _ _ (.inl ⟨rfl, rfl⟩), each _ _ (.inr ⟨rfl, rfl⟩)⟩
  · obtain ⟨t, run, answers, stored⟩ := goDimming_done names plain awake client lit
    rw [State.enterDimming_eq clear, if_neg fade] at stored
    obtain ⟨enters, only⟩ := State.dims_enters inv runs few dest
    exact ⟨t, run, answers, enters.congr stored, OnlyChanges.answered only stored⟩
  · obtain ⟨t, run, answers, stored⟩ := goDimming_done names plain awake client lit
    rw [State.enterDimming_eq clear, if_pos fade] at stored
    obtain ⟨enters, only⟩ := State.dims_enters inv runs few dest
    obtain ⟨ends, only'⟩ := State.dims_ends inv runs few dest
    exact ⟨_, t, enters, only, run, answers, ends.congr stored, OnlyChanges.answered only' stored⟩
  · obtain ⟨t, run, answers, stored⟩ := goStandby_done plain awake client dimming nofun rfl
    exact ⟨t, run, answers, stored.field .power, OnlyChanges.answered (s.setPower_only _) stored⟩
  · obtain ⟨t, run, answers, stored⟩ := goDormant_done plain awake client dimming nofun rfl
    exact ⟨t, run, answers, stored.field .power, OnlyChanges.answered (s.setPower_only _) stored⟩
  · obtain ⟨d, power⟩ := State.woken_power lit
    have state : s.woken.power.state = .lit := by rw [power]
    have wakes := (withoutWake s).wakeStart_only
    have awake' : s.woken.resetLow = false := (wakes.field .resetLow).trans awake
    have reply : s.woken.reply = s.reply := wakes.field .reply
    refine ⟨s.woken, exec_wakeRisingEdge_withoutWake lit awake, ?_, ?_⟩
    · rw [goStandby_frame plain, goStandby_frame plain, State.takePower_reaches awake (by rw [lit]; nofun) client,
        State.takePower_reaches awake' (by rw [state]; nofun) client, lit, state, goStandbyBlock, goStandbyBlock,
        State.enterDimming_woken lit pending, State.went_stored reply]
    · rw [goDormant_frame plain, goDormant_frame plain, State.takePower_reaches awake (by rw [lit]; nofun) client,
        State.takePower_reaches awake' (by rw [state]; nofun) client, lit, state, goDormantBlock, goDormantBlock,
        State.enterDimming_woken lit pending, State.went_stored reply]

end Sys2Proof.Machine

/-! PROOFS. The entry to LIT (R175, R176) and the expiry of the supply settle timer. -/

namespace Sys2Proof.Machine

open Sys2Proof

/-! ## The entry to LIT (R176) -/

theorem PathCause.detail_some (cause : PathCause) : PathCause.detail (some cause) = match cause with
    | .command => .command
    | .wake => .wake := by cases cause <;> rfl

/-- Steps 1 to 5 of R176. -/
theorem State.lightUp_enters {s : State} {cause : PathCause} (path : s.power.cause = some cause)
    (few : s.notices.list.length ≤ 8) : EntersLit cause s.notices s.power.pendingWake s s.lightUp ∧
      OnlyChanges [.power, .cond, .composer, .notices, .noticeLow] s s.lightUp := by
  have result := s.lightUp_only
  obtain ⟨-, period⟩ := s.finishLastFrame_times
  have frame := s.finishLastFrame_frame
  have only := s.finishLastFrame_only
  rw [State.lightUp_eq] at result ⊢
  generalize s.finishLastFrame = u at *
  have power : u.power = s.power := only.field .power
  have notices : u.notices = s.notices := only.field .notices
  have cond : u.cond = s.cond := only.field .cond
  refine ⟨⟨?_, ?_, fun z => ?_, rfl, ?_, period, ?_⟩, result⟩
  · change u.power.lit = _
    rw [power, Power.lit, Power.reloadDark, if_pos rfl]
  · change u.cond.settled = _
    rw [cond]
    rfl
  · exact Vector.getElem_replicate _
  · exact congrArg (Option.map fun f => { f with discarded := BitVec.allOnes 16 }) frame
  · refine (Notices.raise_eq u.notices (by rw [notices]; exact few) _ _ _).trans ?_
    rw [notices, path, PathCause.detail_some] <;> rfl

theorem EntersLit.from {cause : PathCause} {n : Notices} {w : Bool} {s u t : State} (h : EntersLit cause n w u t)
    {a : BitVec 4} {c : Option Nat} (power : u.power = { s.power with awaited := a, settle := c }) (cond : u.cond = s.cond)
    (period : u.composer.period = s.composer.period) : EntersLit cause n w s t := by
  unfold EntersLit at h
  rw [power, cond, period] at h
  exact h

theorem EntersLit.congr {cause : PathCause} {n : Notices} {w w' : Bool} {s u t : State} (h : EntersLit cause n w s u)
    (power : t.power = { u.power with pendingWake := w' }) (cond : t.cond = u.cond) (composer : t.composer = u.composer)
    (notices : t.notices = u.notices) : EntersLit cause n w' s t := by
  obtain ⟨fields, rest⟩ := h
  unfold EntersLit
  rw [power, cond, composer, notices, fields]
  exact ⟨rfl, rest⟩

/-- Step 6 of R176 has been taken: there was nothing to start, or the wake start has been made or waits (UNVERIFIED, log 10). -/
theorem State.enterLit_enters {s : State} {cause : PathCause} (path : s.power.cause = some cause)
    (few : s.notices.list.length ≤ 8) (awake : s.resetLow = false) :
    (s.power.pendingWake = false ∨ s.power.welcomeArm = none → EntersLit cause s.notices false s s.enterLit ∧
      OnlyChanges [.power, .cond, .composer, .notices, .noticeLow] s s.enterLit) ∧
    (s.power.pendingWake = true → s.power.welcomeArm ≠ none → EntersLit cause s.notices true s s.lightUp.useFree ∧
      OnlyChanges [.power, .cond, .composer, .notices, .noticeLow, .freeCounter] s s.lightUp.useFree ∧
      OrdersWakeStart s s.lightUp.useFree s.enterLit) := by
  obtain ⟨enters, only⟩ := State.lightUp_enters path few
  have arm : s.lightUp.power.welcomeArm = s.power.welcomeArm := by rw [enters.1]
  have pending : s.lightUp.power.pendingWake = s.power.pendingWake := by rw [enters.1]
  have lit : s.lightUp.power.state = .lit := by rw [enters.1]
  have counter : s.lightUp.freeCounter = s.freeCounter := only.field .freeCounter
  have awake' : s.lightUp.resetLow = false := (only.field .resetLow).trans awake
  unfold State.enterLit
  generalize s.lightUp = u at *
  refine ⟨fun none' => ?_, fun wakes armed => ⟨?_, only.mono.trans u.useFree_only.mono, ?_⟩⟩
  · cases wakes : s.power.pendingWake with
    | false =>
      rw [State.orderEntryWake_clear u (pending.trans wakes)]
      rw [wakes] at enters
      exact ⟨enters, only⟩
    | true =>
      rw [State.orderEntryWake_unarmed u (pending.trans wakes) (arm.trans (none'.resolve_left (by rw [wakes]; nofun)))]
      exact ⟨enters.congr rfl rfl rfl rfl, only.mono.trans (u.setPower_only _).mono⟩
  · rw [wakes] at enters
    exact enters
  · rw [State.orderEntryWake_waiting u (pending.trans wakes) (by rw [arm]; exact Option.isSome_iff_ne_none.2 armed), counter,
      OrdersWakeStart]
    split
    · rfl
    · have made : u.useFree.makePendingWake = u.useFree.woken := if_pos (pending.trans wakes)
      rw [made]
      exact exec_wakeRisingEdge_withoutWake (s := u.useFree) lit awake'

/-! ## The supply settle timer (R175) -/

theorem State.enabledChains_bit (s : State) (i : Fin 4) : s.enabledChains.getLsbD i = s.chains[i].enabled := by
  have each : s.enabledChains = (indices 4).foldl (fun m i => m ||| if s.chains[i].enabled then BitVec.twoPow 4 i else 0) 0 := by
    refine congrArg (fun f => List.foldl f 0 (indices 4)) (funext fun m => funext fun i => ?_)
    split <;> simp
  rw [each, Bool.eq_iff_iff, foldl_or_bit]
  constructor
  · rintro (zero | ⟨j, -, bit⟩)
    · simp at zero
    · split at bit
      · next on =>
        rw [BitVec.getLsbD_twoPow] at bit
        have e : j = i := Fin.ext (by simpa using bit)
        exact e ▸ on
      · simp at bit
  · intro on
    refine .inr ⟨i, List.mem_finRange i, ?_⟩
    rw [if_pos on, BitVec.getLsbD_twoPow]
    simp

/-- What a list of starts does to each chain. -/
theorem State.foldl_startChain_each (is : List (Fin 4)) (j : Fin 4) : ∀ s : State, is.Nodup →
    (is.foldl State.startChain s).chains[j] = (if j ∈ is then s.chains[j].start else s.chains[j]) ∧
      (is.foldl State.startChain s).cond.perChain[j] = if j ∈ is then ChainOutput.initial else s.cond.perChain[j] := by
  induction is with
  | nil => exact fun s _ => ⟨by simp, by simp⟩
  | cons i is ih =>
    intro s nodup
    obtain ⟨fresh, nodup⟩ := List.nodup_cons.1 nodup
    obtain ⟨chain, output⟩ := ih (s.startChain i) nodup
    have record : (s.startChain i).chains[j] = if j = i then s.chains[i].start else s.chains[j] := s.setChain_chain i j _
    have initial : (s.startChain i).cond.perChain[j] = if j = i then ChainOutput.initial else s.cond.perChain[j] :=
      getElem_setFin _ _ _ _
    rw [List.foldl_cons, chain, output, record, initial]
    by_cases e : j = i
    · subst e
      simp [fresh]
    · simp [e]

/-- A list of starts changes nothing else of the Output Conditioner. -/
theorem State.foldl_startChain_only (is : List (Fin 4)) (s : State) :
    OnlyChanges [.chains, .composer, .cond] s (is.foldl State.startChain s) := OnlyChanges.foldl _ State.startChain_only _ s

theorem exec_supplySettleExpiry (s : State) : exec .supplySettleExpiry s = s.event State.settleExpiry := rfl

theorem State.settleExpiry_eq {s : State} (powering : s.power.state = .powering) {n : Nat} (settle : s.power.settle = some n) :
    s.settleExpiry =
      if s.enabledChains = 0 then
        ((members s.enabledChains).foldl State.startChain
          (s.setPower { s.power with settle := none, awaited := s.enabledChains })).enterLit
      else (members s.enabledChains).foldl State.startChain
        (s.setPower { s.power with settle := none, awaited := s.enabledChains }) :=
  if_pos ⟨powering, by rw [settle]; rfl⟩

/-- With no chain enabled the part enters LIT at the expiry. -/
theorem State.settleExpiry_lights {s : State} (powering : s.power.state = .powering) {n : Nat} (settle : s.power.settle = some n)
    (none' : ∀ j : Fin 4, s.chains[j].enabled = false) : s.settleExpiry = s.enterLit := by
  have zero : s.enabledChains = 0 := BitVec.eq_of_getLsbD_eq fun i hi => by
    rw [s.enabledChains_bit ⟨i, hi⟩, none']
    simp
  rw [State.settleExpiry_eq powering settle, if_pos zero, zero]
  exact congrArg State.orderEntryWake (s.lightUp_awaited 0 none)

/-- The wake start of the entry, made at once: the armed slot is started on runner 0 (R169). -/
theorem State.woken_starts {s u t : State} {cause : PathCause} (awake : s.resetLow = false)
    (enters : EntersLit cause s.notices true s u)
    (only : OnlyChanges [.power, .cond, .composer, .notices, .noticeLow, .freeCounter] s u)
    (made : exec .wakeRisingEdge (withoutWake u) = .next t) {k : Fin 6} {d : Nat} (arm : s.power.welcomeArm = some k)
    (ready : s.seq.slots[k].state = .ready) (first : HasStep k 0 (.wait d) s) (noPost : ∀ z, ¬ PostsTo k z s)
    (idle : s.seq.runners[(0 : Fin 2)].state = .idle) :
    EntersLit cause s.notices false s t ∧ Started 0 k .wake d s t ∧
      t.seq.runners[(1 : Fin 2)] = s.seq.runners[(1 : Fin 2)] ∧ (∀ m : Fin 6, m ≠ k → t.seq.slots[m] = s.seq.slots[m]) ∧
      OnlyChanges [.power, .cond, .composer, .seq, .notices, .noticeLow, .freeCounter] s t := by
  have seq : (withoutWake u).seq = s.seq := only.field .seq
  have lit : u.power.state = .lit := by rw [enters.1]
  have armed : (withoutWake u).power.welcomeArm = some k := by
    rw [← arm]
    change u.power.welcomeArm = s.power.welcomeArm
    rw [enters.1]
  have starts : u.woken = (withoutWake u).giveRunner 0 k .wake :=
    State.wakeStart_free armed (by rw [seq]; exact ready) (by rw [seq]; exact idle) fun j less => absurd less (Fin.not_lt_zero j)
  have same : t = (withoutWake u).giveRunner 0 k .wake := by
    rw [exec_wakeRisingEdge_withoutWake lit ((only.field .resetLow).trans awake), starts] at made
    exact (Host.Outcome.next.inj made).symm
  have first' : HasStep k 0 (.wait d) (withoutWake u) := first.congr (by rw [seq])
  have noPost' : ∀ z, ¬ PostsTo k z (withoutWake u) := fun z => by
    rw [PostsTo, seq]
    exact noPost z
  have changes := State.giveRunner_only_engine (r := 0) first' noPost' .wake
  obtain ⟨started, others, rest, power⟩ := State.giveRunner_takes (r := 0) first' .wake
  rw [← same] at changes started others rest power
  have dark : (withoutWake u).power.reloadDark = { u.power with pendingWake := false } := by
    rw [withoutWake, enters.1]
    rfl
  refine ⟨enters.congr (power.trans dark) (changes.field .cond) (changes.field .composer) (changes.field .notices),
    started.from seq, (others 1 (by decide)).trans (by rw [seq]), fun m ne => (rest m ne).trans (by rw [seq]),
    (only.mono.trans (u.setPower_only { u.power with pendingWake := false }).mono).trans changes.mono⟩

/-- Settles O58: which chains are enabled decides, and then step 6 of the entry. -/
theorem settleExpiryStartsTheChains : Obligations.SettleExpiryStartsTheChains := by
  refine ⟨fun s n j awake powering settle on => ?_, fun s n cause awake powering settle none' path few => ?_⟩
  · have some' : s.enabledChains ≠ 0 := fun zero => by
      have bit := s.enabledChains_bit j
      rw [zero, on] at bit
      simp at bit
    have expiry : exec .supplySettleExpiry s = .next s.settleExpiry := State.event_eq awake _
    rw [State.settleExpiry_eq powering settle, if_neg some'] at expiry
    have starts := State.foldl_startChain_only (members s.enabledChains)
      (s.setPower { s.power with settle := none, awaited := s.enabledChains })
    have each := fun i => State.foldl_startChain_each (members s.enabledChains) i
      (s.setPower { s.power with settle := none, awaited := s.enabledChains }) (members_nodup _)
    have enabled : ∀ i, i ∈ members s.enabledChains ↔ s.chains[i].enabled = true := fun i => by
      rw [mem_members, s.enabledChains_bit]
    generalize (members s.enabledChains).foldl State.startChain _ = u at *
    have power : u.power = { s.power with settle := none, awaited := s.enabledChains } := starts.field .power
    refine ⟨u, expiry, by rw [power]; exact powering, by rw [power], fun i => ?_, by rw [power], fun i => ?_, fun i => ?_,
      (s.setPower_only _).mono.trans starts.mono⟩
    · rw [power]
      exact s.enabledChains_bit i
    · rw [(each i).1]
      simp only [enabled]
      split
      · next on' =>
        rw [← Chain.start_eq, ← on']
        rfl
      · rfl
    · rw [(each i).2]
      simp only [enabled]
      rfl
  · have expiry : exec .supplySettleExpiry s = .next s.enterLit :=
      (State.event_eq awake _).trans (congrArg Host.Outcome.next (State.settleExpiry_lights powering settle none'))
    obtain ⟨clears, waits⟩ := State.enterLit_enters path few awake
    refine ⟨fun still => ⟨_, expiry, clears still⟩, fun wakes armed => ?_, fun k d wakes arm ready first noPost idle => ?_⟩
    · obtain ⟨enters, only, orders⟩ := waits wakes armed
      exact ⟨_, _, expiry, enters, only, orders⟩
    · obtain ⟨enters, only, orders⟩ := waits wakes (by rw [arm]; nofun)
      refine ⟨_, expiry, ?_⟩
      rw [OrdersWakeStart] at orders
      split at orders
      · next late =>
        rw [if_pos late, orders]
        exact ⟨enters, only⟩
      · next soon =>
        rw [if_neg soon]
        exact State.woken_starts awake enters only orders arm ready first noPost idle

end Sys2Proof.Machine

/-! PROOFS. Templates and sequence slots (R145 to R150): how steps are read, what loads, finishes and clears a slot. -/

namespace Sys2Proof.Machine

open Sys2Proof

/-! ## Steps (R148, R197, 11.3) -/

theorem stepReservedOk_iff (r : RawStep) : stepReservedOk r = false ↔ ReservedStep r := by
  unfold stepReservedOk ReservedStep
  split
  · next e => simp [e]; tauto
  · next e => simp [e]; tauto
  · next e => simp [e]; tauto
  · next e => simp [e]; tauto
  · next e => simp [e]; tauto
  · next e => simp [e]; tauto
  · next n0 n1 n5 n2 n3 n6 =>
    simp only [imp_false] at n0 n1 n5 n2 n3 n6
    simp only [Bool.true_eq_false, n0, n1, n2, n3, n5, n6, or_self, false_and]

theorem actionOf_eq (w : Byte) : actionOf w = if w.toNat < 64 then some .goOn else if w.toNat < 128 then some .abort
    else if w.toNat < 192 ∧ w.toNat % 64 ≤ 31 then some (.goto (w.toNat % 64)) else none := by
  have high : (w.extractLsb' 6 2).toNat = w.toNat / 64 := by
    rw [BitVec.extractLsb'_toNat, Nat.shiftRight_eq_div_pow]
    have := w.isLt
    omega
  have low : (w.extractLsb' 0 6).toNat = w.toNat % 64 := by rw [BitVec.extractLsb'_toNat, Nat.shiftRight_zero]
  have size := w.isLt
  unfold actionOf
  rw [high, low]
  split
  · next e => rw [if_pos (by omega)]
  · next e => rw [if_neg (by omega), if_pos (by omega)]
  · next e =>
    refine Eq.trans ?_ ((if_neg (by omega)).trans (if_neg (by omega))).symm
    simp only [low, show w.toNat < 192 by omega, true_and]
  · next n0 n1 n2 =>
    simp only [imp_false] at n0 n1 n2
    rw [if_neg (by omega), if_neg (by omega), if_neg (by omega)]

theorem actionOf_eq_none (w : Byte) : actionOf w = none ↔ 192 ≤ w.toNat ∨ 128 ≤ w.toNat ∧ 31 < w.toNat % 64 := by
  rw [actionOf_eq]
  split_ifs <;> simp only [reduceCtorEq, false_iff, true_iff] <;> omega

theorem index?_eq_none_iff {n x : Nat} : index? n x = none ↔ n ≤ x := by
  rw [index?]
  split <;> simp only [reduceCtorEq, false_iff, true_iff] <;> omega

theorem boolOf_eq_none (code : Byte) : boolOf code = none ↔ 1 < code.toNat := by
  refine ⟨fun h => ?_, boolOf_none⟩
  unfold boolOf at h
  split at h
  · cases h
  · cases h
  · next n0 n1 =>
    simp only [imp_false] at n0 n1
    omega

theorem bind_pure_eq_none {α β : Type} {x : Option α} {f : α → β} : (do let a ← x; some (f a)) = none ↔ x = none := by
  cases x <;> simp

theorem bind_bind_eq_none {α β γ : Type} {x : Option α} {y : Option β} {f : α → β → γ} :
    (do let a ← x; let b ← y; some (f a b)) = none ↔ x = none ∨ y = none := by
  cases x <;> cases y <;> simp

/-- Which steps are refused (R148). -/
theorem stepOf_eq_none (r : RawStep) : stepOf r = none ↔ RefusedStep r := by
  unfold stepOf RefusedStep
  split
  · next e =>
    rw [bind_bind_eq_none, index?_eq_none_iff, index?_eq_none_iff]
    omega
  · next e =>
    rw [bind_bind_eq_none, index?_eq_none_iff, fadeModeOf_eq_none]
    omega
  · next e =>
    rw [bind_pure_eq_none, index?_eq_none_iff]
    omega
  · next e =>
    simp only [reduceCtorEq, false_iff]
    omega
  · next e =>
    have three : ∀ {α β γ δ : Type} (x : Option α) (y : Option β) (z : Option γ) (f : α → β → γ → δ),
        (do let a ← x; let b ← y; let c ← z; some (f a b c)) = none ↔ x = none ∨ y = none ∨ z = none := by
      intro α β γ δ x y z f
      cases x <;> cases y <;> cases z <;> simp
    rw [three, index?_eq_none_iff, boolOf_eq_none, actionOf_eq_none]
    omega
  · next e =>
    have zero : r.b2 = 0 ↔ r.b2.toNat = 0 := ⟨fun h => by rw [h]; rfl, fun h => BitVec.eq_of_toNat_eq h⟩
    split
    · next ok =>
      obtain ⟨small, some'⟩ := ok
      rw [ne_eq, zero] at some'
      simp only [reduceCtorEq, false_iff, zero]
      omega
    · next bad =>
      rw [ne_eq, zero] at bad
      simp only [true_iff, zero]
      omega
  · next e =>
    split
    · next n0 n1 n2 => simp only [reduceCtorEq, false_iff]; omega
    · next n0 n1 n2 => simp only [reduceCtorEq, false_iff]; omega
    · next n0 n1 n2 => simp only [reduceCtorEq, false_iff]; omega
    · next n0 n1 n2 =>
      simp only [imp_false] at n0 n1 n2
      simp only [true_iff]
      omega
  · next n0 n1 n2 n3 n4 n5 n6 =>
    simp only [imp_false] at *
    simp only [true_iff]
    omega

theorem wide_bytes (a b : Byte) : (a ++ b).toNat = 256 * a.toNat + b.toNat := by
  rw [toNat_append_eq]
  omega

theorem fadeModeOf_eq_some {code : Byte} {m : FadeMode} (h : fadeModeOf code = some m) :
    m = if code.toNat = 0 then .fade else .now := by
  unfold fadeModeOf at h
  split at h <;> cases h
  · next zero => rw [if_pos zero]
  · next one => rw [if_neg (by omega)]

theorem boolOf_eq_some {code : Byte} {b : Bool} (h : boolOf code = some b) : b = decide (code.toNat = 1) := by
  unfold boolOf at h
  split at h <;> cases h
  · next zero => rw [zero]; rfl
  · next one => rw [one]; rfl

theorem actionOf_eq_some {w : Byte} {a : TimeoutAction} (h : actionOf w = some a) :
    a = if w.toNat < 64 then .goOn else if w.toNat < 128 then .abort else .goto (w.toNat % 64) := by
  rw [actionOf_eq] at h
  split_ifs at h ⊢ <;> cases h <;> rfl

/-- What a step that is taken is stored as (R148). -/
theorem stepOf_eq_some {r : RawStep} {x : Step} {altered : Bool} (h : stepOf r = some (x, altered)) : StoredStep r x altered := by
  have other : ∀ {n : Nat} {P : Prop}, n ≠ r.kind.toNat → r.kind.toNat = n → P := fun ne e => absurd e.symm ne
  unfold stepOf at h
  split at h
  · next e =>
    simp only [Option.bind_eq_bind, Option.bind_eq_some_iff, Option.some_inj, Prod.mk.injEq] at h
    obtain ⟨t, ht, l, hl, rfl, rfl⟩ := h
    exact ⟨fun _ => ⟨⟨t, l, rfl, (index?_eq_some.1 ht).symm, (index?_eq_some.1 hl).symm⟩, rfl⟩, other (by omega), other (by omega),
      other (by omega), other (by omega), other (by omega), other (by omega)⟩
  · next e =>
    simp only [Option.bind_eq_bind, Option.bind_eq_some_iff, Option.some_inj, Prod.mk.injEq] at h
    obtain ⟨l, hl, m, hm, rfl, rfl⟩ := h
    refine ⟨other (by omega), fun _ => ⟨⟨l, ?_, (index?_eq_some.1 hl).symm⟩, rfl⟩, other (by omega), other (by omega),
      other (by omega), other (by omega), other (by omega)⟩
    rw [fadeModeOf_eq_some hm]
  · next e =>
    simp only [Option.bind_eq_bind, Option.bind_eq_some_iff, Option.some_inj, Prod.mk.injEq] at h
    obtain ⟨l, hl, rfl, rfl⟩ := h
    refine ⟨other (by omega), other (by omega), fun _ => ⟨⟨l, ?_, (index?_eq_some.1 hl).symm⟩, ?_⟩, other (by omega),
      other (by omega), other (by omega), other (by omega)⟩
    · rw [clampMax_value, wide_bytes]
    · rw [clampMax_altered, wide_bytes]
  · next e =>
    simp only [Option.some_inj, Prod.mk.injEq, clampRange_eq (show 1 ≤ 6000 by decide), wide_bytes] at h
    obtain ⟨rfl, rfl⟩ := h
    refine ⟨other (by omega), other (by omega), other (by omega), fun _ => ⟨rfl, ?_⟩, other (by omega), other (by omega),
      other (by omega)⟩
    rw [decide_eq_true_iff]
    omega
  · next e =>
    simp only [Option.bind_eq_bind, Option.bind_eq_some_iff, Option.some_inj, Prod.mk.injEq] at h
    obtain ⟨n, hn, v, hv, a, ha, rfl, rfl⟩ := h
    refine ⟨other (by omega), other (by omega), other (by omega), other (by omega),
      fun _ => ⟨⟨n, ?_, (index?_eq_some.1 hn).symm⟩, ?_⟩, other (by omega), other (by omega)⟩
    · rw [clampMax_value, wide_bytes, boolOf_eq_some hv, actionOf_eq_some ha]
    · rw [clampMax_altered, wide_bytes]
  · next e =>
    split at h <;> cases h
    exact ⟨other (by omega), other (by omega), other (by omega), other (by omega), other (by omega), fun _ => ⟨rfl, rfl⟩,
      other (by omega)⟩
  · next e =>
    refine ⟨other (by omega), other (by omega), other (by omega), other (by omega), other (by omega), other (by omega), fun _ => ?_⟩
    split at h <;> cases h
    · next zero => rw [zero]; exact ⟨rfl, rfl⟩
    · next one => rw [one]; exact ⟨rfl, rfl⟩
    · next two => rw [two]; exact ⟨rfl, rfl⟩
  · cases h

/-! ## The conditions of FINISH_SEQUENCE (R149) -/

theorem SeqSlot.stepAt_eq_some {q : SeqSlot} {i : Nat} {x : Step} :
    q.stepAt i = some x ↔ ∃ j : Fin 32, j.val = i ∧ q.steps[j] = some x := by
  constructor
  · intro h
    unfold SeqSlot.stepAt at h
    split at h
    · cases h
    · next j at' => exact ⟨j, (index?_eq_some.1 at').symm, h⟩
  · rintro ⟨j, rfl, step⟩
    rw [SeqSlot.stepAt, index?_eq j rfl]
    exact step

theorem SeqSlot.stepIs_iff {q : SeqSlot} {i : Nat} {p : Step → Prop} : q.stepIs i p ↔ ∃ x, q.stepAt i = some x ∧ p x := by
  constructor
  · rintro ⟨j, x, at', step, holds⟩
    exact ⟨x, SeqSlot.stepAt_eq_some.2 ⟨j, at', step⟩, holds⟩
  · rintro ⟨x, here, holds⟩
    obtain ⟨j, at', step⟩ := SeqSlot.stepAt_eq_some.1 here
    exact ⟨j, x, at', step, holds⟩

theorem SeqSlot.any_stepAt {q : SeqSlot} {i : Nat} {b : Step → Bool} {p : Step → Prop} (same : ∀ x, b x = true ↔ p x) :
    (q.stepAt i).any b = true ↔ q.stepIs i p := by
  rw [SeqSlot.stepIs_iff]
  cases q.stepAt i with
  | none => simp
  | some x => simp [same]

theorem SeqSlot.anyStep_iff {q : SeqSlot} {lo hi : Nat} {b : Step → Bool} {p : Step → Prop} (same : ∀ x, b x = true ↔ p x) :
    q.anyStep lo hi b = true ↔ ∃ j, lo ≤ j ∧ j < hi ∧ q.stepIs j p := by
  simp only [SeqSlot.anyStep, List.any_eq_true, List.mem_range, Bool.and_eq_true, decide_eq_true_eq, SeqSlot.any_stepAt same]
  exact ⟨fun ⟨j, less, least, step⟩ => ⟨j, least, less, step⟩, fun ⟨j, least, less, step⟩ => ⟨j, less, least, step⟩⟩

theorem Step.isRepeat_iff (x : Step) : x.isRepeat = true ↔ ∃ t n, x = .repeatFrom t n := by
  cases x <;> simp [Step.isRepeat]

theorem Step.isWait_iff (x : Step) : x.isWait = true ↔ (∃ d, x = .wait d) ∨ ∃ m v l a, x = .waitSignal m v l a := by
  cases x <;> simp [Step.isWait]

theorem Step.isEnd_iff (x : Step) : x.isEnd = true ↔ ∃ d, x = .finish d := by cases x <;> simp [Step.isEnd]

/-- A condition on a REPEAT step fails where the step is one and its own part fails. -/
theorem SeqSlot.repeat_iff {q : SeqSlot} {i : Nat} {b : Nat → Bool} {p : Nat → Prop} (same : ∀ t, b t = true ↔ p t) :
    (match q.stepAt i with
      | some (.repeatFrom t _) => b t
      | _ => false) = true ↔ q.stepIs i fun x => ∃ t n, x = .repeatFrom t n ∧ p t := by
  rw [SeqSlot.stepIs_iff]
  rcases q.stepAt i with _ | x
  · simp
  · cases x <;> simp [same]

/-- The tests of R149 are the conditions of its table. -/
theorem SeqSlot.failsAt_iff (q : SeqSlot) (count : Nat) (fault : SequenceFault) (i : Nat) :
    q.failsAt count fault i = true ↔ breaksRule q count fault i := by
  cases fault with
  | notWritten => simp [SeqSlot.failsAt, breaksRule]
  | finalNotEnd =>
    simp only [SeqSlot.failsAt, breaksRule, Bool.and_eq_true, decide_eq_true_eq, Bool.not_eq_true', ← Bool.not_eq_true,
      SeqSlot.any_stepAt Step.isEnd_iff]
  | targetNotBelow => exact SeqSlot.repeat_iff fun t => decide_eq_true_iff
  | nestedRepeat => exact SeqSlot.repeat_iff fun t => SeqSlot.anyStep_iff Step.isRepeat_iff
  | rangeWithoutWait =>
    refine SeqSlot.repeat_iff (b := fun t => !q.anyStep t i Step.isWait) fun t => ?_
    rw [Bool.not_eq_true', ← Bool.not_eq_true, SeqSlot.anyStep_iff Step.isWait_iff]
    exact ⟨fun h j least less step => h ⟨j, least, less, step⟩, fun h ⟨j, least, less, step⟩ => h j least less step⟩
  | gotoBeyond =>
    rw [SeqSlot.failsAt, breaksRule, SeqSlot.stepIs_iff]
    rcases q.stepAt i with _ | x
    · simp
    · cases x with
      | waitSignal m v l a => cases a <;> simp
      | post | retire | modify | wait | repeatFrom | finish => simp

/-- The first of a list of tests that answers. -/
theorem findSome_first {α β : Type} [DecidableEq α] {g : α → Option β} {a : α} {b : β} (here : g a = some b) :
    ∀ {l : List α}, a ∈ l → (∀ c, l.idxOf c < l.idxOf a → g c = none) → l.findSome? g = some b
  | x :: l, mem, before => by
    by_cases e : x = a
    · subst e
      simp [here]
    · have earlier : g x = none := before x (by simp [List.idxOf_cons_ne _ e])
      rw [List.findSome?_cons, earlier]
      refine findSome_first here ((List.mem_cons.1 mem).resolve_left (Ne.symm e)) fun c less => ?_
      by_cases same : x = c
      · exact same ▸ earlier
      · exact before c (by rw [List.idxOf_cons_ne _ e, List.idxOf_cons_ne _ same]; omega)

theorem SeqSlot.validate_none {q : SeqSlot} {count : Nat} (holds : ∀ fault i, i < count → ¬ breaksRule q count fault i) :
    q.validate count = none := by
  rw [SeqSlot.validate, List.findSome?_eq_none_iff]
  intro fault _
  rw [Option.map_eq_none_iff, List.find?_eq_none]
  exact fun i less fails => holds fault i (List.mem_range.1 less) ((q.failsAt_iff count fault i).1 fails)

theorem SeqSlot.validate_first {q : SeqSlot} {count i : Nat} {fault : SequenceFault} (less : i < count)
    (fails : breaksRule q count fault i) (lowest : ∀ j, j < i → ¬ breaksRule q count fault j)
    (earlier : ∀ other j, sequenceFaults.idxOf other < sequenceFaults.idxOf fault → j < count → ¬ breaksRule q count other j) :
    q.validate count = some (fault, i) := by
  have found : (List.range count).find? (q.failsAt count fault) = some i := by
    rw [List.find?_range_eq_some]
    refine ⟨(q.failsAt_iff count fault i).2 fails, List.mem_range.2 less, fun j before => ?_⟩
    rw [Bool.not_eq_true', ← Bool.not_eq_true, SeqSlot.failsAt_iff]
    exact lowest j before
  have listed : fault ∈ sequenceFaults := by cases fault <;> decide
  rw [SeqSlot.validate]
  refine findSome_first (a := fault) ?_ listed fun other before => ?_
  · rw [found]
    rfl
  · rw [Option.map_eq_none_iff, List.find?_eq_none]
    exact fun j less fails => earlier other j before (List.mem_range.1 less) ((q.failsAt_iff count other j).1 fails)

/-! ## LOAD_STEPS (R147) -/

section
variable (q : SeqSlot) (first : Nat) (xs : List Step)

theorem SeqSlot.write_steps (i : Fin 32) : (q.write first xs).steps[i] =
    if first ≤ i.val ∧ i.val < first + xs.length then xs[i.val - first]? else q.steps[i] := by
  simp [SeqSlot.write]

theorem SeqSlot.write_written (few : first + xs.length ≤ 32) (i : Fin 32) : (q.write first xs).written.getLsbD i = true ↔
    (first ≤ i.val ∧ i.val < first + xs.length) ∨ q.written.getLsbD i = true := by
  have size := i.isLt
  have bit : (((BitVec.allOnes 32 >>> (32 - xs.length)) <<< first : BitVec 32)).getLsbD i = true ↔
      first ≤ i.val ∧ i.val < first + xs.length := by
    simp only [BitVec.getLsbD_shiftLeft, BitVec.getLsbD_ushiftRight, BitVec.getLsbD_allOnes, Bool.and_eq_true,
      Bool.not_eq_true', decide_eq_true_eq, decide_eq_false_iff_not]
    omega
  rw [SeqSlot.write]
  simp only [BitVec.getLsbD_or, Bool.or_eq_true, bit]
  exact or_comm

end

theorem SeqSlot.beginLoading_written {q : SeqSlot} (n : Nat) :
    q.beginLoading.written.getLsbD n = true ↔ q.state = .loading ∧ q.written.getLsbD n = true := by
  unfold SeqSlot.beginLoading
  split
  · next loading => simp [loading]
  · next other =>
    simp only [imp_false] at other
    simp [other]

theorem SeqSlot.beginLoading_rest (q : SeqSlot) : q.beginLoading.state = .loading ∧ q.beginLoading.rank = q.rank ∧
    q.beginLoading.count = q.count ∧ q.beginLoading.steps = q.steps := by
  unfold SeqSlot.beginLoading
  split
  · next loading => exact ⟨loading, rfl, rfl, rfl⟩
  · exact ⟨rfl, rfl, rfl, rfl⟩

theorem SlotState.isRunning_false {x : SlotState} (still : ∀ r, x ≠ .running r) : x.isRunning = false := by
  cases x with
  | running r => exact absurd rfl (still r)
  | empty | loading | ready => rfl

/-! ## What the commands on a slot leave -/

/-- Only slot `k` of the Sequence Engine has changed. -/
def OnlySeqSlot (k : Fin 6) (s t : State) : Prop :=
  (∀ m : Fin 6, m ≠ k → t.seq.slots[m] = s.seq.slots[m]) ∧ t.seq = { s.seq with slots := t.seq.slots } ∧
    OnlyChanges [.seq, .reply, .sdo] s t

theorem CarriesOut.setSlot {h : Header} {a p i} {s : State} {k : Fin 6} {f : SeqSlot → SeqSlot}
    (done : CarriesOut h a p i s (s.setSlot k f)) :
    ∃ t, exec i s = .next t ∧ Answers s t h (doneStatus a) p ∧ t.seq.slots[k] = f s.seq.slots[k] ∧ OnlySeqSlot k s t := by
  obtain ⟨t, run, answers, stored⟩ := done
  have seq : t.seq = (s.setSlot k f).seq := stored.field .seq
  refine ⟨t, run, answers, ?_, fun m ne => ?_, ?_, OnlyChanges.answered (s.setSlot_only k f) stored⟩
  · rw [seq, State.setSlot_slot, if_pos rfl]
  · rw [seq, State.setSlot_slot, if_neg ne]
  · rw [seq]
    rfl

section
variable {h : Header} {slot : Byte} {k : Fin 6} {s : State} (reaches : Reaches .configuring h s) (plain : h.plain = true)
  (named : slot.toNat = k.val)
include reaches plain named

theorem loadSteps_done (still : s.seq.slots[k].state.isRunning = false) {first : Byte} {raws : List RawStep}
    {xs : List (Step × Bool)} (read : stepsOf raws = some xs) (some' : raws ≠ []) (few : raws.length ≤ 16)
    (within : first.toNat + raws.length ≤ 32) (clear : ∀ raw ∈ raws, stepReservedOk raw = true) :
    CarriesOut h (xs.any (·.2)) (.written (s.seq.slots[k].beginLoading.write first.toNat (xs.map (·.1))).written)
      (.loadSteps h slot first raws) s
      (s.setSlot k fun _ => s.seq.slots[k].beginLoading.write first.toNat (xs.map (·.1))) := by
  refine configuring_done (i := .loadSteps h slot first raws) reaches (list_frame (decide_eq_true few) rfl) ?_
  have room : (!raws.isEmpty && decide (first.toNat + raws.length ≤ 32)) = true := by
    rw [decide_eq_true within, Bool.and_true, Bool.not_eq_true', List.isEmpty_eq_false_iff]
    exact some'
  rw [require_true (by rw [plain, Bool.true_and, List.all_eq_true]; exact clear), requireSome_some (index?_eq k named),
    guardWith_false still, require_true room, requireSome_some read]

theorem loadSteps_refused {first : Byte} {raws : List RawStep} (few : raws.length ≤ 16)
    (still : s.seq.slots[k].state.isRunning = false)
    (bad : (∃ raw ∈ raws, ReservedStep raw) ∨ raws = [] ∨ 32 < first.toNat + raws.length ∨ ∃ raw ∈ raws, RefusedStep raw) :
    Refuses h .badValue .empty (.loadSteps h slot first raws) s := by
  refine configuring_refused (i := .loadSteps h slot first raws) reaches (list_frame (decide_eq_true few) rfl) ?_
  cases clear : raws.all stepReservedOk with
  | false => rw [require_false (by rw [Bool.and_false])]
  | true =>
    rw [require_true (by rw [plain, Bool.true_and]), requireSome_some (index?_eq k named), guardWith_false still]
    cases room : !raws.isEmpty && decide (first.toNat + raws.length ≤ 32) with
    | false => rw [require_false rfl]
    | true =>
      rw [require_true rfl]
      have none' : stepsOf raws = none := by
        rw [Bool.and_eq_true, decide_eq_true_eq, Bool.not_eq_true', List.isEmpty_eq_false_iff] at room
        rcases bad with ⟨raw, mem, reserved⟩ | empty | long | ⟨raw, mem, refused⟩
        · rw [← stepReservedOk_iff, List.all_eq_true.1 clear raw mem] at reserved
          cases reserved
        · exact absurd empty room.1
        · omega
        · refine Option.eq_none_iff_forall_ne_some.2 fun xs read => ?_
          obtain ⟨x, taken⟩ := mem_of_mapM read mem
          rw [(stepOf_eq_none raw).2 refused] at taken
          cases taken
      rw [requireSome_none none']

theorem loadSteps_busy (runs : s.seq.slots[k].state.isRunning = true) {first : Byte} {raws : List RawStep}
    (few : raws.length ≤ 16) (clear : ∀ raw ∈ raws, stepReservedOk raw = true) :
    Refuses h .busy .empty (.loadSteps h slot first raws) s := by
  refine configuring_refused (i := .loadSteps h slot first raws) reaches (list_frame (decide_eq_true few) rfl) ?_
  rw [require_true (by rw [plain, Bool.true_and, List.all_eq_true]; exact clear), requireSome_some (index?_eq k named),
    guardWith_true runs]

theorem clearSequence_done (still : s.seq.slots[k].state.isRunning = false) :
    CarriesOut h false .empty (.clearSequence h slot) s (s.setSlot k fun _ => SeqSlot.empty) := by
  refine configuring_done (i := .clearSequence h slot) reaches rfl ?_
  rw [require_true plain, requireSome_some (index?_eq k named), guardWith_false still]

theorem clearSequence_busy (runs : s.seq.slots[k].state.isRunning = true) :
    Refuses h .busy .empty (.clearSequence h slot) s := by
  refine configuring_refused (i := .clearSequence h slot) reaches rfl ?_
  rw [require_true plain, requireSome_some (index?_eq k named), guardWith_true runs]

variable {count rank : Byte} (least : 1 ≤ count.toNat) (most : count.toNat ≤ 32) (top : rank.toNat ≤ 7)
include least most top

/-- What FINISH_SEQUENCE tests before the state of the slot. -/
theorem finishSequence_test : (h.plain && decide (1 ≤ count.toNat ∧ count.toNat ≤ 32 ∧ rank.toNat ≤ 7)) = true := by
  rw [plain, Bool.true_and, decide_eq_true ⟨least, most, top⟩]

theorem finishSequence_busy (runs : s.seq.slots[k].state.isRunning = true) :
    Refuses h .busy .empty (.finishSequence h slot count rank) s := by
  refine configuring_refused (i := .finishSequence h slot count rank) reaches rfl ?_
  rw [require_true (finishSequence_test reaches plain named least most top), requireSome_some (index?_eq k named),
    guardWith_true runs]

theorem finishSequence_wrongState (other : s.seq.slots[k].state = .empty ∨ s.seq.slots[k].state = .ready) :
    Refuses h .wrongState .empty (.finishSequence h slot count rank) s := by
  refine configuring_refused (i := .finishSequence h slot count rank) reaches rfl ?_
  rw [require_true (finishSequence_test reaches plain named least most top), requireSome_some (index?_eq k named)]
  rcases other with e | e <;> rw [e] <;> rfl

variable (loading : s.seq.slots[k].state = .loading)
include loading

theorem finishSequence_fault {fault i} (fails : s.seq.slots[k].validate count.toNat = some (fault, i)) :
    Refuses h .badValue (.sequenceFault fault i) (.finishSequence h slot count rank) s := by
  refine configuring_refused (i := .finishSequence h slot count rank) reaches rfl ?_
  rw [require_true (finishSequence_test reaches plain named least most top), requireSome_some (index?_eq k named),
    guardWith_false (by rw [loading]; rfl), guardWith_false (by rw [loading]; rfl), fails]

theorem finishSequence_done (holds : s.seq.slots[k].validate count.toNat = none) :
    CarriesOut h false .empty (.finishSequence h slot count rank) s
      (s.setSlot k fun q => q.finished count.toNat rank.toNat) := by
  refine configuring_done (i := .finishSequence h slot count rank) reaches rfl ?_
  rw [require_true (finishSequence_test reaches plain named least most top), requireSome_some (index?_eq k named),
    guardWith_false (by rw [loading]; rfl), guardWith_false (by rw [loading]; rfl), holds]

end

theorem SeqSlot.finished_steps (q : SeqSlot) (count rank : Nat) (j : Fin 32) : (q.finished count rank).steps[j] =
    if j.val < count then q.steps[j] else none := by simp [SeqSlot.finished]

theorem CarriesOut.setTemplate {h : Header} {a p i} {s : State} {n : Fin 24} {x : Option Descriptor}
    (done : CarriesOut h a p i s (s.setSeq { s.seq with templates := s.seq.templates.set n x })) :
    ∃ t, exec i s = .next t ∧ Answers s t h (doneStatus a) p ∧ t.seq.templates[n] = x ∧
      (∀ m : Fin 24, m ≠ n → t.seq.templates[m] = s.seq.templates[m]) ∧
      t.seq = { s.seq with templates := t.seq.templates } ∧ OnlyChanges [.seq, .reply, .sdo] s t := by
  obtain ⟨t, run, answers, stored⟩ := done
  have seq : t.seq = { s.seq with templates := s.seq.templates.set n x } := stored.field .seq
  refine ⟨t, run, answers, ?_, fun m ne => ?_, ?_, OnlyChanges.answered (s.setSeq_only _) stored⟩
  · rw [seq]
    exact (getElem_setFin _ _ _ _).trans (if_pos rfl)
  · rw [seq]
    exact (getElem_setFin _ _ _ _).trans (if_neg ne)
  · rw [seq]

theorem mapM_of_map_eq {α β : Type} {f : α → Option β} {xs : List α} {ys : List β} (h : xs.map f = ys.map some) :
    xs.mapM f = some ys := by
  rw [mapM_eq_some_iff]
  induction xs generalizing ys with
  | nil =>
    obtain rfl := List.map_eq_nil_iff.1 h.symm
    exact .nil
  | cons x xs ih =>
    cases ys with
    | nil => cases h
    | cons y ys =>
      obtain ⟨here, rest⟩ := List.cons.inj h
      exact .cons here (ih rest)

/-- Settles O50, by how steps are read, what each command on a slot leaves, and the tests of R149. -/
theorem templatesAndSequenceSlotsAreLoaded : Obligations.TemplatesAndSequenceSlotsAreLoaded := by
  refine ⟨fun h template n s reaches plain named => ⟨fun d d' altered read => ?_, ?_⟩,
    fun r => ⟨stepReservedOk_iff r, stepOf_eq_none r, fun x altered => stepOf_eq_some⟩,
    fun h number s reaches plain => ⟨fun d bad => ?_, fun beyond => ?_, fun beyond => ?_, fun count rank bad => ?_,
      fun first raws few => ⟨fun bad => ?_, fun k named still bad => ?_⟩⟩,
    fun h slot k s reaches plain named => ⟨fun still => ⟨fun first raws xs read some' few within clear => ?_, ?_⟩,
      fun count rank least most top => ⟨fun loading holds => ?_, fun fault i loading less fails lowest earlier => ?_, fun other => ?_⟩,
      fun r running => ⟨?_, fun count rank least most top => ?_, fun first raws few clear => ?_⟩⟩⟩
  · have done : CarriesOut h altered .empty (.loadTemplate h template d) s
        (s.setSeq { s.seq with templates := s.seq.templates.set n (some d') }) := by
      refine configuring_done (i := .loadTemplate h template d) reaches rfl ?_
      rw [require_true plain, requireSome_some (index?_eq n named), requireSome_some read]
    obtain ⟨t, run, answers, rest⟩ := done.setTemplate
    exact ⟨t, run, answers, descriptorOf_stored read, rest⟩
  · have done : CarriesOut h false .empty (.clearTemplate h template) s
        (s.setSeq { s.seq with templates := s.seq.templates.set n none }) := by
      refine configuring_done (i := .clearTemplate h template) reaches rfl ?_
      rw [require_true plain, requireSome_some (index?_eq n named)]
    exact done.setTemplate
  · refine configuring_refused (i := .loadTemplate h number d) reaches rfl ?_
    rw [require_true plain]
    cases named : index? 24 number.toNat with
    | none => rw [requireSome_none rfl]
    | some n =>
      have small := index?_eq_some.1 named
      rw [requireSome_some rfl, requireSome_none ((descriptorOf_eq_none d).2 (bad.resolve_left (by omega)))]
  · refine configuring_refused (i := .clearTemplate h number) reaches rfl ?_
    rw [require_true plain, requireSome_none (index?_none beyond)]
  · refine configuring_refused (i := .clearSequence h number) reaches rfl ?_
    rw [require_true plain, requireSome_none (index?_none beyond)]
  · refine configuring_refused (i := .finishSequence h number count rank) reaches rfl ?_
    by_cases ok : 1 ≤ count.toNat ∧ count.toNat ≤ 32 ∧ rank.toNat ≤ 7
    · rw [require_true (by rw [plain, decide_eq_true ok]; rfl), requireSome_none (index?_none (by omega))]
    · rw [require_false (by rw [decide_eq_false ok, Bool.and_false])]
  · refine configuring_refused (i := .loadSteps h number first raws) reaches (list_frame (decide_eq_true few) rfl) ?_
    cases clear : raws.all stepReservedOk with
    | false => rw [require_false (by rw [Bool.and_false])]
    | true =>
      have beyond : 5 < number.toNat := bad.resolve_right fun ⟨raw, mem, reserved⟩ => by
        rw [← stepReservedOk_iff, List.all_eq_true.1 clear raw mem] at reserved
        cases reserved
      rw [require_true (by rw [plain, Bool.true_and]), requireSome_none (index?_none beyond)]
  · exact loadSteps_refused reaches plain named few (SlotState.isRunning_false still) (.inr bad)
  · have read' : stepsOf raws = some xs := mapM_of_map_eq read
    obtain ⟨t, run, answers, written, only⟩ := (loadSteps_done reaches plain named (SlotState.isRunning_false still) read'
      (by rintro rfl; simp at some') few within clear).setSlot
    have length : (xs.map (·.1)).length = raws.length := by
      have := congrArg List.length read
      simpa using this.symm
    obtain ⟨state, rank, count, steps⟩ := s.seq.slots[k].beginLoading_rest
    refine ⟨t, run, ?_, ?_, ?_, fun i => ?_, fun i => ?_, ?_, only⟩
    · rw [written]
      exact state
    · rw [written]
      exact rank
    · rw [written]
      exact count
    · rw [written, SeqSlot.write_steps, length, steps, List.getElem?_map]
    · rw [written, SeqSlot.write_written _ _ _ (by rw [length]; exact within), length, SeqSlot.beginLoading_written]
    · rw [written]
      exact answers
  · obtain ⟨t, run, answers, cleared, only⟩ := (clearSequence_done reaches plain named (SlotState.isRunning_false still)).setSlot
    exact ⟨t, run, answers, cleared, only⟩
  · obtain ⟨t, run, answers, finished, only⟩ := (finishSequence_done reaches plain named least most top loading
      (SeqSlot.validate_none holds)).setSlot
    refine ⟨t, run, answers, by rw [finished]; rfl, by rw [finished]; rfl, by rw [finished]; rfl, fun j => ?_, only⟩
    rw [finished, SeqSlot.finished_steps]
  · exact finishSequence_fault reaches plain named least most top loading (SeqSlot.validate_first less fails lowest earlier)
  · exact finishSequence_wrongState reaches plain named least most top other
  · exact clearSequence_busy reaches plain named (by rw [running]; rfl)
  · exact finishSequence_busy reaches plain named least most top (by rw [running]; rfl)
  · exact loadSteps_busy reaches plain named (by rw [running]; rfl) few clear

end Sys2Proof.Machine

/-! PROOFS. The steps of a runner after a wait (chapter 8). -/

namespace Sys2Proof.Machine

open Sys2Proof

/-! ## What a step leaves of the Sequence Engine -/

/-- Runner `r` is `x` now, and nothing else of the Sequence Engine has changed. -/
def OnlyRunner (r : Fin 2) (x : Runner) (s t : State) : Prop :=
  t.seq.runners[r] = x ∧ (∀ q : Fin 2, q ≠ r → t.seq.runners[q] = s.seq.runners[q]) ∧
    t.seq = { s.seq with runners := t.seq.runners }

theorem OnlyRunner.of_seq {r : Fin 2} {s t : State} (same : t.seq = s.seq) : OnlyRunner r s.seq.runners[r] s t :=
  ⟨by rw [same], fun q _ => by rw [same], by rw [same]⟩

section
variable {r : Fin 2} {x : Runner} {s u : State} (only : OnlyRunner r x s u)
include only

theorem OnlyRunner.setRunner (f : Runner → Runner) : OnlyRunner r (f x) s (u.setRunner r f) := by
  obtain ⟨self, other, rest⟩ := only
  refine ⟨?_, fun q ne => ?_, ?_⟩
  · rw [State.setRunner_runner, if_pos rfl, self]
  · rw [State.setRunner_runner, if_neg ne, other q ne]
  · rw [show (u.setRunner r f).seq = { u.seq with runners := (u.setRunner r f).seq.runners } from rfl, rest]

/-- A state that keeps the Sequence Engine keeps what is said of it. -/
theorem OnlyRunner.congr {t : State} (same : t.seq = u.seq) : OnlyRunner r x s t := by
  unfold OnlyRunner
  rw [same]
  exact only

theorem OnlyRunner.waits (i d : Nat) : WaitsAt r x i d s (u.waitAt r i .timedWait (some d)) := only.setRunner _

theorem OnlyRunner.stepOf {k : Fin 6} (slot : x.slot = some k) {i : Nat} {y : Step} (step : HasStep k i y s) :
    u.seq.stepOf r i = some y := by
  obtain ⟨self, -, rest⟩ := only
  exact (step.congr (by rw [rest])).stepOf (by rw [self, slot])

end

theorem Relabels.onlyRunner {r : Fin 2} {p : Handle → Bool} {s t : State} (h : Relabels r p s t) :
    OnlyRunner r { s.seq.runners[r] with labels := labelsWithout s.seq.runners[r].labels p } s t := h

/-! ## The expiry of a wait (R159, R161) -/

/-- A step of an advance: from index `i` in `s`, the advance goes on at index `j` in `u`. -/
def StepsTo (r : Fin 2) (i : Nat) (s : State) (j : Nat) (u : State) : Prop :=
  ∀ n, State.advance (n + 1) r i s = State.advance n r j u

section
variable {s : State} {r : Fin 2} (awake : s.resetLow = false) (runs : s.power.state.timeRuns = true)
include awake runs

theorem exec_waitExpiry : exec (.waitExpiry r) s = .next (s.waitExpiry r) := State.timedEvent_runs awake runs _

theorem exec_waitSignalTimeout : exec (.waitSignalTimeout r) s = .next (s.waitSignalTimeout r) :=
  State.timedEvent_runs awake runs _

end

section
variable {s : State} {r : Fin 2} {k : Fin 6} {i : Nat}

theorem State.waitExpiry_due (waits : s.seq.runners[r].state = .timedWait) (due : s.seq.runners[r].wait = some 0)
    (at' : s.seq.runners[r].index = i) : s.waitExpiry r = State.advance advanceBound r (i + 1) s := by
  have isDue : s.seq.runners[r].waitDue = true := by rw [Runner.waitDue, waits, due]; rfl
  rw [State.waitExpiry, if_pos isDue, at']

/-- An advance that ends with its first step, a WAIT. -/
theorem State.advance_waits {u : State} {x : Runner} (only : OnlyRunner r x s u) (slot : x.slot = some k) {j d : Nat}
    (wait : HasStep k j (.wait d) s) : State.advance advanceBound r j u = u.waitAt r j .timedWait (some d) :=
  State.advance_wait 8223 (only.stepOf slot wait)

/-- An advance of one step and a WAIT. -/
theorem StepsTo.waits {j l d : Nat} {v u : State} {x : Runner} (steps : StepsTo r j v l u) (only : OnlyRunner r x s u)
    (slot : x.slot = some k) (wait : HasStep k l (.wait d) s) :
    State.advance advanceBound r j v = u.waitAt r l .timedWait (some d) :=
  (steps 8223).trans (State.advance_wait 8222 (only.stepOf slot wait))

end

/-- Runner `r` waits at a WAIT of slot `k`, at index `i`, that has run out, and its time base runs. -/
structure WaitOver (r : Fin 2) (k : Fin 6) (i : Nat) (s : State) : Prop where
  awake : s.resetLow = false
  runs : s.power.state.timeRuns = true
  at_ : RunsAt r k i s
  due : s.seq.runners[r].wait = some 0
  waits : s.seq.runners[r].state = .timedWait

section
variable {s : State} {r : Fin 2} {k : Fin 6} {i : Nat} (ended : WaitOver r k i s)
include ended

theorem WaitOver.expiry : exec (.waitExpiry r) s = .next (State.advance advanceBound r (i + 1) s) := by
  rw [exec_waitExpiry ended.awake ended.runs, State.waitExpiry_due ended.waits ended.due ended.at_.2]

theorem WaitOver.stepOf {y : Step} {j : Nat} (step : HasStep k j y s) : s.seq.stepOf r j = some y :=
  step.stepOf ended.at_.1

/-- What a step after the WAIT leaves, where a WAIT follows it. -/
theorem WaitOver.goesOn {x : Runner} {j d : Nat} {u : State} {l : List Field} (steps : StepsTo r (i + 1) s j u)
    (only : OnlyRunner r x s u) (wait : HasStep k j (.wait d) s) (changes : OnlyChanges l s u)
    (slot : x.slot = some k := by exact ended.at_.1) (mem : .seq ∈ l := by decide) :
    exec (.waitExpiry r) s = .next (u.waitAt r j .timedWait (some d)) ∧
      WaitsAt r x j d s (u.waitAt r j .timedWait (some d)) ∧ OnlyChanges l s (u.waitAt r j .timedWait (some d)) := by
  refine ⟨?_, only.waits j d, changes.then (State.waitAt_only _ _ _ _ _) fun f h => ?_⟩
  · rw [ended.expiry, steps.waits only slot wait]
  · rw [List.mem_singleton.1 h]
    exact mem

/-- A step that changes nothing. -/
theorem WaitOver.skips {d : Nat} (steps : StepsTo r (i + 1) s (i + 2) s) (wait : HasStep k (i + 2) (.wait d) s) :
    ∃ t, exec (.waitExpiry r) s = .next t ∧ WaitsAt r s.seq.runners[r] (i + 2) d s t ∧ OnlyChanges [.seq] s t :=
  ⟨_, ended.goesOn steps (.of_seq rfl) wait (.refl _ s)⟩

theorem WaitOver.retire {m : Fin 8} {mode : FadeMode} (step : HasStep k (i + 1) (.retire m mode) s) :
    StepsTo r (i + 1) s (i + 2) (s.retireStep r m mode) := fun n => by
  rw [State.advance, ended.stepOf step]

theorem WaitOver.modify {m : Fin 8} {v : Nat} (step : HasStep k (i + 1) (.modify m v) s) :
    StepsTo r (i + 1) s (i + 2) (s.modifyStep r m v) := fun n => by
  rw [State.advance, ended.stepOf step]

theorem WaitOver.post {m : Fin 8} {a : Fin 24} (step : HasStep k (i + 1) (.post a m) s) :
    StepsTo r (i + 1) s (i + 2) (s.postStep r a m) := fun n => by
  rw [State.advance, ended.stepOf step]

theorem WaitOver.repeats {target count : Nat} (step : HasStep k (i + 1) (.repeatFrom target count) s) :
    StepsTo r (i + 1) s (s.repeatStep r (i + 1) target count).2 (s.repeatStep r (i + 1) target count).1 := fun n => by
  rw [State.advance, ended.stepOf step]

end

/-! ## RETIRE and MODIFY (R157, R158) -/

section
variable {s : State} {r : Fin 2} {m : Fin 8}

theorem State.labelled_none (empty : s.seq.runners[r].labels[m] = none) : s.labelled r m = none := by
  rw [State.labelled, empty]

theorem State.labelled_some {n : Fin 48} {c : Cue} {g}
    (label : s.seq.runners[r].labels[m] = some { slot := n, gen := g }) (live : s.cues.slots[n].cue = some c) :
    s.labelled r m = some (n, c) := by
  rw [State.labelled, label]
  dsimp only
  rw [State.cueAt, live]
  rfl

theorem State.retireStep_eq {n : Fin 48} {c : Cue} (names : s.labelled r m = some (n, c)) (mode) :
    s.retireStep r m mode = s.retire none mode n := by rw [State.retireStep, names]

theorem State.modifyStep_eq {n : Fin 48} {c : Cue} (names : s.labelled r m = some (n, c)) (v) :
    s.modifyStep r m v = if c.phase.isFadingOut then s
      else s.replaceCue none n { c with desc := { c.desc with intensity := v } } := by rw [State.modifyStep, names]

end

theorem State.replaceCue_slot (g) (s : State) (k j : Fin 48) (c) : (s.replaceCue g k c).cues.slots[j] =
    if j = k then { gen := s.cues.slots[k].gen, cue := some c } else s.cues.slots[j] := by
  rw [State.replaceCue, State.zoneEvents_cues, State.putCue_slot]

theorem State.replaceCue_raises (g) (s : State) (k) (c : Cue) : RaisesEvents c.desc.zones g s (s.replaceCue g k c) :=
  State.zoneEvents_raises g (s.putCue k c) c.desc.zones

theorem State.replaceCue_retiring (g) (s : State) (k) (c : Cue) : (s.replaceCue g k c).cues.retiring = s.cues.retiring := by
  rw [State.replaceCue, State.zoneEvents_cues]
  rfl

/-- A fade-out of one cue is a purge of it alone, with its own fade-out time. -/
theorem State.beginFade_purge {s : State} {k : Fin 48} {c : Cue} (live : s.cues.slots[k].cue = some c)
    (on : c.phase.isFadingOut = false) (g) :
    s.beginFade g Cue.ownFade k = [k].foldl (State.beginFade g fun _ => c.desc.fadeOut) s := by
  rw [List.foldl_cons, List.foldl_nil, State.beginFade_started live on, State.beginFade_started live on]
  rfl

/-- The labels of a cue that has left them, in the two ways of the statement (R157). -/
theorem labelsWithout_some (labels : Vector (Option Handle) 8) (h : Handle) :
    labelsWithout labels (fun l => l == h) = labels.map fun l => if l = some h then none else l := by
  refine Vector.ext fun i hi => ?_
  simp only [labelsWithout, Vector.getElem_map]
  cases labels[i] with
  | none => rfl
  | some l => by_cases e : l = h <;> simp [Option.filter, e]

section
variable {s : State} {r : Fin 2} {k : Fin 6} {i d : Nat} (ended : WaitOver r k i s) (wait : HasStep k (i + 2) (.wait d) s)
  {m : Fin 8} {n : Fin 48} {c : Cue}
  (label : s.seq.runners[r].labels[m] = some { slot := n, gen := s.cues.slots[n].gen })
  (live : s.cues.slots[n].cue = some c)
include ended wait

/-- An empty label is skipped (R158). -/
theorem WaitOver.skips_empty (empty : s.seq.runners[r].labels[m] = none)
    (step : (∃ mode, HasStep k (i + 1) (.retire m mode) s) ∨ ∃ v, HasStep k (i + 1) (.modify m v) s) :
    ∃ t, exec (.waitExpiry r) s = .next t ∧ WaitsAt r s.seq.runners[r] (i + 2) d s t ∧ OnlyChanges [.seq] s t := by
  have names := State.labelled_none empty
  rcases step with ⟨mode, step⟩ | ⟨v, step⟩
  · refine ended.skips ?_ wait
    have steps := ended.retire step
    rwa [State.retireStep, names] at steps
  · refine ended.skips ?_ wait
    have steps := ended.modify step
    rwa [State.modifyStep, names] at steps

include label live

/-- A cue that fades is left as it is (R10, R158). -/
theorem WaitOver.skips_fading (fades : c.phase.isFadingOut = true)
    (step : HasStep k (i + 1) (.retire m .fade) s ∨ ∃ v, HasStep k (i + 1) (.modify m v) s) :
    ∃ t, exec (.waitExpiry r) s = .next t ∧ WaitsAt r s.seq.runners[r] (i + 2) d s t ∧ OnlyChanges [.seq] s t := by
  have names := State.labelled_some label live
  rcases step with step | ⟨v, step⟩
  · refine ended.skips ?_ wait
    have steps := ended.retire step
    rwa [State.retireStep_eq names, State.retire, State.beginFade_fading live fades] at steps
  · refine ended.skips ?_ wait
    have steps := ended.modify step
    rwa [State.modifyStep_eq names, if_pos fades] at steps

/-- A RETIRE FADE of a cue with a fade-out time (R10, R158). -/
theorem WaitOver.fades (step : HasStep k (i + 1) (.retire m .fade) s) (on : c.phase.isFadingOut = false)
    (long : c.desc.fadeOut ≠ 0) :
    ∃ t, exec (.waitExpiry r) s = .next t ∧ t.cues.slots[n] = s.cues.slots[n].fading c.desc.fadeOut ∧
      OnlySlot n s t ∧ t.cues.retiring = s.cues.retiring ++ [n] ∧ RaisesEvents c.desc.zones none s t ∧
      WaitsAt r s.seq.runners[r] (i + 2) d s t ∧ OnlyChanges [.cues, .zones, .watches, .seq] s t := by
  have steps := ended.retire step
  rw [State.retireStep_eq (State.labelled_some label live), State.retire, State.beginFade_started live on,
    if_neg (show ¬ c.ownFade = 0 from long)] at steps
  obtain ⟨run, waits, only⟩ := ended.goesOn (l := [.cues, .zones, .watches, .seq]) steps
    (.of_seq ((State.fadeStarted_only s n c none _).field .seq)) wait (State.fadeStarted_only s n c none _).mono
  refine ⟨_, run, ?_, fun j other => ?_, ?_, State.fadeStarted_raises s n c none _, waits, only⟩
  · change (s.fadeStarted none n c c.ownFade).cues.slots[n] = _
    rw [State.fadeStarted_self, CueSlot.fading, live]
    rfl
  · change (s.fadeStarted none n c c.ownFade).cues.slots[j] = _
    rw [State.fadeStarted_cues]
    exact getElem_modifyAt_ne _ _ other
  · change (s.fadeStarted none n c c.ownFade).cues.retiring = _
    rw [State.fadeStarted_cues]
    rfl

/-- A RETIRE FADE of a cue with a fade-out time of 0 frees it (R10, R158). -/
theorem WaitOver.fades_zero (inv : CueInv s) (tag : c.tag = some { runner := r, label := m })
    (step : HasStep k (i + 1) (.retire m .fade) s) (on : c.phase.isFadingOut = false) (zero : c.desc.fadeOut = 0) :
    ∃ t, exec (.waitExpiry r) s = .next t ∧
      t.cues.slots[n] = { gen := s.cues.slots[n].gen, cue := none } ∧ OnlySlot n s t ∧
      t.cues.postOrder = (s.cues.postOrder.filter fun j => j != n) ∧ t.cues.retiring = s.cues.retiring ∧
      WaitsAt r { s.seq.runners[r] with
        labels := labelsWithout s.seq.runners[r].labels fun l => some l == s.seq.runners[r].labels[m] } (i + 2) d s t ∧
      OnlyChanges [.cues, .zones, .watches, .seq] s t := by
  have steps := ended.retire step
  rw [State.retireStep_eq (State.labelled_some label live), State.retire] at steps
  have own : s.ownedBy r [n] := fun j mem e held y is => by
    rw [List.mem_singleton.1 mem, live] at held
    cases held
    rw [tag] at is
    cases is
    rfl
  have named : (fun l => some l == s.seq.runners[r].labels[m]) =
      fun h => s.cues.slots[n].labelEnds r Cue.ownFade && h == s.handleAt n := by
    have ends : s.cues.slots[n].labelEnds r Cue.ownFade = true := by
      simp [CueSlot.labelEnds, Cue.ranBy, Cue.ownFade, -Fin.getElem_fin, live, tag, on, zero]
    funext l
    rw [ends, Bool.true_and, label]
    rfl
  obtain ⟨post, retiring, -⟩ := State.purge_zero (s := s) (ks := [n]) ⟨List.nodup_singleton _, fun j mem => by
      rw [List.mem_singleton.1 mem]
      exact ⟨c, live, on⟩⟩ none fun j mem => by
    rw [List.mem_singleton.1 mem, inv.2.2.2 n, live, Option.any_some, on]
    exact Bool.false_ne_true
  rw [← zero, ← State.beginFade_purge live on] at post retiring
  rw [named]
  obtain ⟨run, waits, only⟩ := ended.goesOn steps (State.beginFade_relabels own none Cue.ownFade).onlyRunner wait
    (State.beginFade_only _ _ _ _)
  refine ⟨_, run, ?_, fun j other => ?_, ?_, retiring, waits, only⟩
  · change (s.beginFade none Cue.ownFade n).cues.slots[n] = _
    rw [State.beginFade_slots, if_pos rfl]
    simp [CueSlot.faded, -Fin.getElem_fin, live, on, zero, Cue.ownFade]
  · change (s.beginFade none Cue.ownFade n).cues.slots[j] = _
    rw [State.beginFade_slots, if_neg other]
  · refine post.trans (List.filter_congr fun j _ => ?_)
    by_cases e : j = n <;> simp [e]

/-- A RETIRE NOW frees the cue (R158). -/
theorem WaitOver.frees (tag : c.tag = some { runner := r, label := m }) (step : HasStep k (i + 1) (.retire m .now) s) :
    ∃ t, exec (.waitExpiry r) s = .next t ∧
      t.cues.slots[n] = { gen := s.cues.slots[n].gen, cue := none } ∧ OnlySlot n s t ∧
      RaisesEvents c.desc.zones none s t ∧
      WaitsAt r { s.seq.runners[r] with
        labels := s.seq.runners[r].labels.map fun l => if l = s.seq.runners[r].labels[m] then none else l } (i + 2) d s t ∧
      OnlyChanges [.cues, .zones, .watches, .seq] s t := by
  have steps := ended.retire step
  rw [State.retireStep_eq (State.labelled_some label live), State.retire] at steps
  have relabels := State.freeSlot_relabels live (r := r) (fun y is => by rw [tag] at is; cases is; rfl) none
  have named : (fun h => c.ranBy r && h == s.handleAt n) = fun h => h == { slot := n, gen := s.cues.slots[n].gen } := by
    have own : c.ranBy r = true := by simp [Cue.ranBy, tag]
    funext h
    rw [own, Bool.true_and]
    rfl
  rw [named] at relabels
  rw [label, ← labelsWithout_some]
  obtain ⟨run, waits, only⟩ := ended.goesOn steps relabels.onlyRunner wait (State.freeSlot_only _ _ _)
  refine ⟨_, run, ?_, fun j other => ?_, (State.freeSlot_some live).2.1, waits, only⟩
  · change (s.freeSlot none n).cues.slots[n] = _
    rw [State.freeSlot_slots, if_pos rfl]
  · change (s.freeSlot none n).cues.slots[j] = _
    rw [State.freeSlot_slots, if_neg other]

/-- A MODIFY writes the intensity of a cue that does not fade (R158). -/
theorem WaitOver.modifies {v : Nat} (step : HasStep k (i + 1) (.modify m v) s) (on : c.phase.isFadingOut = false) :
    ∃ t, exec (.waitExpiry r) s = .next t ∧
      t.cues.slots[n] = { gen := s.cues.slots[n].gen
                          cue := some { c with desc := { c.desc with intensity := v } } } ∧
      OnlySlot n s t ∧ t.cues.retiring = s.cues.retiring ∧ RaisesEvents c.desc.zones none s t ∧
      WaitsAt r s.seq.runners[r] (i + 2) d s t ∧ OnlyChanges [.cues, .zones, .watches, .seq] s t := by
  have steps := ended.modify step
  rw [State.modifyStep_eq (State.labelled_some label live), if_neg (by rw [on]; exact Bool.false_ne_true)] at steps
  obtain ⟨run, waits, only⟩ := ended.goesOn (l := [.cues, .zones, .watches, .seq]) steps
    (.of_seq ((s.replaceCue_only _ _ _).field .seq)) wait (s.replaceCue_only _ _ _).mono
  refine ⟨_, run, ?_, fun j other => ?_, State.replaceCue_retiring _ _ _ _, State.replaceCue_raises _ _ _ _, waits, only⟩
  · exact (State.replaceCue_slot _ _ _ _ _).trans (if_pos rfl)
  · exact (State.replaceCue_slot _ _ _ _ _).trans (if_neg other)

end

end Sys2Proof.Machine

/-! PROOFS. The POST step of a runner (chapter 8). -/

namespace Sys2Proof.Machine

open Sys2Proof

theorem RaisesEvents.congr {zones g} {s u t : State} (raised : RaisesEvents zones g s u) (same : t.zones = u.zones)
    (same' : t.watches = u.watches) : RaisesEvents zones g s t := by
  unfold RaisesEvents
  rw [same, same']
  exact raised

/-! ## What a posting leaves of the labels (R156, R157) -/

theorem mem_runPurged {s : State} (inv : CueInv s) {r : Fin 2} {m : Fin 8} {b : Descriptor} {k : Fin 48} :
    k ∈ s.purged 7 (some { runner := r, label := m }) b ↔ isRunPurged s r b k = true := by
  rw [← isRunPurged_eq]
  exact mem_purged inv

/-- A cue that a runner's POST purges is of the runner. -/
theorem State.runPurged_owned {s : State} (inv : CueInv s) {r : Fin 2} {m : Fin 8} {b : Descriptor} :
    s.ownedBy r (s.purged 7 (some { runner := r, label := m }) b) := by
  intro k mem c live y tag
  have own := (Bool.and_eq_true_iff.1 ((mem_runPurged inv).1 mem)).2
  rw [live] at own
  simpa [Cue.ranBy, tag] using own

/-- A purge with a fade-in time of 0 takes a purged cue out of its runner's labels at once. -/
theorem labelEnds_of_isRunPurged {s : State} {r : Fin 2} {b : Descriptor} {k : Fin 48} (purged : isRunPurged s r b k = true) :
    s.cues.slots[k].labelEnds r (fun _ => 0) = true := by
  obtain ⟨mine, own⟩ := Bool.and_eq_true_iff.1 purged
  obtain ⟨-, mine⟩ := Bool.and_eq_true_iff.1 mine
  obtain ⟨c, live, own⟩ := (Option.any_eq_true _ _).1 own
  rw [live, Option.any_some] at mine
  have on := (Bool.and_eq_true_iff.1 mine).2
  rw [CueSlot.labelEnds, live, Option.any_some, own, on]
  rfl

/-- What a purge with a fade-in time of 0 takes out of the labels. -/
theorem State.purge_relabels {s : State} (inv : CueInv s) {r : Fin 2} {m : Fin 8} {b : Descriptor} (zero : b.fadeIn = 0) :
    Relabels r (fun l => isRunPurged s r b l.slot && l.gen == s.cues.slots[l.slot].gen) s
      (s.afterPurge none 7 (some { runner := r, label := m }) b) := by
  have relabels := State.foldl_beginFade_relabels none (fun _ => b.fadeIn)
    (s.purged 7 (some { runner := r, label := m }) b) (State.runPurged_owned inv)
  refine (congrArg (fun p => Relabels r p s _) (funext fun l => ?_)).mp relabels
  simp only [mem_runPurged inv, zero, Bool.decide_eq_true]
  cases purged : isRunPurged s r b l.slot with
  | false => rw [Bool.false_and, Bool.and_false]
  | true => rw [labelEnds_of_isRunPurged purged, Bool.true_and]

/-- A purge that frees no cue leaves the Sequence Engine as it is. -/
theorem State.purge_seq {s : State} (inv : CueInv s) {o tag} {b : Descriptor}
    (keeps : b.fadeIn ≠ 0 ∨ s.purged o tag b = []) :
    OnlyChanges [.cues, .zones, .watches] s (s.afterPurge none o tag b) ∧
      (s.afterPurge none o tag b).cues.postOrder = s.cues.postOrder ∧
      (s.afterPurge none o tag b).cues.retiring = s.cues.retiring ++ s.purged o tag b := by
  rcases keeps with long | none'
  · obtain ⟨post, retiring, -, only⟩ := State.purge_long (State.purged_mayFade inv o tag b) none long
    exact ⟨only, post, retiring⟩
  · rw [State.afterPurge, none', List.append_nil]
    exact ⟨.refl _ s, rfl, rfl⟩

/-- A posting of runner `r`, after its purge, that evicts a cue of its own or of none. -/
theorem State.evict_relabels {s : State} {n : Fin 48} {c : Cue} (live : s.cues.slots[n].cue = some c) {r : Fin 2}
    (own : ∀ y, c.tag = some y → y.runner = r) :
    Relabels r (fun h => c.ranBy r && h == s.handleAt n) s (s.evict none n) := by
  rw [State.evict_some live]
  exact State.freeSlot_relabels live own none

/-! ## The step (R156) -/

section
variable {s : State} {r : Fin 2} {m : Fin 8} {a : Fin 24}

theorem State.postStep_empty (empty : s.seq.templates[a] = none) :
    s.postStep r a m = s.setRunner r fun x => { x with labels := x.labels.set m none } := by
  rw [State.postStep, empty]

theorem State.postStep_noRoom {b : Descriptor} (template : s.seq.templates[a] = some b)
    (refused : s.post none 7 (some { runner := r, label := m }) b = none) :
    s.postStep r a m = s.setRunner r fun x => { x with labels := x.labels.set m none } := by
  rw [State.postStep, template]
  dsimp only
  rw [refused]

theorem State.postStep_posts {b : Descriptor} (template : s.seq.templates[a] = some b) {n : Fin 48} {t : State}
    (posted : s.post none 7 (some { runner := r, label := m }) b = some (n, t)) :
    s.postStep r a m = t.setRunner r fun x => { x with
      labels := x.labels.set m (some { slot := n, gen := s.cues.slots[n].gen + 1 }), posted := x.posted ||| b.zones } := by
  obtain ⟨-, -, handle, -⟩ := State.post_written posted
  rw [State.postStep, template]
  dsimp only
  rw [posted]
  dsimp only
  rw [handle]

end

section
variable {s : State} {r : Fin 2} {k : Fin 6} {i d : Nat} (ended : WaitOver r k i s) (wait : HasStep k (i + 2) (.wait d) s)
  {m : Fin 8} {a : Fin 24} (step : HasStep k (i + 1) (.post a m) s)
include ended wait step

/-- A POST that posts nothing empties its label (R156). -/
theorem WaitOver.empties (same : s.postStep r a m = s.setRunner r fun x => { x with labels := x.labels.set m none }) :
    ∃ t, exec (.waitExpiry r) s = .next t ∧
      WaitsAt r { s.seq.runners[r] with labels := s.seq.runners[r].labels.set m none } (i + 2) d s t ∧
      OnlyChanges [.seq] s t := by
  have steps := ended.post step
  rw [same] at steps
  exact ⟨_, ended.goesOn steps ((OnlyRunner.of_seq rfl).setRunner _) wait (s.setRunner_only _ _)⟩

/-- A POST that posts, once room has been made (R156). -/
theorem WaitOver.posts {b : Descriptor} (template : s.seq.templates[a] = some b) {n : Fin 48} {u : State}
    (posted : s.post none 7 (some { runner := r, label := m }) b =
      some (n, u.writeCue none n 7 (some { runner := r, label := m }) b))
    {labels : Vector (Option Handle) 8} (only : OnlyRunner r { s.seq.runners[r] with labels := labels } s u) :
    ∃ t, exec (.waitExpiry r) s = .next t ∧
      WaitsAt r { s.seq.runners[r] with
        labels := labels.set m (some { slot := n, gen := s.cues.slots[n].gen + 1 })
        posted := s.seq.runners[r].posted ||| b.zones } (i + 2) d s t ∧
      OnlyChanges [.seq] (u.writeCue none n 7 (some { runner := r, label := m }) b) t := by
  have steps := ended.post step
  rw [State.postStep_posts template posted] at steps
  have runner := (only.congr (State.writeCue_seq none u n 7 (some { runner := r, label := m }) b)).setRunner fun x =>
    { x with labels := x.labels.set m (some { slot := n, gen := s.cues.slots[n].gen + 1 }), posted := x.posted ||| b.zones }
  refine ⟨_, ?_, runner.waits (i + 2) d, (State.setRunner_only _ _ _).trans (State.waitAt_only _ _ _ _ _)⟩
  rw [ended.expiry, steps.waits runner ended.at_.1 wait]

/-- The same, with the cue that is written and what the posting leaves of the table. -/
theorem WaitOver.posts_into {b : Descriptor} (template : s.seq.templates[a] = some b) {n : Fin 48} {u : State}
    (posted : s.post none 7 (some { runner := r, label := m }) b =
      some (n, u.writeCue none n 7 (some { runner := r, label := m }) b))
    {labels : Vector (Option Handle) 8} (only : OnlyRunner r { s.seq.runners[r] with labels := labels } s u)
    (room : OnlyChanges roomFields s u) (gen : u.cues.slots[n].gen = s.cues.slots[n].gen) :
    ∃ t, exec (.waitExpiry r) s = .next t ∧
      (t.cues.slots[n] = { gen := s.cues.slots[n].gen + 1
                           cue := some (writtenCue s 7 (some { runner := r, label := m }) b) } ∧
        t.power = s.power.reloadDark ∧
        WaitsAt r { s.seq.runners[r] with
          labels := labels.set m (some { slot := n, gen := s.cues.slots[n].gen + 1 })
          posted := s.seq.runners[r].posted ||| b.zones } (i + 2) d s t) ∧
      (∀ j : Fin 48, j ≠ n → t.cues.slots[j] = u.cues.slots[j]) ∧ t.cues.postOrder = u.cues.postOrder ++ [n] ∧
      t.cues.retiring = u.cues.retiring ∧ RaisesEvents b.zones none u t ∧ t.notices = u.notices ∧
      OnlyChanges [.cues, .zones, .watches, .power, .seq] u t := by
  obtain ⟨t, run, waits, stored⟩ := ended.posts wait step template posted only
  have cues : t.cues = _ := stored.field .cues
  obtain ⟨written, -, power⟩ := State.writeCue_after room gen none 7 (some { runner := r, label := m }) b
  obtain ⟨others, post, retiring⟩ := State.writeCue_others none u n 7 (some { runner := r, label := m }) b
  have only := State.writeCue_only none u n 7 (some { runner := r, label := m }) b
  exact ⟨t, run, ⟨by rw [cues, written], (stored.field .power).trans power, waits⟩,
    fun j other => by rw [cues, others j other], by rw [cues, post], by rw [cues, retiring],
    (u.writeCue_raises none n 7 _ b).congr (stored.field .zones) (stored.field .watches), (stored.field .notices).trans (only.field .notices), only.mono.trans stored.mono⟩

variable {b : Descriptor} (template : s.seq.templates[a] = some b) {n : Fin 48} (hi : 8 ≤ n.val)
include template hi

/-- A POST that purges nothing, while a transient slot is free (R1, R156). -/
theorem WaitOver.posts_plain (free : s.cues.slots[n].cue = none)
    (below : ∀ j : Fin 48, 8 ≤ j.val → j < n → s.cues.slots[j].cue ≠ none)
    (keeps : ∀ (j : Fin 48) (c : Cue), s.cues.slots[j].cue = some c → c.ranBy r = true → isPurged s 7 b j = false) :
    ∃ t, exec (.waitExpiry r) s = .next t ∧
      t.cues.slots[n] = { gen := s.cues.slots[n].gen + 1
                          cue := some (writtenCue s 7 (some { runner := r, label := m }) b) } ∧
      OnlySlot n s t ∧ t.cues.postOrder = s.cues.postOrder ++ [n] ∧ RaisesEvents b.zones none s t ∧
      t.power = s.power.reloadDark ∧
      WaitsAt r { s.seq.runners[r] with
        labels := s.seq.runners[r].labels.set m (some { slot := n, gen := s.cues.slots[n].gen + 1 })
        posted := s.seq.runners[r].posted ||| b.zones } (i + 2) d s t ∧
      OnlyChanges [.cues, .zones, .watches, .seq, .power] s t := by
  have purges : s.purged 7 (some { runner := r, label := m }) b = [] := by
    rw [State.runPurged_eq]
    refine List.filter_eq_nil_iff.2 fun j _ => ?_
    rw [isRunPurged, Bool.and_eq_true]
    rintro ⟨mine, own⟩
    obtain ⟨c, live, own⟩ := (Option.any_eq_true _ _).1 own
    rw [keeps j c live own] at mine
    cases mine
  obtain ⟨t, run, ⟨written, power, waits⟩, others, post, -, raised, -, only⟩ := ended.posts_into wait step template
    (State.post_plain none hi free below purges) (.of_seq rfl) (.refl _ s) rfl
  exact ⟨t, run, written, others, post, raised, power, waits, only.mono⟩

variable (inv : CueInv s)
include inv

/-- A POST that purges cues of its runner over a fade-in time, while a transient slot is free (R15, R156). -/
theorem WaitOver.posts_fading (long : b.fadeIn ≠ 0) (free : s.cues.slots[n].cue = none)
    (below : ∀ j : Fin 48, 8 ≤ j.val → j < n → s.cues.slots[j].cue ≠ none) :
    ∃ t, exec (.waitExpiry r) s = .next t ∧
      (t.cues.slots[n] = { gen := s.cues.slots[n].gen + 1
                           cue := some (writtenCue s 7 (some { runner := r, label := m }) b) } ∧
        t.power = s.power.reloadDark ∧
        WaitsAt r { s.seq.runners[r] with
          labels := s.seq.runners[r].labels.set m (some { slot := n, gen := s.cues.slots[n].gen + 1 })
          posted := s.seq.runners[r].posted ||| b.zones } (i + 2) d s t) ∧
      (∀ j : Fin 48, j ≠ n → t.cues.slots[j] =
        if isRunPurged s r b j then s.cues.slots[j].fading b.fadeIn else s.cues.slots[j]) ∧
      t.cues.postOrder = s.cues.postOrder ++ [n] ∧ t.cues.retiring = s.cues.retiring ++ runPurged s r b ∧
      OnlyChanges [.cues, .zones, .watches, .seq, .power] s t := by
  obtain ⟨purged, post, retiring⟩ := State.purge_seq inv (o := 7) (tag := some { runner := r, label := m }) (.inl long)
  obtain ⟨t, run, posts, others, post', retiring', -, -, only⟩ := ended.posts_into wait step template
    (State.post_fades none inv long hi free below) (.of_seq (purged.field .seq)) purged.mono (State.afterPurge_gen none inv n)
  refine ⟨t, run, posts, fun j other => ?_, by rw [post', post], ?_, purged.mono.trans only.mono⟩
  · rw [others j other, State.afterPurge_slot none inv, if_neg long]
    simp only [mem_runPurged inv]
  · rw [retiring', retiring, State.runPurged_eq]

/-- A POST that purges cues of its runner at once (R15, R156). -/
theorem WaitOver.posts_freeing (zero : b.fadeIn = 0) (free : s.cues.slots[n].cue = none ∨ isRunPurged s r b n = true)
    (below : ∀ j : Fin 48, 8 ≤ j.val → j < n → s.cues.slots[j].cue ≠ none ∧ isRunPurged s r b j = false) :
    ∃ t, exec (.waitExpiry r) s = .next t ∧
      (t.cues.slots[n] = { gen := s.cues.slots[n].gen + 1
                           cue := some (writtenCue s 7 (some { runner := r, label := m }) b) } ∧
        t.power = s.power.reloadDark ∧
        WaitsAt r { s.seq.runners[r] with
          labels := (labelsWithout s.seq.runners[r].labels fun l =>
            isRunPurged s r b l.slot && l.gen == s.cues.slots[l.slot].gen).set m
              (some { slot := n, gen := s.cues.slots[n].gen + 1 })
          posted := s.seq.runners[r].posted ||| b.zones } (i + 2) d s t) ∧
      (∀ j : Fin 48, j ≠ n → t.cues.slots[j] =
        if isRunPurged s r b j then { gen := s.cues.slots[j].gen, cue := none } else s.cues.slots[j]) ∧
      t.cues.postOrder = (s.cues.postOrder.filter fun j => !isRunPurged s r b j) ++ [n] ∧
      t.cues.retiring = s.cues.retiring ∧ OnlyChanges [.cues, .zones, .watches, .seq, .power] s t := by
  have posted := State.post_frees none inv zero hi (free.imp_right (mem_runPurged inv (m := m)).2) fun j hj lt =>
    (below j hj lt).imp_right fun off mem => by
      rw [(mem_runPurged inv).1 mem] at off
      cases off
  obtain ⟨post, retiring, -⟩ := State.purge_zero (State.purged_mayFade inv 7 (some { runner := r, label := m }) b) none
    fun k mem => State.purged_not_retiring inv mem
  rw [← zero] at post retiring
  have purged := State.afterPurge_only none s 7 (some { runner := r, label := m }) b
  obtain ⟨t, run, posts, others, post', retiring', -, -, only⟩ := ended.posts_into wait step template posted
    (State.purge_relabels inv zero).onlyRunner purged.mono (State.afterPurge_gen none inv n)
  refine ⟨t, run, posts, fun j other => ?_, ?_, retiring'.trans retiring, purged.mono.trans only.mono⟩
  · rw [others j other, State.afterPurge_slot none inv, if_pos zero]
    simp only [mem_runPurged inv]
  · rw [post']
    refine congrArg (· ++ [n]) (post.trans (List.filter_congr fun j _ => ?_))
    simp only [mem_runPurged inv]
    cases isRunPurged s r b j <;> rfl

/-- A POST into a full table, which evicts a cue (R16, R17, R156). -/
theorem WaitOver.posts_evicting (full : ∀ j : Fin 48, 8 ≤ j.val → s.cues.slots[j].cue ≠ none)
    (short : s.notices.list.length ≤ 8) {c : Cue} (live : s.cues.slots[n].cue = some c)
    (evicts : Evicts s (runPurged s r b) b n c) (own : ∀ y, c.tag = some y → y.runner = r) :
    ∃ t, exec (.waitExpiry r) s = .next t ∧
      (t.cues.slots[n] = { gen := s.cues.slots[n].gen + 1
                           cue := some (writtenCue s 7 (some { runner := r, label := m }) b) } ∧
        t.power = s.power.reloadDark ∧
        WaitsAt r { s.seq.runners[r] with
          labels := (labelsWithout s.seq.runners[r].labels fun l =>
            c.ranBy r && l == { slot := n, gen := s.cues.slots[n].gen }).set m
              (some { slot := n, gen := s.cues.slots[n].gen + 1 })
          posted := s.seq.runners[r].posted ||| b.zones } (i + 2) d s t) ∧
      (∀ j : Fin 48, j ≠ n → t.cues.slots[j] =
        if isRunPurged s r b j then s.cues.slots[j].fading b.fadeIn else s.cues.slots[j]) ∧
      t.cues.postOrder = (s.cues.postOrder.filter fun j => j != n) ++ [n] ∧
      t.cues.retiring = (s.cues.retiring ++ runPurged s r b).filter (fun j => j != n) ∧
      t.notices = s.notices.after .cueEvicted (.client c.owner) (.number n.val) ∧
      OnlyChanges [.cues, .zones, .watches, .seq, .power, .notices, .noticeLow] s t := by
  rw [← State.runPurged_eq s r m] at evicts ⊢
  have keeps : b.fadeIn ≠ 0 ∨ s.purged 7 (some { runner := r, label := m }) b = [] :=
    evicts.elim And.left fun alone => .inr alone.1
  obtain ⟨purged, post, retiring⟩ := State.purge_seq inv keeps
  obtain ⟨c', live', owner, tag⟩ := State.afterPurge_live none inv keeps live
  have slots := State.afterPurge_slot (s := s) (o := 7) (tag := some { runner := r, label := m }) (d := b) none inv
  have gens := State.afterPurge_gen (s := s) (o := 7) (tag := some { runner := r, label := m }) (d := b) none inv
  have posted := State.post_evicts none inv hi full live evicts
  generalize s.afterPurge none 7 (some { runner := r, label := m }) b = u at *
  have notices : u.notices = s.notices := purged.field .notices
  obtain ⟨evOthers, evPost, evRetiring, evNotices⟩ := State.evict_after (g := none) live' (notices ▸ short)
  have relabels := (Relabels.of_seq (r := r) (purged.field .seq)).trans (State.evict_relabels live' (by rw [tag]; exact own))
  have named : (fun h : Handle => false || (c'.ranBy r && h == u.handleAt n)) =
      fun h => c.ranBy r && h == { slot := n, gen := s.cues.slots[n].gen } := by
    funext h
    rw [Cue.ranBy, tag, State.handleAt, gens, Bool.false_or]
    rfl
  rw [named] at relabels
  obtain ⟨t, run, posts, others, post', retiring', -, notices', only⟩ := ended.posts_into wait step template posted
    relabels.onlyRunner (((OnlyChanges.refl roomFields s).trans purged.mono).then (State.evict_only _ _ _))
    ((State.evict_gen _ _ _ _).trans (gens n))
  refine ⟨t, run, posts, fun j other => ?_, ?_, ?_, ?_, purged.mono.trans ((State.evict_only _ _ _).mono.trans only.mono)⟩
  · rw [others j other, evOthers j other, slots]
    simp only [← mem_runPurged inv (m := m)]
    by_cases mem : j ∈ s.purged 7 (some { runner := r, label := m }) b
    · rw [if_pos mem, if_pos mem, if_neg (keeps.resolve_right (List.ne_nil_of_mem mem))]
    · rw [if_neg mem, if_neg mem]
  · rw [post', evPost, post]
  · rw [retiring', evRetiring, retiring]
  · rw [notices', evNotices, notices, owner]

end

section
variable {s : State} {r : Fin 2} {k : Fin 6} {i d : Nat} (ended : WaitOver r k i s) (wait : HasStep k (i + 2) (.wait d) s)
  {m : Fin 8} {a : Fin 24} (step : HasStep k (i + 1) (.post a m) s)
include ended wait step

/-- A POST that finds no room (R17, R156). -/
theorem WaitOver.posts_nowhere {b : Descriptor} (template : s.seq.templates[a] = some b) (inv : CueInv s)
    (full : ∀ j : Fin 48, 8 ≤ j.val → s.cues.slots[j].cue ≠ none) (purges : runPurged s r b = [])
    (pinned : ∀ j ∈ s.cues.retiring, j.val < 8)
    (low : ∀ (j : Fin 48) (e : Cue), 8 ≤ j.val → s.cues.slots[j].cue = some e → ¬ ranksAbove b e.desc) :
    ∃ t, exec (.waitExpiry r) s = .next t ∧
      WaitsAt r { s.seq.runners[r] with labels := s.seq.runners[r].labels.set m none } (i + 2) d s t ∧
      OnlyChanges [.seq] s t := by
  have room : s.room (s.purged 7 (some { runner := r, label := m }) b) b = .refused := by
    rw [State.runPurged_eq, purges]
    exact State.room_refused full inv pinned low
  refine ended.empties wait step (State.postStep_noRoom template ?_)
  simp only [State.post, room, if_true]

end

end Sys2Proof.Machine

/-! PROOFS. The end of a run, the timeouts and the release by a signal (chapter 8). -/

namespace Sys2Proof.Machine

open Sys2Proof

/-! ## WAIT_SIGNAL and REPEAT (R159, R160, R162) -/

theorem Runner.counterAt_eq (x : Runner) (i count : Nat) : x.counterAt i count =
    match x.loop with
    | some y => if y.index = i then y.remaining else count
    | none => count := by
  unfold Runner.counterAt
  cases x.loop <;> rfl

section
variable {s : State} {r : Fin 2} {k : Fin 6} {i : Nat} (ended : WaitOver r k i s)
include ended

/-- A WAIT_SIGNAL whose signal has the waited value goes on at once (R160). -/
theorem WaitOver.passes {n : Fin 16} {v : Bool} {length : Nat} {action : TimeoutAction}
    (step : HasStep k (i + 1) (.waitSignal n v length action) s) (same : s.signals.getLsbD n = v) :
    StepsTo r (i + 1) s (i + 2) s := fun f => by
  rw [State.advance, ended.stepOf step]
  exact if_pos same

/-- A WAIT_SIGNAL whose signal has another value waits for it (R160). -/
theorem WaitOver.holds {n : Fin 16} {v : Bool} {length : Nat} {action : TimeoutAction}
    (step : HasStep k (i + 1) (.waitSignal n v length action) s) (other : s.signals.getLsbD n = !v) :
    ∃ t, exec (.waitExpiry r) s = .next t ∧ WaitsForSignal r s.seq.runners[r] (i + 1) length s t ∧
      OnlyChanges [.seq] s t := by
  have waits : State.advance (8223 + 1) r (i + 1) s =
      s.waitAt r (i + 1) .signalWait (if length = 0 then none else some length) := by
    rw [State.advance, ended.stepOf step]
    exact if_neg (by rw [other]; cases v <;> decide)
  refine ⟨_, ended.expiry.trans (congrArg _ waits), ?_, State.waitAt_only _ _ _ _ _⟩
  exact (OnlyRunner.of_seq rfl).setRunner fun x =>
    { x with state := .signalWait, index := i + 1, wait := if length = 0 then none else some length }

variable {target count d : Nat} (step : HasStep k (i + 1) (.repeatFrom target count) s)
include step

/-- A REPEAT with passes left goes back (R162). -/
theorem WaitOver.goesBack (back : HasStep k target (.wait d) s) {left : Nat}
    (some' : s.seq.runners[r].counterAt (i + 1) count = left + 1) :
    ∃ t, exec (.waitExpiry r) s = .next t ∧
      WaitsAt r { s.seq.runners[r] with loop := some { index := i + 1, remaining := left } } target d s t ∧
      OnlyChanges [.seq] s t := by
  have steps := ended.repeats step
  rw [State.repeatStep, some'] at steps
  exact ⟨_, ended.goesOn steps ((OnlyRunner.of_seq rfl).setRunner _) back (s.setRunner_only _ _)⟩

/-- A REPEAT with no pass left goes on (R162). -/
theorem WaitOver.goesForward (wait : HasStep k (i + 2) (.wait d) s)
    (none' : s.seq.runners[r].counterAt (i + 1) count = 0) :
    ∃ t, exec (.waitExpiry r) s = .next t ∧ WaitsAt r { s.seq.runners[r] with loop := none } (i + 2) d s t ∧
      OnlyChanges [.seq] s t := by
  have steps := ended.repeats step
  rw [State.repeatStep, none'] at steps
  exact ⟨_, ended.goesOn steps ((OnlyRunner.of_seq rfl).setRunner _) wait (s.setRunner_only _ _)⟩

end

/-! ## The dispositions (R163) -/

/-- A slot whose cue has no runner tag. -/
def CueSlot.untagged (x : CueSlot) : CueSlot := { x with cue := x.cue.map fun c => { c with tag := none } }

theorem CueSlot.untagged_untagged (x : CueSlot) : x.untagged.untagged = x.untagged := by
  rcases x with ⟨gen, _ | c⟩ <;> rfl

theorem State.untag_slots (s : State) (k j : Fin 48) :
    (s.untag k).cues.slots[j] = if j = k then s.cues.slots[k].untagged else s.cues.slots[j] := by
  cases live : s.cues.slots[k].cue with
  | none =>
    have same : s.untag k = s := by simp only [State.untag, State.cueAt, live]
    have self : s.cues.slots[k].untagged = s.cues.slots[k] := by rw [CueSlot.untagged, live, Option.map_none, ← live]
    rw [same]
    by_cases e : j = k
    · rw [if_pos e, self, e]
    · rw [if_neg e]
  | some c =>
    have put : s.untag k = s.putCue k { c with tag := none } := by simp only [State.untag, State.cueAt, live]
    rw [put, State.putCue_slot, CueSlot.untagged, live]
    rfl

theorem State.foldl_untag_slots (ks : List (Fin 48)) (s : State) (j : Fin 48) :
    (ks.foldl State.untag s).cues.slots[j] = if j ∈ ks then s.cues.slots[j].untagged else s.cues.slots[j] := by
  induction ks generalizing s with
  | nil => simp
  | cons k ks ih =>
    rw [List.foldl_cons, ih, State.untag_slots]
    by_cases e : j = k
    · subst e
      simp [CueSlot.untagged_untagged]
    · simp [e]

theorem mem_runnerCues {s : State} (inv : CueInv s) (r : Fin 2) (k : Fin 48) :
    k ∈ s.runnerCues r ↔ s.cues.slots[k].cue.any (Cue.ranBy r) = true := State.mem_cuesWhere inv _ k

/-- KEEP takes the runner's tag from its cues. -/
theorem State.dispose_keep {s : State} (inv : CueInv s) (r : Fin 2) (n : Fin 48) :
    (s.dispose r .keep).cues.slots[n] = { s.cues.slots[n] with
      cue := s.cues.slots[n].cue.map fun c => if c.ranBy r then { c with tag := none } else c } := by
  rw [State.dispose, State.foldl_untag_slots]
  simp only [mem_runnerCues inv]
  rcases s.cues.slots[n] with ⟨gen, _ | c⟩
  · rfl
  · cases own : c.ranBy r <;> simp [CueSlot.untagged, own]

/-- What the slots are after the runner's cues are freed. -/
theorem State.dispose_hold {s : State} (inv : CueInv s) (r : Fin 2) (n : Fin 48) :
    (s.dispose r .hold).cues.slots[n] = { s.cues.slots[n] with
      cue := s.cues.slots[n].cue.filter fun c => !c.ranBy r } := by
  have cues : (s.holdZones s.seq.runners[r].posted).cues = s.cues := (s.holdZones_only _).field .cues
  rw [State.dispose, State.freeAll, State.foldl_freeSlot_slots, cues]
  simp only [mem_runnerCues inv]
  rcases s.cues.slots[n] with ⟨gen, _ | c⟩
  · rfl
  · cases own : c.ranBy r <;> simp [Option.filter, own]

/-- Freeing cues counts zone changes and does nothing else to a zone. -/
theorem State.freeSlot_zones (g) (s : State) (k : Fin 48) (z : Fin 16) :
    (s.freeSlot g k).zones[z] = { s.zones[z] with count := (s.freeSlot g k).zones[z].count } := by
  cases live : s.cues.slots[k].cue with
  | none => rw [State.freeSlot_none live]
  | some c =>
    rw [(State.freeSlot_some live).2.1.1 z]
    split <;> rfl

theorem State.freeAll_zones (ks : List (Fin 48)) (s : State) (z : Fin 16) :
    (s.freeAll ks).zones[z] = { s.zones[z] with count := (s.freeAll ks).zones[z].count } := by
  induction ks generalizing s with
  | nil => rfl
  | cons k ks ih =>
    refine (ih (s.freeSlot none k)).trans ?_
    rw [State.freeSlot_zones]
    rfl

/-- HOLD holds the zones that the run has posted to. -/
theorem State.dispose_zones (s : State) (r : Fin 2) (z : Fin 16) : (s.dispose r .hold).zones[z] = { s.zones[z] with
    count := (s.dispose r .hold).zones[z].count
    hold := if s.seq.runners[r].posted.getLsbD z = true ∧ s.zones[z].hold = .clear then .pending else s.zones[z].hold } := by
  have held := (holdZone_op.foldl (members_nodup s.seq.runners[r].posted) s).1 z
  simp only [mem_members, beq_iff_eq] at held
  refine (State.freeAll_zones _ _ z).trans ?_
  rw [State.holdZones, held]
  split <;> rfl

theorem State.freeSlot_keepsOwned {s : State} {r : Fin 2} {k : Fin 48} {ks : List (Fin 48)} (own : s.ownedBy r (k :: ks)) (g) :
    (s.freeSlot g k).ownedBy r ks := by
  intro j mem c live
  rw [State.freeSlot_slots] at live
  split at live
  · cases live
  · exact own j (List.mem_cons_of_mem _ mem) c live

theorem State.freeAll_relabels {r : Fin 2} (ks : List (Fin 48)) : ∀ {s : State}, s.ownedBy r ks →
    ∃ p, Relabels r p s (s.freeAll ks) := by
  induction ks with
  | nil => exact fun {s} _ => ⟨_, .of_seq rfl⟩
  | cons k ks ih =>
    intro s own
    obtain ⟨p, rest⟩ := ih (State.freeSlot_keepsOwned own none)
    cases live : s.cues.slots[k].cue with
    | none =>
      rw [State.freeSlot_none live] at rest
      refine ⟨p, ?_⟩
      rw [State.freeAll, List.foldl_cons, State.freeSlot_none live]
      exact rest
    | some c => exact ⟨_, (State.freeSlot_relabels live (own k List.mem_cons_self c live) none).trans rest⟩

/-- A disposition takes freed cues out of the labels, and leaves the Sequence Engine otherwise. -/
theorem State.dispose_relabels (s : State) (r : Fin 2) (d : Disposition) : ∃ p, Relabels r p s (s.dispose r d) := by
  cases d with
  | keep => exact ⟨_, .of_seq ((OnlyChanges.foldl _ State.untag_only _ s).field .seq)⟩
  | retire => exact s.fadeAll_relabels r
  | hold =>
    have only := s.holdZones_only s.seq.runners[r].posted
    have cues : (s.holdZones s.seq.runners[r].posted).cues = s.cues := only.field .cues
    obtain ⟨p, freed⟩ := State.freeAll_relabels (s.runnerCues r) (s := s.holdZones s.seq.runners[r].posted)
      (by rw [State.ownedBy, cues]; exact s.runnerCues_owned r)
    exact ⟨_, (Relabels.of_seq (only.field .seq)).trans freed⟩

/-! ## The END step (R163, R166) -/

/-- What an END leaves. -/
theorem State.finishRun_ends {s : State} {r : Fin 2} {k : Fin 6} (slot : s.seq.runners[r].slot = some k)
    (few : s.notices.list.length ≤ 8) (d : Disposition) :
    RunEnds r k s (s.finishRun r d) ∧ (s.finishRun r d).notices = s.notices.after .sequenceEnd (.slot k) (.ended .done) ∧
      staysStaged r s (s.finishRun r d) ∧
      OnlyChanges [.seq, .palette, .notices, .noticeLow] (s.dispose r d) (s.finishRun r d) := by
  obtain ⟨p, labels⟩ := s.dispose_relabels r d
  have only := s.dispose_only r d
  have held : (s.dispose r d).seq.runners[r].slot = some k := by rw [labels.1]; exact slot
  have notices : (s.dispose r d).notices = s.notices := only.field .notices
  have ends := State.stopRunner_ends labels slot .done
  have stopped := (s.dispose r d).stopRunner_only r .done
  have settled := ((s.dispose r d).stopRunner r .done).reportIdle_only
  have ended := State.stopRunner_notices held (by rw [notices]; exact few) .done
  rw [notices] at ended
  have stays := State.reportIdle_settles ends ((stopped.field .palette).trans (only.field .palette))
  rw [State.finishRun]
  refine ⟨?_, (settled.field .notices).trans ended, stays, stopped.mono.trans settled.mono⟩
  rw [RunEnds, show ((s.dispose r d).stopRunner r .done).reportIdle.seq = _ from settled.field .seq]
  exact ends

theorem WaitOver.finishes {s : State} {r : Fin 2} {k : Fin 6} {i : Nat} (ended : WaitOver r k i s) {d : Disposition}
    (step : HasStep k (i + 1) (.finish d) s) : exec (.waitExpiry r) s = .next (s.finishRun r d) := by
  have finish : State.advance (8223 + 1) r (i + 1) s = s.finishRun r d := by
    rw [State.advance, ended.stepOf step]
  exact ended.expiry.trans (congrArg _ finish)

/-! ## The timeout of a WAIT_SIGNAL (R161) -/

section
variable {s : State} {r : Fin 2} {k : Fin 6} {i : Nat} (awake : s.resetLow = false) (runs : s.power.state.timeRuns = true)
  (at' : RunsAt r k i s) (due : s.seq.runners[r].wait = some 0) (waits : s.seq.runners[r].state = .signalWait)
  (few : s.notices.list.length ≤ 8)

include at' in
theorem State.raiseTimeout_eq : s.raiseTimeout r = s.raise .stepTimeout (.slot k) (.number i) := by
  rw [State.raiseTimeout, at'.1, at'.2]

include at' few in
theorem State.raiseTimeout_notices : (s.raiseTimeout r).notices = s.notices.after .stepTimeout (.slot k) (.number i) := by
  rw [State.raiseTimeout_eq at', State.raise_notices, Notices.raise_eq _ few]

include awake runs at' due waits

/-- The action of a timeout that has run out. -/
theorem exec_waitSignalTimeout_due {n : Fin 16} {v : Bool} {length : Nat} {action : TimeoutAction}
    (step : HasStep k i (.waitSignal n v length action) s) : exec (.waitSignalTimeout r) s = .next
      (match action with
      | .goOn => State.advance advanceBound r (i + 1) (s.raiseTimeout r)
      | .abort => (s.raiseTimeout r).abortRunner r .timeout
      | .goto target => State.advance advanceBound r target ((s.raiseTimeout r).setRunner r fun x => { x with loop := none })) := by
  have isDue : s.seq.runners[r].timeoutDue = true := by rw [Runner.timeoutDue, waits, due]; rfl
  have action' : s.seq.timeoutAction r = action := by
    rw [Sequencer.timeoutAction, at'.2, step.stepOf at'.1]
  rw [exec_waitSignalTimeout awake runs, State.waitSignalTimeout, if_pos isDue]
  dsimp only
  rw [action', at'.2]
  cases action <;> rfl

include few

/-- CONTINUE on a timeout, where a WAIT follows (R161). -/
theorem timeout_goesOn {d : Nat} {n : Fin 16} {v : Bool} {length : Nat} (step : HasStep k i (.waitSignal n v length .goOn) s)
    (next : HasStep k (i + 1) (.wait d) s) : ∃ t, exec (.waitSignalTimeout r) s = .next t ∧
      WaitsAt r s.seq.runners[r] (i + 1) d s t ∧ t.notices = s.notices.after .stepTimeout (.slot k) (.number i) ∧
      OnlyChanges [.seq, .notices, .noticeLow] s t := by
  have only := s.raiseTimeout_only r
  have same : OnlyRunner r s.seq.runners[r] s (s.raiseTimeout r) := .of_seq (only.field .seq)
  refine ⟨_, (exec_waitSignalTimeout_due awake runs at' due waits step).trans
    (congrArg _ (State.advance_waits same at'.1 next)), same.waits _ _, State.raiseTimeout_notices at' few,
    only.mono.trans (State.waitAt_only _ _ _ _ _).mono⟩

/-- GOTO on a timeout, to a WAIT (R161). -/
theorem timeout_goesTo {d target : Nat} {n : Fin 16} {v : Bool} {length : Nat}
    (step : HasStep k i (.waitSignal n v length (.goto target)) s)
    (next : HasStep k target (.wait d) s) : ∃ t, exec (.waitSignalTimeout r) s = .next t ∧
      WaitsAt r { s.seq.runners[r] with loop := none } target d s t ∧
      t.notices = s.notices.after .stepTimeout (.slot k) (.number i) ∧ OnlyChanges [.seq, .notices, .noticeLow] s t := by
  have only := s.raiseTimeout_only r
  have same := (OnlyRunner.of_seq (r := r) (only.field .seq)).setRunner fun x => { x with loop := none }
  refine ⟨_, (exec_waitSignalTimeout_due awake runs at' due waits step).trans
    (congrArg _ (State.advance_waits same at'.1 next)), same.waits _ _, State.raiseTimeout_notices at' few,
    (only.mono.trans (State.setRunner_only _ _ _).mono).trans (State.waitAt_only _ _ _ _ _).mono⟩

/-- ABORT on a timeout (R161, R164). -/
theorem timeout_aborts (inv : CueInv s) {n : Fin 16} {v : Bool} {length : Nat}
    (step : HasStep k i (.waitSignal n v length .abort) s) :
    ∃ t, exec (.waitSignalTimeout r) s = .next t ∧ RunEnds r k s t ∧
      t.notices = (s.notices.after .stepTimeout (.slot k) (.number i)).after .sequenceEnd (.slot k) (.ended .timeout) ∧
      staysStaged r s t ∧ CuesFade (Cue.ranBy r) s t ∧
      OnlyChanges [.cues, .zones, .watches, .seq, .palette, .notices, .noticeLow] s t := by
  have only := s.raiseTimeout_only r
  have seq : (s.raiseTimeout r).seq = s.seq := only.field .seq
  have cues : (s.raiseTimeout r).cues = s.cues := only.field .cues
  have palette : (s.raiseTimeout r).palette = s.palette := only.field .palette
  have notices := State.raiseTimeout_notices at' few
  obtain ⟨ends, fades, raised, stays⟩ := State.abortRunner_ends (s := s.raiseTimeout r) (r := r) (k := k)
    (by rw [CueInv, cues]; exact inv) (by rw [seq]; exact at'.1) (by rw [notices]; exact Notices.after_length few _ _ _) .timeout
  refine ⟨_, exec_waitSignalTimeout_due awake runs at' due waits step, ?_, by rw [← notices]; exact raised, ?_, fun j => ?_,
    only.mono.trans (State.abortRunner_only _ _ _)⟩
  · unfold RunEnds at ends ⊢
    rwa [seq] at ends
  · unfold staysStaged at stays ⊢
    rwa [seq, palette] at stays
  · have fade := fades j
    rwa [cues] at fade

end

end Sys2Proof.Machine

/-! PROOFS. The release of a runner by a signal, and the ends of its waits together (chapter 8). -/

namespace Sys2Proof.Machine

open Sys2Proof

/-! ## A change of a signal that releases a runner (R160) -/

/-- A change of a signal that no runner waits for restarts gates alone. -/
theorem State.signalChange_idle {s : State} {n : Fin 16} (idle : ∀ q : Fin 2, s.releasedBy n q = false) :
    s.signalChange n = s.restartGates n := by
  have same : ∀ q : Fin 2, (s.restartGates n).wakeRunner n q = s.restartGates n := fun q => if_neg (by
    rw [show (s.restartGates n).releasedBy n q = false from idle q]
    exact Bool.false_ne_true)
  rw [State.signalChange, State.wakeRunners, show (s.restartGates n).releasedBy n 0 = false from idle 0, Bool.false_and,
    if_neg Bool.false_ne_true, same 0, same 1]

theorem State.foldl_signalChange_idle {ns : List (Fin 16)} : ∀ {s : State},
    (∀ n ∈ ns, ∀ q : Fin 2, s.releasedBy n q = false) →
    ns.foldl State.signalChange s = s.setCues (s.cues.restarted s.signals ns) := by
  induction ns with
  | nil =>
    intro s _
    rw [CueTable.restarted_nil]
    rfl
  | cons n ns ih =>
    intro s idle
    rw [List.foldl_cons, State.signalChange_idle (idle n List.mem_cons_self),
      ih (s := s.restartGates n) fun m mem => idle m (List.mem_cons_of_mem _ mem), ← s.restartGates_restarted n ns]
    rfl

/-- Runner `r` waits at index `i` of slot `k` on signal `n` alone, and no other runner waits on a signal. -/
structure AloneOn (r : Fin 2) (k : Fin 6) (i : Nat) (n : Fin 16) (v : Bool) (s : State) : Prop where
  at_ : RunsAt r k i s
  waits : s.seq.runners[r].state = .signalWait
  step : ∃ length action, HasStep k i (.waitSignal n v length action) s
  others : ∀ q : Fin 2, q ≠ r → s.seq.runners[q].state ≠ .signalWait

section
variable {r : Fin 2} {k : Fin 6} {i d : Nat} {n : Fin 16} {v : Bool} {s : State} (alone : AloneOn r k i n v s)
include alone

theorem AloneOn.releases (m : Fin 16) (q : Fin 2) :
    s.releasedBy m q = (decide (q = r) && (n == m && s.signals.getLsbD m == v)) := by
  by_cases e : q = r
  · obtain ⟨length, action, step⟩ := alone.step
    subst e
    rw [State.releasedBy, alone.waits, alone.at_.2, step.stepOf alone.at_.1, decide_eq_true rfl]
    rfl
  · rw [State.releasedBy, beq_eq_false_iff_ne.2 (alone.others q e), decide_eq_false e, Bool.false_and, Bool.false_and]

/-- Nothing but the release of the runner follows the change of its signal. -/
theorem AloneOn.wakes (on : s.signals.getLsbD n = v) (wait : HasStep k (i + 1) (.wait d) s) : ∃ t, s.wakeRunners n = t ∧
    WaitsAt r s.seq.runners[r] (i + 1) d s t ∧ OnlyChanges [.seq] s t := by
  have released : ∀ q : Fin 2, s.releasedBy n q = decide (q = r) := fun q => by
    rw [alone.releases, beq_self_eq_true, on, beq_self_eq_true, Bool.and_true, Bool.and_true]
  have runner := (OnlyRunner.of_seq (r := r) (s := s) rfl).setRunner fun x => { x with wait := none }
  have woken : s.wakeRunner n r = (s.setRunner r fun x => { x with wait := none }).waitAt r (i + 1) .timedWait (some d) := by
    rw [State.wakeRunner, released, if_pos (decide_eq_true rfl), alone.at_.2]
    exact State.advance_waits runner alone.at_.1 wait
  have waits := runner.waits (i + 1) d
  rw [← woken] at waits
  have only : OnlyChanges [.seq] s (s.wakeRunner n r) := by
    rw [woken]
    exact (State.setRunner_only _ _ _).trans (State.waitAt_only _ _ _ _ _)
  refine ⟨_, ?_, waits, only⟩
  have sleeps : ∀ q : Fin 2, q ≠ r → s.wakeRunner n q = s := fun q ne => if_neg (by
    rw [released, decide_eq_false ne]
    exact Bool.false_ne_true)
  have asleep : ∀ q : Fin 2, q ≠ r → (s.wakeRunner n r).wakeRunner n q = s.wakeRunner n r := fun q ne => if_neg (by
    rw [State.releasedBy, waits.2.1 q ne, beq_eq_false_iff_ne.2 (alone.others q ne), Bool.false_and]
    exact Bool.false_ne_true)
  rw [State.wakeRunners, released 0, released 1]
  match r with
  | 0 => exact asleep 1 (by decide)
  | 1 =>
    change (s.wakeRunner n 0).wakeRunner n 1 = _
    rw [sleeps 0 (by decide)]

end

/-- The changes of signals of which one releases the runner. -/
theorem AloneOn.foldl {r : Fin 2} {k : Fin 6} {i d : Nat} {n : Fin 16} {v : Bool} {s : State} (alone : AloneOn r k i n v s)
    (on : s.signals.getLsbD n = v) (wait : HasStep k (i + 1) (.wait d) s) {ns : List (Fin 16)} (mem : n ∈ ns) :
    WaitsAt r s.seq.runners[r] (i + 1) d s (ns.foldl State.signalChange s) ∧
      OnlyChanges [.cues, .seq] s (ns.foldl State.signalChange s) := by
  obtain ⟨before, after, rfl, fresh⟩ := List.eq_append_cons_of_mem mem
  have idle : ∀ m ∈ before, ∀ q : Fin 2, s.releasedBy m q = false := fun m mem q => by
    rw [alone.releases, beq_eq_false_iff_ne.2 (show n ≠ m from fun e => fresh (e ▸ mem)), Bool.false_and, Bool.and_false]
  rw [List.foldl_append, List.foldl_cons, State.foldl_signalChange_idle idle]
  have only : OnlyChanges [.cues] s (s.setCues (s.cues.restarted s.signals before)) := s.setCues_only _
  have seq : (s.setCues (s.cues.restarted s.signals before)).seq = s.seq := only.field .seq
  have same : AloneOn r k i n v ((s.setCues (s.cues.restarted s.signals before)).restartGates n) :=
    ⟨alone.at_, alone.waits, alone.step, alone.others⟩
  obtain ⟨t, woken, waits, changed⟩ := same.wakes (d := d) on wait
  rw [State.signalChange, woken]
  have quiet : t.noneWaits := fun q => by
    by_cases e : q = r
    · rw [e, waits.1]
      exact nofun
    · rw [waits.2.1 q e]
      exact alone.others q e
  rw [State.foldl_signalChange quiet]
  refine ⟨waits, ?_⟩
  exact ((only.mono.trans (State.setCues_only _ _).mono).trans changed.mono).trans (State.setCues_only _ _).mono

/-- Settles O53: what each step leaves, where a WAIT follows it, and what ends a run. -/
theorem runnerWaitsEnd : Obligations.RunnerWaitsEnd := by
  refine ⟨fun r k i j d s awake runs slot index due next step => ⟨fun waits => ?_, fun n v timeout waits here few => ?_⟩,
    fun r s stopped => ⟨State.timedEvent_stopped (PowerState.timeRuns_stopped stopped) _,
      State.timedEvent_stopped (PowerState.timeRuns_stopped stopped) _⟩,
    fun r k i d s awake runs at' due waits wait inv => ?_, fun r k i s awake runs at' due inv few =>
      ⟨fun disposition waits step => ?_, fun n v length waits => ⟨fun step => ?_, fun target back step next => ?_⟩⟩,
    fun h mask values r k i d length n v action s reaches plain waits at' step wait off named on others => ?_⟩
  · have same : OnlyRunner r s.seq.runners[r] s s := .of_seq rfl
    have expires := exec_waitExpiry (r := r) awake runs
    rw [State.waitExpiry_due waits due index, State.advance_waits same slot ⟨j, next, step⟩] at expires
    obtain ⟨self, other, rest⟩ := same.waits (i.val + 1) d
    exact ⟨_, expires, by rw [self, next], other, rest, State.waitAt_only _ _ _ _ _⟩
  · obtain ⟨t, run, ⟨self, other, rest⟩, notices, only⟩ :=
      timeout_goesOn awake runs ⟨slot, index⟩ due waits few ⟨i, rfl, here⟩ ⟨j, next, step⟩
    exact ⟨t, run, by rw [self, next], other, rest, notices, only⟩
  · have ended : WaitOver r k i s := ⟨awake, runs, at', due, waits⟩
    refine ⟨fun m empty step => ended.skips_empty wait empty step, fun m n c label live tag =>
      ⟨fun step on long => ended.fades wait label live step on long,
        fun step on zero => ended.fades_zero wait label live inv tag step on zero,
        fun step fades => ended.skips_fading wait label live fades step,
        fun step => ended.frees wait label live tag step,
        fun v step on => ended.modifies wait label live step on⟩,
      fun a m step => ⟨fun empty => ended.empties wait step (State.postStep_empty empty),
        fun b n template hi free below keeps => ended.posts_plain wait step template hi free below keeps,
        fun b n template hi => ⟨fun long free below => ended.posts_fading wait step template hi inv long free below,
          fun zero free below => ended.posts_freeing wait step template hi inv zero free below,
          fun full short c live evicts own => ended.posts_evicting wait step template hi inv full short live evicts own⟩,
        fun b template full purges pinned low => ended.posts_nowhere wait step template inv full purges pinned low⟩,
      fun n v length action step => ⟨fun same => ended.skips (ended.passes step same) wait,
        fun other => ended.holds step other⟩,
      fun target count back step next => ⟨fun left some' => ?_, fun none' => ?_⟩⟩
    · exact ended.goesBack step next ((Runner.counterAt_eq _ _ _).trans some')
    · exact ended.goesForward step wait ((Runner.counterAt_eq _ _ _).trans none')
  · have ended : WaitOver r k i s := ⟨awake, runs, at', due, waits⟩
    obtain ⟨ends, notices, stays, only⟩ := State.finishRun_ends at'.1 few disposition
    have disposed := s.dispose_only r disposition
    have cues : (s.finishRun r disposition).cues = _ := only.field .cues
    have zones : (s.finishRun r disposition).zones = _ := only.field .zones
    refine ⟨_, ended.finishes step, ends, notices, stays, fun keep => ?_, fun retire j => ?_, fun hold => ?_,
      s.finishRun_only r disposition⟩
    · subst keep
      have untagged : OnlyChanges [.cues] s (s.dispose r .keep) := OnlyChanges.foldl _ State.untag_only _ s
      exact ⟨fun n => by rw [cues, State.dispose_keep inv], zones.trans (untagged.field .zones),
        (only.field .watches).trans (untagged.field .watches)⟩
    · subst retire
      rw [cues]
      exact State.fadeAll_runner inv j
    · subst hold
      exact ⟨fun n => by rw [cues, State.dispose_hold inv], fun z => by rw [zones]; exact s.dispose_zones r z⟩
  · exact timeout_aborts awake runs at' due waits few inv step
  · exact timeout_goesTo awake runs at' due waits few step next
  · obtain ⟨t, run, answers, stored⟩ := configuring_done (i := .setSignals h mask values) reaches rfl
      (by simp only [plain, if_true]; rfl)
    have signals : t.signals = signalsAfter s.signals mask values :=
      (stored.field .signals).trans (s.changeSignals_signals mask values)
    have now : (signalsAfter s.signals mask values).getLsbD n = v := by
      rw [signalsAfter_bit, if_pos named, on]
    have alone : AloneOn r k i n v (s.setSignals (signalsAfter s.signals mask values)) :=
      ⟨at', waits, ⟨length, action, step⟩, others⟩
    have changed : n ∈ members (s.signals ^^^ signalsAfter s.signals mask values) := by
      rw [mem_changed, now, off]
      cases v <;> decide
    obtain ⟨waits', only⟩ := alone.foldl now wait changed
    have seq : t.seq = (s.changeSignals mask values).seq := stored.field .seq
    refine ⟨t, run, ?_, by rw [signals, now], ?_, ?_⟩
    · rw [signals]
      exact answers
    · unfold WaitsAt
      rw [seq]
      exact waits'
    · exact ((s.setSignals_only _).mono.trans only.mono).trans stored.mono

end Sys2Proof.Machine

/-! PROOFS. The formats of the LampRing (section 11.5). -/

namespace Sys2Proof.Machine

open Sys2Proof

/-! ## Fields of a word -/

theorem extract_high {v w : Nat} (x : BitVec v) (y : BitVec w) (n m : Nat) :
    (x ++ y).extractLsb' (w + n) m = x.extractLsb' n m := by
  refine BitVec.eq_of_getLsbD_eq fun i hi => ?_
  rw [BitVec.getLsbD_extractLsb', BitVec.getLsbD_extractLsb', BitVec.getLsbD_append, if_neg (by omega)]
  congr 2
  omega

theorem extract_low {v w : Nat} (x : BitVec v) (y : BitVec w) {n m : Nat} (h : n + m ≤ w) :
    (x ++ y).extractLsb' n m = y.extractLsb' n m := by
  refine BitVec.eq_of_getLsbD_eq fun i hi => ?_
  rw [BitVec.getLsbD_extractLsb', BitVec.getLsbD_extractLsb', BitVec.getLsbD_append, if_pos (by omega)]

theorem extract_all {w : Nat} (x : BitVec w) : x.extractLsb' 0 w = x := by
  refine BitVec.eq_of_getLsbD_eq fun i hi => ?_
  rw [BitVec.getLsbD_extractLsb', decide_eq_true hi, Bool.true_and, Nat.zero_add]

theorem extract_bit {w : Nat} (x : BitVec w) (n : Nat) (e : End) :
    x.extractLsb' n 1 = endCode e ↔ (x.getLsbD n = true ↔ e = .inn) := by
  have bit : x.extractLsb' n 1 = BitVec.ofBool (x.getLsbD n) := by
    refine BitVec.eq_of_getLsbD_eq fun i hi => ?_
    obtain rfl : i = 0 := by omega
    simp
  rw [bit]
  cases e <;> cases x.getLsbD n <;> decide

/-! ## The header -/

section
variable (kind : RingKind) (e : End) (hop slots : Nat)

/-- A header's fields, from the kind down to the number of slots. -/
def headerFields : BitVec 16 := (kind.code ++ endCode e) ++ (BitVec.ofNat 6 hop ++ BitVec.ofNat 6 slots)

theorem headerOf_eq : headerOf kind e hop slots = headerFields kind e hop slots ++
    crc8 [(headerFields kind e hop slots).extractLsb' 8 8, (headerFields kind e hop slots).extractLsb' 0 8] := rfl

theorem headerOf_check : (headerOf kind e hop slots).extractLsb' 0 8 = headerCheck (headerOf kind e hop slots) := by
  rw [headerCheck, headerOf_eq, extract_low _ _ (Nat.le_refl 8), extract_all,
    extract_high (headerFields kind e hop slots) _ 8 8, extract_high (headerFields kind e hop slots) _ 0 8]

theorem headerOf_kind : (headerOf kind e hop slots).extractLsb' 21 3 = kind.code := by
  rw [headerOf_eq, extract_high (headerFields kind e hop slots) _ 13 3]
  exact ((extract_high (kind.code ++ endCode e) _ 1 3).trans (extract_high kind.code _ 0 3)).trans (extract_all _)

theorem headerOf_end : (headerOf kind e hop slots).extractLsb' 20 1 = endCode e := by
  rw [headerOf_eq, extract_high (headerFields kind e hop slots) _ 12 1]
  exact ((extract_high (kind.code ++ endCode e) _ 0 1).trans (extract_low kind.code _ (Nat.le_refl 1))).trans (extract_all _)

theorem headerOf_hop : (headerOf kind e hop slots).extractLsb' 14 6 = BitVec.ofNat 6 hop := by
  rw [headerOf_eq, extract_high (headerFields kind e hop slots) _ 6 6]
  exact ((extract_low (kind.code ++ endCode e) _ (n := 6) (m := 6) (Nat.le_refl 12)).trans
    (extract_high (BitVec.ofNat 6 hop) _ 0 6)).trans (extract_all _)

theorem headerOf_slots : (headerOf kind e hop slots).extractLsb' 8 6 = BitVec.ofNat 6 slots := by
  rw [headerOf_eq, extract_high (headerFields kind e hop slots) _ 0 6]
  exact ((extract_low (kind.code ++ endCode e) _ (n := 0) (m := 6) (by decide)).trans
    (extract_low (BitVec.ofNat 6 hop) _ (Nat.le_refl 6))).trans (extract_all _)

end

theorem ofNat_six {n : Nat} (h : n ≤ 60) : (BitVec.ofNat 6 n).toNat = n := by
  rw [BitVec.toNat_ofNat]
  exact Nat.mod_eq_of_lt (by omega)

/-- What the fields of a header say, where its check holds (R121, R198). -/
theorem headerReads_iff {h : BitVec 24} {kind : RingKind} {e : End} {slots : Nat} (small : slots ≤ 60) :
    HeaderReads h kind e slots ↔ h.extractLsb' 0 8 = headerCheck h ∧ h.extractLsb' 21 3 = kind.code ∧
      h.extractLsb' 20 1 = endCode e ∧ h.extractLsb' 8 6 = BitVec.ofNat 6 slots := by
  have code : (h.extractLsb' 21 3).toNat = (match kind with
      | .count => 0
      | .ident => 1
      | .duty => 2
      | .probe => 3
      | .sleep => 4) ↔ h.extractLsb' 21 3 = kind.code := by
    rw [BitVec.toNat_eq]
    cases kind <;> rfl
  have count : (h.extractLsb' 8 6).toNat = slots ↔ h.extractLsb' 8 6 = BitVec.ofNat 6 slots := by
    rw [BitVec.toNat_eq, ofNat_six small]
  have all : HeaderReads h kind e slots ↔ h.extractLsb' 21 3 = kind.code ∧ h.extractLsb' 20 1 = endCode e ∧
      h.extractLsb' 8 6 = BitVec.ofNat 6 slots ∧ h.extractLsb' 0 8 = headerCheck h :=
    and_congr code (and_congr (extract_bit h 20 e).symm (and_congr count Iff.rfl))
  rw [all]
  tauto

theorem headerOf_reads (kind : RingKind) (e : End) (hop : Nat) {slots : Nat} (small : slots ≤ 60) :
    HeaderReads (headerOf kind e hop slots) kind e slots :=
  (headerReads_iff small).2 ⟨headerOf_check .., headerOf_kind .., headerOf_end .., headerOf_slots ..⟩

theorem frameClean_iff {f : RingFrame} {kind : RingKind} {e : End} {slots : Nat} (small : slots ≤ 60) :
    frameClean f kind e slots = true ↔ HeaderReads f.header kind e slots ∧ f.slots.length = slots := by
  rw [headerReads_iff small, frameClean]
  simp only [Bool.and_eq_true, beq_iff_eq]
  tauto

/-- A frame as it is sent is clean. -/
theorem frameClean_sent (kind : RingKind) (e : End) (hop : Nat) {slots : List (BitVec 48)} (small : slots.length ≤ 60) :
    frameClean { header := headerOf kind e hop slots.length, slots := slots } kind e slots.length = true :=
  (frameClean_iff small).2 ⟨headerOf_reads kind e hop small, rfl⟩

theorem frameClean_probe (e : End) (hop : Nat) : frameClean (probeFrame e hop) .probe e 0 = true :=
  frameClean_sent .probe e hop (slots := []) (Nat.zero_le _)

/-! ## The slots -/

theorem slotHolds_iff (x : BitVec 48) : slotHolds x = true ↔ Checked x := by
  rw [slotHolds, beq_iff_eq]
  rfl

theorem slotOf_high (bits : BitVec 40) (n m : Nat) : (slotOf bits).extractLsb' (8 + n) m = bits.extractLsb' n m :=
  extract_high bits _ n m

theorem slotOf_checked (bits : BitVec 40) : Checked (slotOf bits) := by
  unfold Checked
  rw [slotOf_high bits 32 8, slotOf_high bits 24 8, slotOf_high bits 16 8, slotOf_high bits 8 8, slotOf_high bits 0 8]
  exact (extract_low bits _ (Nat.le_refl 8)).trans (extract_all _)

theorem countSlot_position {position : Nat} (small : position ≤ 255) (e : End) :
    ((countSlot position e).extractLsb' 40 8).toNat = position := by
  have field : (countSlot position e).extractLsb' 40 8 = BitVec.ofNat 8 position :=
    (slotOf_high _ 32 8).trans ((extract_high (BitVec.ofNat 8 position ++ endCode e) _ 1 8).trans
      ((extract_high (BitVec.ofNat 8 position) _ 0 8).trans (extract_all _)))
  rw [field, BitVec.toNat_ofNat]
  exact Nat.mod_eq_of_lt (by omega)

theorem countSlot_end (position : Nat) (e : End) : (countSlot position e).getLsbD 39 = true ↔ e = .inn := by
  rw [← extract_bit]
  exact (slotOf_high _ 31 1).trans ((extract_high (BitVec.ofNat 8 position ++ endCode e) _ 0 1).trans
    ((extract_low (BitVec.ofNat 8 position) _ (Nat.le_refl 1)).trans (extract_all _)))

theorem countSlot_rest (position : Nat) (e : End) : (countSlot position e).extractLsb' 8 31 = 0 :=
  (slotOf_high _ 0 31).trans ((extract_low (BitVec.ofNat 8 position ++ endCode e) _ (Nat.le_refl 31)).trans (extract_all _))

/-- What a COUNT frame that returns as it was sent reads (R129). -/
theorem countReply_sent {position : Nat} (small : position ≤ 255) (e : End) (hop : Nat) :
    countReply (countFrame e hop position) e = some position := by
  have holds : slotHolds (countSlot position e) = true := (slotHolds_iff _).2 (slotOf_checked _)
  have clean : frameClean (countFrame e hop position) .count e 1 = true :=
    frameClean_sent .count e hop (slots := [countSlot position e]) (by simp)
  rw [countReply, if_pos clean]
  change ((some (countSlot position e)).filter slotHolds).map slotPosition = _
  rw [Option.filter_some_pos holds, Option.map_some, slotPosition, countSlot_position small]

/-- A COUNT frame that is not clean, or whose slot check fails, reads nothing. -/
theorem countReply_none {f : RingFrame} {e : End}
    (bad : frameClean f .count e 1 = true → ∀ x ∈ f.slots, slotHolds x = false) : countReply f e = none := by
  unfold countReply
  split
  · next clean =>
    cases slots : f.slots with
    | nil => rfl
    | cons x xs =>
      have off := bad clean x (by rw [slots]; exact List.mem_cons_self)
      simp [Option.filter, off]
  · rfl

theorem countedNumber_succ {n : Nat} (h : n ≤ 254) : countedNumber (n + 1) = n := by
  unfold countedNumber
  omega

end Sys2Proof.Machine

/-! PROOFS. What an event of a LampRing chain leaves, and COUNT at a start (sections 7.2 and 7.4). -/

namespace Sys2Proof.Machine

open Sys2Proof

/-! ## What an operation of one chain leaves -/

/-- An operation of chain `i` leads from `s` to `t`: its record is `c` now, the notices are `n`, and of the Composer at most
the mark that the chain has left the state it held at the snapshot is new (R117), where `left` says so. -/
structure Rings (i : Fin 4) (left : Bool) (fields : List Field) (c : Chain) (n : Notices) (s t : State) : Prop where
  chain : t.chains[i] = c
  others : OnlyChain i s t
  notices : t.notices = n
  marks : if left then onlyMarks i s t else t.composer = s.composer
  only : OnlyChanges fields s t

/-- What an operation of a chain may change. -/
abbrev ringFields : List Field := [.chains, .composer, .notices, .noticeLow]

theorem Rings.refl (fields : List Field) (i : Fin 4) (s : State) : Rings i false fields s.chains[i] s.notices s s :=
  ⟨rfl, fun _ _ => rfl, rfl, if_neg Bool.false_ne_true ▸ rfl, .refl _ s⟩

section
variable {i : Fin 4} {left : Bool} {fields : List Field} {c : Chain} {n : Notices} {s u : State} (h : Rings i left fields c n s u)
include h

/-- A change of the record that keeps the chain's state. -/
theorem Rings.update {f : Chain → Chain} (same : c.mode.state = (f c).mode.state) (mem : .chains ∈ fields := by decide) :
    Rings i left fields (f c) n s (u.updateChain i f) := by
  obtain ⟨chain, others, notices, marks, only⟩ := h
  have stays : u.chains[i].mode.state = (f u.chains[i]).mode.state := by rw [chain]; exact same
  have composer : (u.updateChain i f).composer = u.composer := by
    rw [State.updateChain, State.setChain_composer, if_pos stays]
  have changed : OnlyChanges [.chains] u (u.updateChain i f) := u.setChain_sameState_only i stays
  refine ⟨by rw [State.updateChain_self, chain], others.trans (u.setChain_other i _), (changed.field .notices).trans notices, ?_,
    only.then changed fun g mem' => by rw [List.mem_singleton.1 mem']; exact mem⟩
  cases left with
  | false => exact composer.trans marks
  | true => exact onlyMarks.congr marks composer

/-- A change of the record that changes the chain's state. -/
theorem Rings.leave {f : Chain → Chain} (other : c.mode.state ≠ (f c).mode.state)
    (mem : .chains ∈ fields ∧ .composer ∈ fields := by decide) :
    Rings i true fields (f c) n s (u.updateChain i f) := by
  obtain ⟨chain, others, notices, marks, only⟩ := h
  have changed := u.updateChain_only i f
  have marked : onlyMarks i u (u.updateChain i f) := u.setChain_marks i (by rw [chain]; exact other)
  refine ⟨by rw [State.updateChain_self, chain], others.trans (u.setChain_other i _), (changed.field .notices).trans notices, ?_,
    only.then changed fun g mem' => ?_⟩
  · cases left with
    | false => exact marked.from marks.symm
    | true => exact onlyMarks.trans marks marked
  · rcases List.mem_cons.1 mem' with e | mem'
    · rw [e]
      exact mem.1
    · rw [List.mem_singleton.1 mem']
      exact mem.2

/-- A notice of the chain. -/
theorem Rings.raise (few : n.list.length ≤ 8) (kind subject detail)
    (mem : .notices ∈ fields ∧ .noticeLow ∈ fields := by decide) :
    Rings i left fields c (n.after kind subject detail) s (u.raise kind subject detail) := by
  obtain ⟨chain, others, notices, marks, only⟩ := h
  have changed := u.raise_only kind subject detail
  have chains : (u.raise kind subject detail).chains = u.chains := changed.field .chains
  have composer : (u.raise kind subject detail).composer = u.composer := changed.field .composer
  refine ⟨by rw [chains, chain], others.congr chains, ?_, ?_, only.then changed fun g mem' => ?_⟩
  · rw [State.raise_notices, notices, Notices.raise_eq _ few]
  · cases left with
    | false => exact composer.trans marks
    | true => exact onlyMarks.congr marks composer
  · rcases List.mem_cons.1 mem' with e | mem'
    · rw [e]
      exact mem.1
    · rw [List.mem_singleton.1 mem']
      exact mem.2

/-- The same, of a record written in another way. -/
theorem Rings.of_eq {d : Chain} (same : c = d) : Rings i left fields d n s u := same ▸ h

theorem Rings.mono {more : List Field} (sub : ∀ f ∈ fields, f ∈ more := by decide) : Rings i left more c n s u :=
  ⟨h.chain, h.others, h.notices, h.marks, h.only.mono sub⟩

end

/-- An operation that has changed the chain's state. -/
theorem Rings.marked {i : Fin 4} {fields : List Field} {c : Chain} {n : Notices} {s u : State}
    (h : Rings i true fields c n s u) : onlyMarks i s u := h.marks

/-! ## Arrivals and failures (R142, R175) -/

/-- Outside POWERING nobody awaits a chain. -/
theorem State.chainArrived_unawaited {s : State} (idle : s.power.state ≠ .powering) (i : Fin 4) : s.chainArrived i = s :=
  if_neg fun both => idle both.1

section
variable {i : Fin 4} {left : Bool} {fields : List Field} {c : Chain} {n : Notices} {s u : State}
  (h : Rings i left fields c n s u)
include h

theorem Rings.power (free : .power ∉ fields := by decide) : u.power = s.power :=
  h.only.field .power free

/-- A chain enters RING from STARTING, outside POWERING (R129, R130). -/
theorem Rings.arrives (idle : s.power.state ≠ .powering) (starts : c.mode.state ≠ .ring)
    (mem : .chains ∈ fields ∧ .composer ∈ fields := by decide) (free : .power ∉ fields := by decide) :
    Rings i true fields { c with mode := .ring none, ringDone := true } n s (u.arriveRing i) := by
  have arrived := h.leave (f := fun c => { c with mode := .ring none, ringDone := true }) starts mem
  rw [State.arriveRing, State.chainArrived_unawaited (by rw [arrived.power free]; exact idle)]
  exact arrived

end

section
variable {i : Fin 4} {left : Bool} {c : Chain} {n : Notices} {s u : State} (h : Rings i left ringFields c n s u)
include h

/-- The record of a chain that fails, and its notice. -/
theorem Rings.failing (few : n.list.length ≤ 8) (runs : c.mode.state ≠ .failed) :
    Rings i true ringFields (failedChain c) (n.after .chainState (.chain i) (.chain .failed)) s
      ((u.updateChain i Chain.fail).raiseChain i .failed) :=
  (h.leave (f := Chain.fail) runs).raise few _ _ _

/-- A chain fails, outside POWERING (R142). -/
theorem Rings.fails (few : n.list.length ≤ 8) (idle : s.power.state ≠ .powering) (runs : c.mode.state ≠ .failed) :
    Rings i true ringFields (failedChain c) (n.after .chainState (.chain i) (.chain .failed)) s (u.failChain i) := by
  have failing := h.failing few runs
  rw [State.failChain, State.chainArrived_unawaited (by rw [failing.power]; exact idle)]
  exact failing

/-- A chain enters LOCATING (R135). -/
theorem Rings.locates (few : n.list.length ≤ 8) (fromRing : Bool) (elsewhere : c.mode.state ≠ .locating) :
    Rings i true ringFields (Chain.locate fromRing c) (n.after .chainState (.chain i) (.chain .locating)) s
      (u.locateChain i fromRing) :=
  (h.raise few .chainState (.chain i) (.chain .locating)).leave (f := Chain.locate fromRing) elsewhere

end

section
variable {i : Fin 4} {left : Bool} {c : Chain} {s u : State} (h : Rings i left ringFields c s.notices s u)
  (few : s.notices.list.length ≤ 8) (starts : c.mode.state = .starting)
include h few starts

/-- What a start that is given up leaves under AUTO and MANUAL (R135). -/
theorem Rings.givesUp (rejoin : c.rejoin ≠ .halt) : LocatesFromStart i c s (u.giveUp i false) := by
  rw [State.giveUp, if_neg (by rw [h.chain]; exact rejoin)]
  obtain ⟨chain, others, notices, marks, only⟩ := h.locates few false (by rw [starts]; decide)
  exact ⟨chain, notices, others, marks, only⟩

/-- What it leaves under HALT, outside POWERING (R142). -/
theorem Rings.halts (halt : c.rejoin = .halt) (idle : s.power.state ≠ .powering) :
    FailsFromStart i c s.notices s (u.giveUp i false) := by
  rw [State.giveUp, if_pos (by rw [h.chain]; exact halt)]
  obtain ⟨chain, others, notices, marks, only⟩ := h.fails few idle (by rw [starts]; decide)
  exact ⟨chain, notices, others, marks, only⟩

end

/-! ## COUNT at a start (R129) -/

section
variable {i : Fin 4} {s : State} {failures : Nat} (counting : s.chains[i].mode = .counting failures)
include counting

theorem countLost_starts : s.countLost i = s.startCountFailed i failures := by rw [State.countLost, counting]

theorem countReturned_none {f : RingFrame} (nothing : countReply f .out = none) :
    s.countReturned i f = s.startCountFailed i failures := by
  rw [State.countReturned, counting]
  dsimp only
  rw [nothing]

theorem countReturned_some {f : RingFrame} {r : Nat} (reads : countReply f .out = some r) :
    s.countReturned i f = s.startCounted i r := by
  rw [State.countReturned, counting]
  dsimp only
  rw [reads]

theorem countReturned_sent {n : Nat} (small : n ≤ 254) :
    s.countReturned i (countFrame .out 0 (n + 1)) = s.startCounted i (n + 1) :=
  countReturned_some counting (countReply_sent (by omega) .out 0)

/-- A COUNT failure that is not the third in a row (R129). -/
theorem startCountFailed_again (few : failures < 2) : Rings i false [.chains] { s.chains[i] with
    retries := min 65535 (s.chains[i].retries + 1), mode := .counting (failures + 1)
    sent := { sender := .out, frame := countFrame .out 0 1 } :: s.chains[i].sent } s.notices s
      (s.startCountFailed i failures) := by
  rw [State.startCountFailed, if_pos few]
  exact ((Rings.refl [.chains] i s).update (f := fun c => c.retry 1) rfl).update (f := Chain.countAgain (failures + 1))
    (by change s.chains[i].mode.state = _; rw [counting]; rfl)

/-- The third at FAST (R129). -/
theorem startCountFailed_slow (short : s.notices.list.length ≤ 8) (third : 2 ≤ failures) (fast : s.chains[i].rate = .fast) :
    Rings i false [.chains, .notices, .noticeLow] { s.chains[i] with
        retries := min 65535 (s.chains[i].retries + 1), rate := .slow, mode := .counting 0
        sent := { sender := .out, frame := countFrame .out 0 1 } :: s.chains[i].sent }
      (s.notices.after .chainState (.chain i) (.chain .rateSlow)) s (s.startCountFailed i failures) := by
  have retried := (Rings.refl [.chains, .notices, .noticeLow] i s).update (f := fun c => c.retry 1) rfl
  rw [State.startCountFailed, if_neg (by omega), if_pos (by rw [retried.chain]; exact fast)]
  exact (retried.update (f := fun c => Chain.countAgain 0 { c with rate := .slow })
    (by change s.chains[i].mode.state = _; rw [counting]; rfl)).raise short _ _ _

end

section
variable {i : Fin 4} {s : State}

/-- The third at SLOW (R129). -/
theorem startCountFailed_last {failures : Nat} (third : 2 ≤ failures) (slow : s.chains[i].rate = .slow) :
    s.startCountFailed i failures = (s.updateChain i fun c => c.retry 1).giveUp i false := by
  rw [State.startCountFailed, if_neg (by omega), if_neg (by
    rw [State.updateChain_self]
    change s.chains[i].rate ≠ .fast
    rw [slow]
    decide)]

/-- A good COUNT takes the found count and its records enter SUSPECT (R129), with COUNT_MISMATCH for another number. -/
theorem startCounted_found {n : Nat} (short : s.notices.list.length ≤ 8) (fields : List Field)
    (mem : .chains ∈ fields) (mem' : n = s.chains[i].expected ∨ .notices ∈ fields ∧ .noticeLow ∈ fields) :
    Rings i false fields (Chain.count n s.chains[i]) (if n = s.chains[i].expected then s.notices
        else s.notices.after .countMismatch (.chain i) (.number n)) s
      ((if n = s.chains[i].expected then s else s.raiseMismatch i n).updateChain i (Chain.count n)) := by
  by_cases same : n = s.chains[i].expected
  · rw [if_pos same, if_pos same]
    exact (Rings.refl fields i s).update (f := Chain.count n) rfl mem
  · rw [if_neg same, if_neg same]
    exact ((Rings.refl fields i s).raise short _ _ _ (mem'.resolve_left same)).update (f := Chain.count n) rfl mem

theorem startCounted_eq {n : Nat} (small : n ≤ 60) : s.startCounted i (n + 1) =
    if n = 0 then ((if n = s.chains[i].expected then s else s.raiseMismatch i n).updateChain i (Chain.count n)).arriveRing i
    else ((if n = s.chains[i].expected then s else s.raiseMismatch i n).updateChain i (Chain.count n)).updateChain i
      (Chain.identifyLoop n) := by
  rw [State.startCounted, countedNumber_succ (by omega)]
  exact if_neg (by omega)

theorem startCounted_many {n : Nat} (many : 61 ≤ n) (small : n ≤ 254) :
    s.startCounted i (n + 1) = (s.raiseMismatch i 61).failChain i := by
  rw [State.startCounted, countedNumber_succ small]
  exact if_pos (by omega)

/-- A count of none leaves the records as they were. -/
theorem Chain.count_zero (c : Chain) : Chain.count 0 c = { c with found := 0 } := by
  have nodes : (c.nodes.mapIdx fun j x => if j + 1 ≤ 0 then { x with state := .suspect } else x) = c.nodes := by
    refine Vector.ext fun j hj => ?_
    rw [Vector.getElem_mapIdx, if_neg (by omega)]
  rw [Chain.count, Chain.mapNodes, nodes]

end

end Sys2Proof.Machine

/-! PROOFS. COUNT and IDENT at a start (section 7.4). -/

namespace Sys2Proof.Machine

open Sys2Proof

section
variable {s : State} (awake : s.resetLow = false) (i : Fin 4)
include awake

theorem exec_countReturned (f : RingFrame) : exec (.countReturned i f) s = .next (s.countReturned i f) :=
  State.event_eq awake fun s => s.countReturned i f

theorem exec_countLost : exec (.countLost i) s = .next (s.countLost i) :=
  State.event_eq awake fun s => s.countLost i

theorem exec_identReturned (f : RingFrame) : exec (.identReturned i f) s = .next (s.identReturned i f) :=
  State.event_eq awake fun s => s.identReturned i f

theorem exec_identLost : exec (.identLost i) s = .next (s.identLost i) :=
  State.event_eq awake fun s => s.identLost i

theorem exec_dutyReturned (e : End) (f : RingFrame) : exec (.dutyReturned i e f) s = .next (s.dutyReturned i e f) :=
  State.event_eq awake fun s => s.dutyReturned i e f

theorem exec_dutyLost (e : End) : exec (.dutyLost i e) s = .next (s.dutyLost i e) :=
  State.event_eq awake fun s => s.dutyLost i e

theorem exec_probeReturned (e : End) (f : RingFrame) : exec (.probeReturned i e f) s = .next (s.probeReturned i e f) :=
  State.event_eq awake fun s => s.probeReturned i e f

theorem exec_probeLost (e : End) : exec (.probeLost i e) s = .next (s.probeLost i e) :=
  State.event_eq awake fun s => s.probeLost i e

theorem exec_dutyFrameSend : exec (.dutyFrameSend i) s = .next (s.updateChain i Chain.dutySend) :=
  State.event_eq awake fun s => s.updateChain i Chain.dutySend

theorem exec_restoreTimerExpiry : exec (.restoreTimerExpiry i) s = .next (s.updateChain i Chain.restoreExpired) :=
  State.event_eq awake fun s => s.updateChain i Chain.restoreExpired

theorem exec_restoreAttempt : exec (.restoreAttempt i) s = .next (s.updateChain i Chain.attempt) :=
  State.event_eq awake fun s => s.updateChain i Chain.attempt

end

theorem Chain.identifyLoop_nodes (n : Nat) (c : Chain) : (Chain.identifyLoop n c).nodes = c.nodes := rfl

theorem Chain.count_node (n : Nat) (c : Chain) (k : Fin 60) :
    (Chain.count n c).nodes[k] = if k.val < n then { c.nodes[k] with state := .suspect } else c.nodes[k] := by
  rw [Chain.count, Chain.mapNodes_node]
  exact if_congr Nat.succ_le_iff rfl rfl

/-- A good COUNT of 1 to 60 nodes, with its IDENT sent (R129). -/
theorem startCounted_identifies {i : Fin 4} {s : State} {failures n : Nat} (counting : s.chains[i].mode = .counting failures)
    (short : s.notices.list.length ≤ 8) (some' : 1 ≤ n) (few : n ≤ 60) (fields : List Field)
    (mem : .chains ∈ fields) (mem' : n = s.chains[i].expected ∨ .notices ∈ fields ∧ .noticeLow ∈ fields) :
    Rings i false fields (Chain.identifyLoop n (Chain.count n s.chains[i])) (if n = s.chains[i].expected then s.notices
      else s.notices.after .countMismatch (.chain i) (.number n)) s (s.startCounted i (n + 1)) := by
  rw [startCounted_eq few, if_neg (show ¬ n = 0 by omega)]
  exact (startCounted_found short fields mem mem').update (f := Chain.identifyLoop n)
    (by change s.chains[i].mode.state = _; rw [counting]; rfl) mem

/-- Settles O42: the formats of a COUNT, and what each outcome of it leaves. -/
theorem countAtAStart : Obligations.CountAtAStart := by
  refine ⟨fun kind e hop slots low few => ⟨headerOf_reads kind e hop few, by rw [headerOf_hop, ofNat_six low]⟩,
    fun f kind e slots few => frameClean_iff few, fun e hop position small => ⟨countSlot position e, rfl, slotOf_checked _,
      countSlot_position small e, countSlot_end position e, countSlot_rest position e⟩, slotHolds_iff,
    fun i failures s awake counting short => ⟨fun n some' few => ?_, fun again => ?_, fun third fast => ?_,
      fun third slow => ⟨fun rejoin => ?_, fun halt idle => ?_⟩, fun f bad => ?_,
      fun idle => ⟨?_, fun n many small => ?_⟩⟩⟩
  all_goals have starting : s.chains[i].mode.state = .starting := by rw [counting]; rfl
  · have run := exec_countReturned awake i (countFrame .out 0 (n + 1))
    rw [countReturned_sent counting (by omega)] at run
    have low : n = s.chains[i].expected → (s.startCounted i (n + 1)).noticeLow = s.noticeLow := fun same =>
      (startCounted_identifies counting short some' few [.chains] (by decide) (.inl same)).only.field .noticeLow
    have rings := startCounted_identifies counting short some' few [.chains, .notices, .noticeLow] (by decide)
      (.inr (by decide))
    generalize s.startCounted i (n + 1) = t at *
    obtain ⟨chain, others, notices, -, only⟩ := rings
    refine ⟨t, run, by rw [chain]; rfl, by rw [chain]; rfl, fun k => ?_, by rw [chain]; rfl, by rw [chain]; rfl, others,
      fun same => ⟨by rw [notices, if_pos same], low same⟩, fun other => by rw [notices, if_neg other], only⟩
    rw [chain, Chain.identifyLoop_nodes, Chain.count_node]
  · have run := exec_countLost awake i
    rw [countLost_starts counting] at run
    have rings := startCountFailed_again counting again
    exact ⟨_, run, rings.chain, rings.others, rings.only⟩
  · have run := exec_countLost awake i
    rw [countLost_starts counting] at run
    have rings := startCountFailed_slow counting short third fast
    exact ⟨_, run, rings.chain, rings.others, rings.notices, rings.only⟩
  · have run := exec_countLost awake i
    rw [countLost_starts counting, startCountFailed_last third slow] at run
    exact ⟨_, run, ((Rings.refl ringFields i s).update (f := fun c => c.retry 1) rfl).givesUp short starting rejoin⟩
  · have run := exec_countLost awake i
    rw [countLost_starts counting, startCountFailed_last third slow] at run
    exact ⟨_, run, ((Rings.refl ringFields i s).update (f := fun c => c.retry 1) rfl).halts short starting halt idle⟩
  · rw [exec_countReturned awake, exec_countLost awake, countReturned_none counting (countReply_none bad),
      countLost_starts counting]
  · have run := exec_countReturned awake i (countFrame .out 0 1)
    rw [countReturned_sent counting (n := 0) (by omega), startCounted_eq (Nat.zero_le _), if_pos rfl] at run
    have counted := startCounted_found (i := i) (n := 0) short ringFields (by decide) (.inr (by decide))
    rw [Chain.count_zero] at counted
    have rings := counted.arrives idle (by rw [starting]; exact nofun)
    refine ⟨_, run, rings.chain, ?_, rings.others, rings.marked, rings.only⟩
    rw [rings.notices]
    exact if_congr eq_comm rfl rfl
  · have run := exec_countReturned awake i (countFrame .out 0 (n + 1))
    rw [countReturned_sent counting small, startCounted_many many small] at run
    obtain ⟨chain, others, notices, marks, only⟩ := ((Rings.refl ringFields i s).raise short .countMismatch (.chain i)
      (.number 61)).fails (Notices.after_length short _ _ _) idle (by rw [starting]; decide)
    exact ⟨_, run, chain, notices, others, marks, only⟩

end Sys2Proof.Machine

/-! PROOFS. The slots of an IDENT, and the nodes that none has read (section 7.4). -/

namespace Sys2Proof.Machine

open Sys2Proof

/-! ## Reply slots (R130) -/

/-- The record of one node after the reply slots of an IDENT. -/
def readNode (replies : List (Nat × BitVec 48)) (k : Fin 60) (x : Node) : Node :=
  match replies.find? fun y => y.1 == k.val + 1 with
  | some y => if goodIdentReply y.2 then { x with bin := slotBin y.2 } else x
  | none => x

theorem readNode_some {replies : List (Nat × BitVec 48)} {k : Fin 60} {y : Nat × BitVec 48}
    (found : (replies.find? fun y => y.1 == k.val + 1) = some y) (x : Node) :
    readNode replies k x = if goodIdentReply y.2 then { x with bin := slotBin y.2 } else x := by
  rw [readNode, found]

theorem readNode_none {replies : List (Nat × BitVec 48)} {k : Fin 60}
    (missing : (replies.find? fun y => y.1 == k.val + 1) = none) (x : Node) : readNode replies k x = x := by
  rw [readNode, missing]

/-- How many slots of an IDENT are bad. -/
def badSlots (slots : List (BitVec 48)) : Nat := slots.countP fun x => !goodIdentReply x

theorem Chain.readBin_good {p : Nat} {x : BitVec 48} (good : goodIdentReply x = true) (c : Chain) :
    c.readBin (p, x) = { c with nodes := (c.readBin (p, x)).nodes } ∧
      ∀ k : Fin 60, (c.readBin (p, x)).nodes[k] = if p = k.val + 1 then { c.nodes[k] with bin := slotBin x } else c.nodes[k] := by
  unfold Chain.readBin
  rw [if_pos good]
  dsimp only
  cases at' : c.nodeAt p with
  | none =>
    refine ⟨rfl, fun k => (if_neg fun e => ?_).symm⟩
    rw [e, Chain.nodeAt_succ] at at'
    cases at'
  | some n =>
    obtain ⟨j, rfl, node⟩ := Chain.nodeAt_eq_some at'
    dsimp only
    rw [Chain.setNode_succ]
    refine ⟨rfl, fun k => ?_⟩
    rw [getElem_setFin]
    by_cases e : k = j
    · rw [if_pos e, if_pos (by rw [e]), e, node]
    · rw [if_neg e, if_neg fun e' => e (Fin.ext (by omega))]

theorem Chain.readBin_bad {p : Nat} {x : BitVec 48} (bad : goodIdentReply x = false) (c : Chain) :
    c.readBin (p, x) = c.retry 1 := by
  rw [Chain.readBin, if_neg (by rw [bad]; exact Bool.false_ne_true)]

/-- The slots of an IDENT change the bins that they give and the retries total, and nothing else of a chain (R130). -/
theorem Chain.readBins_eq {replies : List (Nat × BitVec 48)} (once : (replies.map Prod.fst).Nodup) : ∀ c : Chain,
    (∀ k : Fin 60, (c.readBins replies).nodes[k] = readNode replies k c.nodes[k]) ∧
      (c.readBins replies).retries = (if badSlots (replies.map Prod.snd) = 0 then c.retries
        else min 65535 (c.retries + badSlots (replies.map Prod.snd))) ∧
      c.readBins replies = { c with retries := (c.readBins replies).retries, nodes := (c.readBins replies).nodes } := by
  induction replies with
  | nil => exact fun c => ⟨fun k => rfl, rfl, rfl⟩
  | cons y replies ih =>
    obtain ⟨p, x⟩ := y
    obtain ⟨fresh, once⟩ := List.nodup_cons.1 once
    intro c
    obtain ⟨nodes, retries, rest⟩ := ih once (c.readBin (p, x))
    have same : c.readBins ((p, x) :: replies) = (c.readBin (p, x)).readBins replies := rfl
    have later : ∀ k : Fin 60, p = k.val + 1 → (replies.find? fun y => y.1 == k.val + 1) = none := fun k e =>
      List.find?_eq_none.2 fun y mem is => fresh (by
        rw [e]
        exact List.mem_map.2 ⟨y, mem, beq_iff_eq.1 is⟩)
    have step : ∀ k : Fin 60, readNode ((p, x) :: replies) k c.nodes[k] =
        if p = k.val + 1 then (if goodIdentReply x then { c.nodes[k] with bin := slotBin x } else c.nodes[k])
        else readNode replies k c.nodes[k] := fun k => by
      by_cases e : p = k.val + 1
      · rw [if_pos e, readNode_some (List.find?_cons_of_pos (beq_iff_eq.2 e))]
      · rw [if_neg e, readNode, List.find?_cons_of_neg (by rw [beq_iff_eq]; exact e)]
        rfl
    rw [same]
    cases good : goodIdentReply x with
    | true =>
      obtain ⟨kept, node⟩ := Chain.readBin_good good (p := p) c
      have count : badSlots (((p, x) :: replies).map Prod.snd) = badSlots (replies.map Prod.snd) := by
        simp [badSlots, good]
      refine ⟨fun k => ?_, ?_, ?_⟩
      · rw [nodes, step, node]
        by_cases e : p = k.val + 1
        · rw [if_pos e, if_pos e, readNode_none (later k e), if_pos good]
        · rw [if_neg e, if_neg e]
      · rw [retries, count, kept]
      · rw [rest, kept]
    | false =>
      have node := Chain.readBin_bad good (p := p) c
      have count : badSlots (((p, x) :: replies).map Prod.snd) = badSlots (replies.map Prod.snd) + 1 := by
        simp [badSlots, good]
      rw [node] at nodes retries rest ⊢
      refine ⟨fun k => ?_, ?_, ?_⟩
      · rw [nodes, step]
        by_cases e : p = k.val + 1
        · rw [if_pos e, readNode_none (later k e), good, if_neg Bool.false_ne_true]
          rfl
        · rw [if_neg e]
          rfl
      · have once' : (c.retry 1).retries = min 65535 (c.retries + 1) := rfl
        rw [retries, count, if_neg (Nat.succ_ne_zero _), once']
        generalize badSlots (replies.map Prod.snd) = bad
        split <;> omega
      · rw [rest]
        rfl

/-- The nodes that remain unread, by their slots. -/
theorem mem_stillUnread {unread : List Nat} {replies : List (Nat × BitVec 48)} {p : Nat} : p ∈ stillUnread unread replies ↔
    p ∈ unread ∧ ∀ y ∈ replies, y.1 = p → goodIdentReply y.2 = false := by
  rw [stillUnread, List.mem_filter, Bool.not_eq_true', List.any_eq_false]
  refine and_congr_right fun _ => forall₂_congr fun y _ => ?_
  rw [Bool.and_eq_true, beq_iff_eq, not_and, Bool.not_eq_true]

/-- Where every slot is good, no node that has one remains unread. -/
theorem stillUnread_nil {unread ps : List Nat} {slots : List (BitVec 48)} (long : slots.length = ps.length)
    (inside : ∀ p ∈ unread, p ∈ ps) (good : ∀ x ∈ slots, goodIdentReply x = true) : stillUnread unread (ps.zip slots) = [] := by
  refine List.eq_nil_iff_forall_not_mem.2 fun p mem => ?_
  obtain ⟨here, bad⟩ := mem_stillUnread.1 mem
  obtain ⟨j, hj, at'⟩ := List.mem_iff_getElem.1 (inside p here)
  have both : (ps[j], slots[j]'(by omega)) ∈ ps.zip slots := by
    rw [← List.getElem_zip (h := by rw [List.length_zip]; omega)]
    exact List.getElem_mem _
  have off := bad _ both at'
  rw [good _ (List.getElem_mem _)] at off
  cases off

/-- A node that remains unread has a bad slot. -/
theorem badSlots_of_unread {unread ps : List Nat} {slots : List (BitVec 48)} (long : slots.length = ps.length)
    (inside : ∀ p ∈ unread, p ∈ ps) (some' : stillUnread unread (ps.zip slots) ≠ []) : badSlots slots ≠ 0 := fun none' => by
  refine some' (stillUnread_nil long inside fun x mem => ?_)
  simpa using List.countP_eq_zero.1 none' x mem

theorem badSlots_zero {slots : List (BitVec 48)} (good : ∀ x ∈ slots, goodIdentReply x = true) : badSlots slots = 0 :=
  List.countP_eq_zero.2 fun x mem => by rw [good x mem]; decide

/-! ## The whole loop -/

section
variable {f : RingFrame} {n : Nat} (long : f.slots.length = n)

theorem outPositions_nodup (n : Nat) : (outPositions n).Nodup := List.nodup_range'

theorem outPositions_length (n : Nat) : (outPositions n).length = n := List.length_range'

include long

theorem zip_outPositions_find {k : Fin 60} : (((outPositions n).zip f.slots).find? fun y => y.1 == k.val + 1) =
    f.slots[k.val]?.map fun x => (k.val + 1, x) := by
  have place : ∀ y ∈ (outPositions n).zip f.slots, ∃ j, y.1 = j + 1 ∧ f.slots[j]? = some y.2 := fun y mem => by
    obtain ⟨j, hj, e⟩ := List.mem_iff_getElem.1 mem
    rw [List.getElem_zip] at e
    rw [List.length_zip] at hj
    refine ⟨j, ?_, ?_⟩
    · rw [← e]
      simp [outPositions, Nat.add_comm]
    · rw [← e, List.getElem?_eq_getElem]
  cases here : f.slots[k.val]? with
  | none =>
    refine List.find?_eq_none.2 fun y mem is => ?_
    obtain ⟨j, at', slot⟩ := place y mem
    obtain rfl : j = k.val := by have := beq_iff_eq.1 is; omega
    rw [here] at slot
    cases slot
  | some x =>
    obtain ⟨hk, slot⟩ := List.getElem?_eq_some_iff.1 here
    cases found : ((outPositions n).zip f.slots).find? fun y => y.1 == k.val + 1 with
    | none =>
      have mem : ((outPositions n)[k.val]'(by rw [outPositions_length]; omega), f.slots[k.val]) ∈ (outPositions n).zip f.slots := by
        rw [← List.getElem_zip (h := by rw [List.length_zip, outPositions_length]; omega)]
        exact List.getElem_mem _
      refine absurd ?_ (List.find?_eq_none.1 found _ mem)
      simp [outPositions, Nat.add_comm]
    | some y =>
      have at' := List.find?_some found
      obtain ⟨j, place', slot'⟩ := place y (List.mem_of_find?_eq_some found)
      obtain rfl : j = k.val := by have := beq_iff_eq.1 at'; omega
      rw [here] at slot'
      rw [Option.map_some, Option.some.inj slot', ← place']

theorem stillUnread_loop {unread : List Nat} (inside : ∀ p ∈ unread, 1 ≤ p ∧ p ≤ n) (few : n ≤ 60) :
    stillUnread unread ((outPositions n).zip f.slots) = unreadAfter unread f := by
  refine List.filter_congr fun p mem => ?_
  obtain ⟨low, high⟩ := inside p mem
  obtain ⟨k, rfl⟩ : ∃ k, p = k + 1 := ⟨p - 1, by omega⟩
  congr 1
  have found := zip_outPositions_find long (k := ⟨k, by omega⟩)
  rw [Nat.add_sub_cancel, Bool.eq_iff_iff, List.any_eq_true]
  constructor
  · rintro ⟨y, mem', is⟩
    rw [Bool.and_eq_true] at is
    obtain ⟨j, hj, e⟩ := List.mem_iff_getElem.1 mem'
    rw [List.getElem_zip] at e
    rw [List.length_zip] at hj
    have at' : j = k := by
      have := beq_iff_eq.1 is.1
      rw [← e] at this
      simp [outPositions] at this
      omega
    subst at'
    rw [List.getElem?_eq_getElem (by omega), Option.any_some]
    rw [← e] at is
    exact is.2
  · intro good
    obtain ⟨x, here, good⟩ := (Option.any_eq_true _ _).1 good
    rw [here, Option.map_some] at found
    exact ⟨_, List.mem_of_find?_eq_some found, by rw [beq_self_eq_true, good]; rfl⟩

/-- The slots of a clean IDENT of the whole loop, of which some is bad. -/
theorem Chain.readBins_loop (c : Chain) (some' : badSlots f.slots ≠ 0) :
    c.readBins ((outPositions n).zip f.slots) = binsRead c f := by
  have firsts : ((outPositions n).zip f.slots).map Prod.fst = outPositions n :=
    List.map_fst_zip (by rw [outPositions_length]; omega)
  have seconds : ((outPositions n).zip f.slots).map Prod.snd = f.slots :=
    List.map_snd_zip (by rw [outPositions_length]; omega)
  obtain ⟨nodes, retries, rest⟩ := Chain.readBins_eq (by rw [firsts]; exact outPositions_nodup n) c
  rw [seconds, if_neg some'] at retries
  have all : (c.readBins ((outPositions n).zip f.slots)).nodes = (binsRead c f).nodes := by
    refine Vector.ext fun k hk => ?_
    have node := nodes ⟨k, hk⟩
    refine node.trans ?_
    rw [readNode, zip_outPositions_find long]
    simp only [binsRead, Vector.getElem_ofFn]
    cases f.slots[k]? <;> rfl
  rw [rest, retries, all]
  rfl

end

end Sys2Proof.Machine

/-! PROOFS. IDENT at a start (section 7.4). -/

namespace Sys2Proof.Machine

open Sys2Proof

/-! ## Nodes that no IDENT has read (R130) -/

/-- A record of a node that no IDENT has read: OFFLINE with bin 0, its good-reply run at 0. -/
def Node.unread (n : Node) : Node := { n with state := .offline, bin := 0, goodRun := 0 }

/-- A chain whose nodes at these positions have not been read. -/
def Chain.markOff (ps : List Nat) (c : Chain) : Chain := c.mapNodes fun p n => if p ∈ ps then n.unread else n

theorem Chain.mapNodes_congr {c : Chain} {f g : Nat → Node → Node}
    (same : ∀ (k : Fin 60), f (k.val + 1) c.nodes[k] = g (k.val + 1) c.nodes[k]) : c.mapNodes f = c.mapNodes g := by
  have nodes : (c.mapNodes f).nodes = (c.mapNodes g).nodes := Vector.ext fun k hk => by
    exact ((c.mapNodes_node f ⟨k, hk⟩).trans (same ⟨k, hk⟩)).trans (c.mapNodes_node g ⟨k, hk⟩).symm
  rw [show c.mapNodes f = { c with nodes := (c.mapNodes f).nodes } from rfl, nodes]
  rfl

theorem Chain.mapNodes_mapNodes (c : Chain) (f g : Nat → Node → Node) :
    (c.mapNodes f).mapNodes g = c.mapNodes fun p n => g p (f p n) := by
  have nodes : ((c.mapNodes f).mapNodes g).nodes = (c.mapNodes fun p n => g p (f p n)).nodes := Vector.ext fun k hk => by
    have twice := ((c.mapNodes f).mapNodes_node g ⟨k, hk⟩).trans (congrArg (g (k + 1)) (c.mapNodes_node f ⟨k, hk⟩))
    have once := c.mapNodes_node (fun p n => g p (f p n)) ⟨k, hk⟩
    exact twice.trans once.symm
  rw [show (c.mapNodes f).mapNodes g = { c with nodes := ((c.mapNodes f).mapNodes g).nodes } from rfl, nodes]
  rfl

theorem Chain.markOff_cons (p : Nat) (ps : List Nat) (c : Chain) : (c.markOff [p]).markOff ps = c.markOff (p :: ps) := by
  unfold Chain.markOff
  rw [Chain.mapNodes_mapNodes]
  refine Chain.mapNodes_congr fun k => ?_
  by_cases here : k.val + 1 = p <;> by_cases later : k.val + 1 ∈ ps <;> simp [here, later, Node.unread]

theorem Chain.setNode_markOff (c : Chain) (k : Fin 60) : c.setNode (k.val + 1) c.nodes[k].unread = c.markOff [k.val + 1] := by
  have nodes : c.nodes.set k c.nodes[k].unread = (c.markOff [k.val + 1]).nodes := Vector.ext fun j hj => by
    have mapped : (c.markOff [k.val + 1]).nodes[(⟨j, hj⟩ : Fin 60)] = _ := c.mapNodes_node _ ⟨j, hj⟩
    refine Eq.trans ?_ mapped.symm
    have put := getElem_setFin c.nodes k ⟨j, hj⟩ c.nodes[k].unread
    refine put.trans ?_
    by_cases e : (⟨j, hj⟩ : Fin 60) = k
    · subst e
      rw [if_pos rfl]
      exact (if_pos (List.mem_singleton_self _)).symm
    · rw [if_neg e]
      refine (if_neg fun mem => e (Fin.ext ?_)).symm
      have := List.mem_singleton.1 mem
      dsimp only at this ⊢
      omega
  rw [Chain.setNode_succ, nodes]
  rfl

/-- NODE_FAULT (OFFLINE) for each position of a list. -/
def unreadFaults (i : Fin 4) (ps : List Nat) (n : Notices) : Notices :=
  ps.foldl (fun n p => n.after .nodeFault (.node { chain := i, position := p }) (.node .offline)) n

theorem unreadFaults_length (i : Fin 4) (ps : List Nat) : ∀ {n : Notices}, n.list.length ≤ 8 →
    (unreadFaults i ps n).list.length ≤ 8 := by
  induction ps with
  | nil => exact fun few => few
  | cons p ps ih => exact fun few => ih (Notices.after_length few _ _ _)

theorem unreadNotices_eq (n : Notices) (i : Fin 4) (unread : List Nat) :
    unreadNotices n i unread = unreadFaults i ((List.range' 1 60).filter unread.contains) n := by
  rw [unreadNotices, unreadFaults, List.foldl_filter]
  simp only [List.contains_eq_mem, decide_eq_true_eq]

theorem Rings.marksUnread {i : Fin 4} {left : Bool} {s : State} (ps : List Nat) :
    ∀ {c : Chain} {n : Notices} {u : State}, Rings i left ringFields c n s u → n.list.length ≤ 8 →
      (∀ p ∈ ps, 1 ≤ p ∧ p ≤ 60) →
      Rings i left ringFields (c.markOff ps) (unreadFaults i ps n) s (ps.foldl (State.markUnread i) u) := by
  induction ps with
  | nil =>
    intro c n u h few _
    have same : c.markOff [] = c := by
      have nodes : (c.markOff []).nodes = c.nodes := Vector.ext fun k hk => by
        exact (c.mapNodes_node _ ⟨k, hk⟩).trans (if_neg List.not_mem_nil)
      rw [show c.markOff [] = { c with nodes := (c.markOff []).nodes } from rfl, nodes]
    rw [same]
    exact h
  | cons p ps ih =>
    intro c n u h few inside
    obtain ⟨low, high⟩ := inside p List.mem_cons_self
    obtain ⟨k, rfl⟩ : ∃ k : Fin 60, p = k.val + 1 := ⟨⟨p - 1, by omega⟩, by dsimp only; omega⟩
    have marked : State.markUnread i u (k.val + 1) =
        (u.updateChain i fun c' => c'.setNode (k.val + 1) c.nodes[k].unread).raiseNode i (k.val + 1) .offline := by
      rw [State.markUnread, h.chain, Chain.nodeAt_succ]
      rfl
    have one := (h.update (f := fun c' => c'.setNode (k.val + 1) c.nodes[k].unread)
      (by rw [Chain.setNode_succ])).of_eq (c.setNode_markOff k)
    have both := ih (one.raise few .nodeFault (.node { chain := i, position := k.val + 1 }) (.node .offline))
      (Notices.after_length few _ _ _) fun q mem => inside q (List.mem_cons_of_mem _ mem)
    rw [Chain.markOff_cons] at both
    rw [List.foldl_cons, marked]
    exact both

/-- The end of an IDENT in which some frame was clean (R130). -/
theorem Rings.concludes {i : Fin 4} {left : Bool} {c : Chain} {n : Notices} {s u : State} (h : Rings i left ringFields c n s u)
    (few : n.list.length ≤ 8) (positions unread : List Nat) (next : State → State) :
    ∃ v, Rings i left ringFields (c.markOff unread) (unreadNotices n i unread) s v ∧
      u.concludeIdent i positions unread next = if unread ≠ [] ∧ c.rejoin = .halt then v.failChain i
        else next (v.updateChain i (Chain.markRead positions unread)) := by
  have rings := h.marksUnread ((List.range' 1 60).filter unread.contains) few fun p mem => by
    have := List.mem_range'_1.1 (List.mem_filter.1 mem).1
    omega
  have same : c.markOff ((List.range' 1 60).filter unread.contains) = c.markOff unread :=
    Chain.mapNodes_congr fun k => if_congr (by
      rw [List.mem_filter, List.mem_range'_1, List.contains_eq_mem, decide_eq_true_eq]
      exact and_iff_right (by omega)) rfl rfl
  rw [same, ← unreadNotices_eq] at rings
  refine ⟨_, rings, ?_⟩
  rw [State.concludeIdent, rings.chain]
  rfl

theorem State.concludeIdent_nil (s : State) (i : Fin 4) (positions : List Nat) (next : State → State) :
    s.concludeIdent i positions [] next = next (s.updateChain i (Chain.markRead positions [])) := by
  have none' : ((List.range' 1 60).filter ([] : List Nat).contains) = [] := List.filter_eq_nil_iff.2 fun p _ => by simp
  rw [State.concludeIdent, none', if_neg fun both => both.1 rfl]
  rfl

theorem Chain.markRead_node (positions unread : List Nat) (c : Chain) (k : Fin 60) :
    (c.markRead positions unread).nodes[k] =
      if k.val + 1 ∈ positions ∧ k.val + 1 ∉ unread then { c.nodes[k] with state := .online } else c.nodes[k] := by
  rw [Chain.markRead, Chain.mapNodes_node]
  refine if_congr ?_ rfl rfl
  simp

theorem Chain.markOff_node (ps : List Nat) (c : Chain) (k : Fin 60) :
    (c.markOff ps).nodes[k] = if k.val + 1 ∈ ps then c.nodes[k].unread else c.nodes[k] := Chain.mapNodes_node _ _ _

/-- The records after nodes of a stretch were read and others were not. -/
theorem Chain.markRead_markOff (positions unread : List Nat) (c : Chain) (k : Fin 60) :
    ((c.markOff unread).markRead positions unread).nodes[k] = if k.val + 1 ∈ unread then c.nodes[k].unread
      else if k.val + 1 ∈ positions then { c.nodes[k] with state := .online } else c.nodes[k] := by
  rw [Chain.markRead_node, Chain.markOff_node]
  by_cases off : k.val + 1 ∈ unread
  · rw [if_pos off, if_pos off, if_neg fun both => both.2 off]
  · simp only [off, not_false_eq_true, and_true, if_false]

/-- The IDENT of a start has ended with some nodes never read (R130). -/
theorem Rings.endsUnread {i : Fin 4} {left : Bool} {c : Chain} {s u : State} (h : Rings i left ringFields c s.notices s u)
    (few : s.notices.list.length ≤ 8) (idle : s.power.state ≠ .powering) (starts : c.mode.state = .starting)
    {unread : List Nat} (some' : unread ≠ []) :
    EndsUnread i c unread s (u.concludeIdent i (outPositions c.found) unread fun s => s.arriveRing i) := by
  obtain ⟨v, rings, conclude⟩ := h.concludes few (outPositions c.found) unread fun s => s.arriveRing i
  have few' : (unreadNotices s.notices i unread).list.length ≤ 8 := by
    rw [unreadNotices_eq]
    exact unreadFaults_length i _ few
  have mode : (c.markOff unread).mode.state = .starting := starts
  rw [conclude]
  by_cases halt : c.rejoin = .halt
  · rw [if_pos ⟨some', halt⟩]
    have failed := rings.fails few' idle (by rw [mode]; exact nofun)
    exact ⟨⟨fun no => absurd halt no, fun _ => ⟨fun k => by rw [failed.chain]; exact Chain.markOff_node _ _ _,
      by rw [failed.chain]; rfl, failed.notices⟩⟩, failed.others, failed.marked, failed.only⟩
  · rw [if_neg fun both => halt both.2]
    have arrived := (rings.update (f := Chain.markRead (outPositions c.found) unread) rfl).arrives idle
      (by rw [show ((c.markOff unread).markRead _ unread).mode = c.mode from rfl, starts]; exact nofun)
    refine ⟨⟨fun _ => ⟨fun k => ?_, by rw [arrived.chain]; rfl, arrived.notices⟩, fun no => absurd no halt⟩, arrived.others,
      arrived.marked, arrived.only⟩
    rw [arrived.chain]
    refine (Chain.markRead_markOff (outPositions c.found) unread c k).trans ?_
    simp only [mem_outPositions, Nat.succ_le_iff, Nat.zero_lt_succ, true_and]
    rfl

end Sys2Proof.Machine

/-! PROOFS. IDENT at a start: the outcomes (section 7.4). -/

namespace Sys2Proof.Machine

open Sys2Proof

/-- The slots of an IDENT of which every one is good give bins and do nothing else. -/
theorem Chain.readBins_good {ps : List Nat} {slots : List (BitVec 48)} (once : ps.Nodup) (long : slots.length = ps.length)
    (good : ∀ x ∈ slots, goodIdentReply x = true) (c : Chain) :
    (∀ k : Fin 60, (c.readBins (ps.zip slots)).nodes[k] = readNode (ps.zip slots) k c.nodes[k]) ∧
      c.readBins (ps.zip slots) = { c with nodes := (c.readBins (ps.zip slots)).nodes } := by
  have firsts : (ps.zip slots).map Prod.fst = ps := List.map_fst_zip (by omega)
  have seconds : (ps.zip slots).map Prod.snd = slots := List.map_snd_zip (by omega)
  obtain ⟨nodes, retries, rest⟩ := Chain.readBins_eq (by rw [firsts]; exact once) c
  rw [seconds, if_pos (badSlots_zero good)] at retries
  rw [retries] at rest
  exact ⟨nodes, rest⟩

section
variable {i : Fin 4} {s : State}

/-- An IDENT of a start that leaves a node unread is sent again, but for the third (R130). -/
theorem startIdentified_again {sent lost : Nat} {unread : List Nat} (some' : unread ≠ []) (again : sent < 3) :
    s.startIdentified i sent lost unread = s.updateChain i fun c =>
      ({ c with mode := .identifying (sent + 1) lost unread } : Chain).transmit .out (identFrame .out 0 c.found) :=
  if_pos ⟨some', again⟩

theorem startIdentified_lost {unread : List Nat} : s.startIdentified i 3 3 unread = s.giveUp i false := by
  rw [State.startIdentified, if_neg (by omega), if_pos rfl]

theorem startIdentified_ends {lost : Nat} {unread : List Nat} (notAll : lost < 3) :
    s.startIdentified i 3 lost unread =
      s.concludeIdent i (outPositions s.chains[i].found) unread fun s => s.arriveRing i := by
  rw [State.startIdentified, if_neg (by omega), if_neg (by omega)]

theorem startIdentified_read {sent lost : Nat} (notAll : lost < 3) : s.startIdentified i sent lost [] =
    (s.updateChain i (Chain.markRead (outPositions s.chains[i].found) [])).arriveRing i := by
  rw [State.startIdentified, if_neg fun both => both.1 rfl, if_neg (by omega), State.concludeIdent_nil]

variable {sent lost : Nat} {unread : List Nat} (mode : s.chains[i].mode = .identifying sent lost unread)
include mode

theorem identLost_starts : s.identLost i = (s.updateChain i fun c => c.retry 1).startIdentified i sent (lost + 1) unread := by
  rw [State.identLost, mode]

theorem identReturned_unclean {f : RingFrame} (unclean : frameClean f .ident .out s.chains[i].found = false) :
    s.identReturned i f = s.identLost i := by
  rw [State.identReturned, mode]
  exact if_neg (by rw [unclean]; exact Bool.false_ne_true)

theorem identReturned_clean {f : RingFrame} (clean : frameClean f .ident .out s.chains[i].found = true) :
    s.identReturned i f =
      (s.updateChain i (Chain.readBins ((outPositions s.chains[i].found).zip f.slots))).startIdentified i sent lost
        (stillUnread unread ((outPositions s.chains[i].found).zip f.slots)) := by
  rw [State.identReturned, mode]
  exact if_pos clean

/-- A clean IDENT of a start that leaves a node unread. -/
theorem identReturned_unread {f : RingFrame} (clean : frameClean f .ident .out s.chains[i].found = true)
    (few : s.chains[i].found ≤ 60) (inside : ∀ p ∈ unread, 1 ≤ p ∧ p ≤ s.chains[i].found) (some' : unreadAfter unread f ≠ [])
    {fields : List Field} (mem : .chains ∈ fields) :
    Rings i false fields (binsRead s.chains[i] f) s.notices s
        (s.updateChain i (Chain.readBins ((outPositions s.chains[i].found).zip f.slots))) ∧
      s.identReturned i f =
        (s.updateChain i (Chain.readBins ((outPositions s.chains[i].found).zip f.slots))).startIdentified i sent lost
          (unreadAfter unread f) := by
  have long : f.slots.length = s.chains[i].found := ((frameClean_iff few).1 clean).2
  have again := stillUnread_loop long inside few
  have bad : badSlots f.slots ≠ 0 := badSlots_of_unread (unread := unread) (ps := outPositions s.chains[i].found)
    (by rw [outPositions_length, long]) (fun p mem => mem_outPositions.2 (inside p mem)) (by rw [again]; exact some')
  have reads := s.chains[i].readBins_loop long bad
  refine ⟨?_, by rw [identReturned_clean mode clean, again]⟩
  exact ((Rings.refl fields i s).update (by rw [reads]; rfl) mem).of_eq reads

/-- A clean IDENT of a start with every slot good: the record, before its arrival in RING. -/
theorem identReturned_good {f : RingFrame} (clean : frameClean f .ident .out s.chains[i].found = true)
    (few : s.chains[i].found ≤ 60) (inside : ∀ p ∈ unread, 1 ≤ p ∧ p ≤ s.chains[i].found) (notAll : lost < 3)
    (good : ∀ x ∈ f.slots, goodIdentReply x = true) {fields : List Field} (mem : .chains ∈ fields) :
    ∃ (c : Chain) (u : State), Rings i false fields c s.notices s u ∧ s.identReturned i f = u.arriveRing i ∧
      c = { s.chains[i] with nodes := c.nodes } ∧
      (∀ (k : Fin 60) (x : BitVec 48), k.val < s.chains[i].found → f.slots[k.val]? = some x →
        c.nodes[k] = { s.chains[i].nodes[k] with bin := slotBin x, state := .online }) ∧
      ∀ k : Fin 60, s.chains[i].found ≤ k.val → c.nodes[k] = s.chains[i].nodes[k] := by
  have long : f.slots.length = s.chains[i].found := ((frameClean_iff few).1 clean).2
  have long' : f.slots.length = (outPositions s.chains[i].found).length := by rw [outPositions_length, long]
  have none' := stillUnread_nil long' (fun p mem => mem_outPositions.2 (inside p mem)) good
  obtain ⟨nodes, rest⟩ := Chain.readBins_good (outPositions_nodup _) long' good s.chains[i]
  have find := fun k => zip_outPositions_find long (k := k)
  have run := identReturned_clean mode clean
  rw [none', startIdentified_read notAll] at run
  generalize (outPositions s.chains[i].found).zip f.slots = replies at *
  have read := (Rings.refl fields i s).update (f := Chain.readBins replies) (by rw [rest]) mem
  have marked := read.update (f := Chain.markRead (outPositions s.chains[i].found) []) rfl mem
  have found : (s.updateChain i (Chain.readBins replies)).chains[i].found = s.chains[i].found := by rw [read.chain, rest]
  rw [found] at run
  have node : ∀ k : Fin 60, ((s.chains[i].readBins replies).markRead (outPositions s.chains[i].found) []).nodes[k] =
      if k.val < s.chains[i].found then { readNode replies k s.chains[i].nodes[k] with state := .online }
      else readNode replies k s.chains[i].nodes[k] := fun k => by
    rw [Chain.markRead_node, nodes]
    refine if_congr ?_ rfl rfl
    rw [mem_outPositions]
    exact ⟨fun both => both.1.2, fun below => ⟨⟨Nat.succ_pos _, below⟩, List.not_mem_nil⟩⟩
  refine ⟨_, _, marked, run, ?_, fun k x below slot => ?_, fun k above => ?_⟩
  · rw [Chain.markRead, Chain.mapNodes, rest]
  · rw [node, if_pos below, readNode, find, slot, Option.map_some]
    dsimp only
    rw [if_pos (good x (List.mem_of_getElem? slot))]
  · rw [node, if_neg (by omega), readNode, find, List.getElem?_eq_none (by omega), Option.map_none]

end

/-- Settles O43: the formats of an IDENT, and what each outcome of it leaves. -/
theorem identAtAStart : Obligations.IdentAtAStart := by
  refine ⟨⟨identSlot, slotOf_checked _, (slotOf_high 0 0 40).trans (extract_all _), fun e hop slots => rfl, fun x => ?_,
      fun x => rfl⟩, fun i sent lost unread s awake mode fewer most few inside =>
    ⟨fun f clean good idle => ?_, fun some' again => ?_, fun f unclean => ?_, fun f clean again some' => ?_,
      fun last short => ⟨fun two rejoin => ?_, fun idle => ⟨fun two halt => ?_, fun notTwo some' => ?_,
        fun f clean some' => ?_⟩⟩⟩⟩
  · rw [goodIdentReply, Bool.and_eq_true, slotHolds_iff, bne_iff_ne]
  all_goals have starting : s.chains[i].mode.state = .starting := by rw [mode]; rfl
  · obtain ⟨c, u, rings, run, rest, low, high⟩ := identReturned_good mode clean few inside (by omega) good
      (fields := [.chains, .composer]) (by decide)
    have same : c.mode = s.chains[i].mode := by rw [rest]
    have arrived := rings.arrives idle (by rw [same, starting]; exact nofun)
    have run' := exec_identReturned awake i f
    rw [run] at run'
    generalize u.arriveRing i = t at *
    refine ⟨t, run', by rw [arrived.chain], by rw [arrived.chain], fun k x below slot => ?_, fun k above => ?_, ?_,
      arrived.others, arrived.marked, arrived.only⟩
    · rw [arrived.chain]
      exact low k x below slot
    · rw [arrived.chain]
      exact high k above
    · rw [arrived.chain, rest]
  · have run := exec_identLost awake i
    rw [identLost_starts mode, startIdentified_again some' again] at run
    have rings := ((Rings.refl [.chains] i s).update (f := fun c => c.retry 1) rfl).update (f := fun c =>
      ({ c with mode := .identifying (sent + 1) (lost + 1) unread } : Chain).transmit .out (identFrame .out 0 c.found))
      starting
    exact ⟨_, run, rings.chain, rings.others, rings.only⟩
  · rw [exec_identReturned awake, exec_identLost awake, identReturned_unclean mode unclean]
  · obtain ⟨rings, run⟩ := identReturned_unread mode clean few inside some' (fields := [.chains]) (by decide)
    have run' := exec_identReturned awake i f
    rw [run, startIdentified_again some' again] at run'
    have sent' := rings.update (f := fun c =>
      ({ c with mode := .identifying (sent + 1) lost (unreadAfter unread f) } : Chain).transmit .out (identFrame .out 0 c.found))
      starting
    exact ⟨_, run', sent'.chain, sent'.others, sent'.only⟩
  · have run := exec_identLost awake i
    rw [identLost_starts mode, last, two, startIdentified_lost] at run
    exact ⟨_, run, ((Rings.refl ringFields i s).update (f := fun c => c.retry 1) rfl).givesUp short starting rejoin⟩
  · have run := exec_identLost awake i
    rw [identLost_starts mode, last, two, startIdentified_lost] at run
    exact ⟨_, run, ((Rings.refl ringFields i s).update (f := fun c => c.retry 1) rfl).halts short starting halt idle⟩
  · have run := exec_identLost awake i
    have rings := (Rings.refl ringFields i s).update (f := fun c => c.retry 1) rfl
    rw [identLost_starts mode, last, startIdentified_ends (by omega), rings.chain] at run
    exact ⟨_, run, rings.endsUnread short idle starting some'⟩
  · obtain ⟨rings, run⟩ := identReturned_unread mode clean few inside some' (fields := ringFields) (by decide)
    have run' := exec_identReturned awake i f
    rw [run, last, startIdentified_ends (by omega), rings.chain] at run'
    exact ⟨_, run', rings.endsUnread short idle starting some'⟩

end Sys2Proof.Machine

/-! PROOFS. The probes of a LOCATE (section 7.6). -/

namespace Sys2Proof.Machine

open Sys2Proof

section
variable {i : Fin 4} {s : State} {probe : LocateProbe} {second fromRing : Bool}
  (mode : s.chains[i].mode = .locating probe second fromRing)
include mode

theorem probeReturned_locates {hop : Nat} : s.probeReturned i probe.sender (probeFrame probe.sender hop) =
    s.probeReached i probe fromRing := by
  rw [State.probeReturned, if_pos (frameClean_probe _ _), mode]
  exact if_pos rfl

theorem probeLost_locates : s.probeLost i probe.sender = s.probeMissed i probe second fromRing := by
  rw [State.probeLost, mode]
  exact if_pos rfl

theorem exec_probeReturned_locates (awake : s.resetLow = false) :
    exec (.probeReturned i probe.sender (probeFrame probe.sender 0)) s = .next (s.probeReached i probe fromRing) :=
  (exec_probeReturned awake i _ _).trans (congrArg _ (probeReturned_locates mode))

theorem exec_probeLost_locates (awake : s.resetLow = false) :
    exec (.probeLost i probe.sender) s = .next (s.probeMissed i probe second fromRing) :=
  (exec_probeLost awake i _).trans (congrArg _ (probeLost_locates mode))

/-- The next probe of a LOCATE is sent. -/
theorem probes_sent (next : LocateProbe) (again : Bool) : Rings i false [.chains]
    (Chain.probe next again fromRing s.chains[i]) s.notices s (s.updateChain i (Chain.probe next again fromRing)) :=
  (Rings.refl [.chains] i s).update (f := Chain.probe next again fromRing) (by rw [mode]; rfl)

end

theorem probeReturned_unclean {s : State} {i : Fin 4} {e : End} {f : RingFrame} (unclean : frameClean f .probe e 0 = false) :
    s.probeReturned i e f = s.probeLost i e :=
  if_neg (by rw [unclean]; exact Bool.false_ne_true)

section
variable {s : State} {i : Fin 4} {probe : LocateProbe} {second fromRing : Bool}
  (mode : s.chains[i].mode = .locating probe second fromRing) (idle : s.power.state ≠ .powering)
  (short : s.notices.list.length ≤ 8)
include mode idle short

/-- A LOCATE that fails outside POWERING (R142). -/
theorem locate_fails : Rings i true ringFields (failedChain s.chains[i])
    (s.notices.after .chainState (.chain i) (.chain .failed)) s (s.failChain i) :=
  (Rings.refl ringFields i s).fails short idle (by rw [mode]; exact nofun)

/-- A LOCATE that has found no node (R136). -/
theorem located_none : Rings i true ringFields (failedChain s.chains[i])
    (s.notices.after .chainState (.chain i) (.chain .failed)) s (s.located i 0 0) := by
  rw [State.located, if_pos ⟨rfl, rfl⟩]
  exact locate_fails mode idle short

/-- A LOCATE that has found more nodes than a chain can have (R136). -/
theorem located_many {j m : Nat} (many : 60 < j + m) : Rings i true ringFields (failedChain s.chains[i])
    ((s.notices.after .countMismatch (.chain i) (.number 61)).after .chainState (.chain i) (.chain .failed)) s
      (s.located i j m) := by
  rw [State.located, if_neg (by omega), if_pos many]
  exact ((Rings.refl ringFields i s).raise short .countMismatch (.chain i) (.number 61)).fails (Notices.after_length short _ _ _)
    idle (by rw [mode]; exact nofun)

end

/-- Settles O46, probe by probe. -/
theorem probesOfALocate : Obligations.ProbesOfALocate := by
  refine fun i s awake => ⟨fun second mode => ?_, fun second mode idle short => ?_, fun fromRing => ⟨fun mode => ?_, fun mode => ?_⟩,
    fun hop second fromRing low high mode => ⟨fun below => ?_, fun last => ?_, fun first => ?_, fun twice => ?_⟩,
    fun j hop second fromRing low high mode => ⟨fun below => ?_, fun first => ?_, fun last some' idle short => ?_,
      fun twice idle short => ⟨fun none' => ?_, fun many => ?_⟩⟩,
    fun e f unclean => ?_, fun e hop => rfl⟩
  · have run := exec_probeReturned_locates mode awake
    have rings := (Rings.refl [.chains, .composer] i s).leave (f := fun c => { c with mode := .ring none })
      (by rw [mode]; exact nofun)
    exact ⟨_, run, rings.chain, rings.others, rings.marked, rings.only⟩
  · have run := exec_probeReturned_locates mode awake
    have rings := locate_fails mode idle short
    exact ⟨_, run, rings.chain, rings.notices, rings.others, rings.marked, rings.only⟩
  · have run := exec_probeLost_locates mode awake
    have rings := probes_sent mode .whole true
    exact ⟨_, run, rings.chain, rings.others, rings.only⟩
  · have run := exec_probeLost_locates mode awake
    have rings := probes_sent mode (.fromOut 1) false
    exact ⟨_, run, rings.chain, rings.others, rings.only⟩
  · have run := exec_probeReturned_locates mode awake
    rw [State.probeReached, if_neg (by omega)] at run
    have rings := probes_sent mode (.fromOut (hop + 1)) false
    exact ⟨_, run, rings.chain, rings.others, rings.only⟩
  · have run := exec_probeReturned_locates mode awake
    rw [State.probeReached, if_pos (by omega), last] at run
    have rings := probes_sent mode (.fromIn 60 1) false
    exact ⟨_, run, rings.chain, rings.others, rings.only⟩
  · have run := exec_probeLost_locates mode awake
    rw [first] at run
    have rings := probes_sent mode (.fromOut hop) true
    exact ⟨_, run, rings.chain, rings.others, rings.only⟩
  · have run := exec_probeLost_locates mode awake
    rw [twice] at run
    have rings := probes_sent mode (.fromIn (hop - 1) 1) false
    exact ⟨_, run, rings.chain, rings.others, rings.only⟩
  · have run := exec_probeReturned_locates mode awake
    rw [State.probeReached, if_neg (by omega)] at run
    have rings := probes_sent mode (.fromIn j (hop + 1)) false
    exact ⟨_, run, rings.chain, rings.others, rings.only⟩
  · have run := exec_probeLost_locates mode awake
    rw [first] at run
    have rings := probes_sent mode (.fromIn j hop) true
    exact ⟨_, run, rings.chain, rings.others, rings.only⟩
  · have run := exec_probeReturned_locates mode awake
    rw [State.probeReached, if_pos (by omega)] at run
    have rings := located_many mode idle short (j := j) (m := hop) (by omega)
    exact ⟨_, run, rings.chain, rings.notices, rings.others, rings.marked, rings.only⟩
  · obtain ⟨rfl, only⟩ : j = 0 ∧ hop - 1 = 0 := by omega
    have run := exec_probeLost_locates mode awake
    rw [twice] at run
    have missed : s.probeMissed i (.fromIn 0 hop) true fromRing = s.located i 0 (hop - 1) := rfl
    rw [missed, only] at run
    have rings := located_none mode idle short
    exact ⟨_, run, rings.chain, rings.notices, rings.others, rings.marked, rings.only⟩
  · have run := exec_probeLost_locates mode awake
    rw [twice] at run
    have rings := located_many mode idle short many
    exact ⟨_, run, rings.chain, rings.notices, rings.others, rings.marked, rings.only⟩
  · rw [exec_probeReturned awake, exec_probeLost awake, probeReturned_unclean unclean]

end Sys2Proof.Machine

/-! PROOFS. The enumeration of the sides of a SPLIT (section 7.6.1). -/

namespace Sys2Proof.Machine

open Sys2Proof

/-! ## What the model's words for a side are in those of the statement -/

theorem Split.positions_eq (c : Chain) (x : Split) (e : End) : x.positions c.found e = sidePositions c x e := by
  cases e <;> rfl

theorem sidePositions_nodup (c : Chain) (x : Split) (e : End) : (sidePositions c x e).Nodup := by
  cases e with
  | out => exact List.nodup_range'
  | inn => exact List.nodup_reverse.2 List.nodup_range'

theorem sidePositions_length (c : Chain) (x : Split) (e : End) : (sidePositions c x e).length = x.reach e := by
  cases e with
  | out => exact List.length_range'
  | inn => exact List.length_reverse.trans List.length_range'

/-- The slots of a clean IDENT of a side, of which some is bad. -/
theorem Chain.readBins_side (c : Chain) {ps : List Nat} {f : RingFrame} (once : ps.Nodup) (long : f.slots.length = ps.length)
    (some' : badSlots f.slots ≠ 0) : c.readBins (ps.zip f.slots) = sideRead c ps f := by
  have firsts : (ps.zip f.slots).map Prod.fst = ps := List.map_fst_zip (by omega)
  have seconds : (ps.zip f.slots).map Prod.snd = f.slots := List.map_snd_zip (by omega)
  obtain ⟨nodes, retries, rest⟩ := Chain.readBins_eq (by rw [firsts]; exact once) c
  rw [seconds, if_neg some'] at retries
  have all : (c.readBins (ps.zip f.slots)).nodes = (sideRead c ps f).nodes := by
    refine Vector.ext fun k hk => (nodes ⟨k, hk⟩).trans ?_
    simp only [sideRead, Vector.getElem_ofFn]
    unfold readNode
    cases (ps.zip f.slots).find? fun y => y.1 == k + 1 <;> rfl
  rw [rest, retries, all]
  rfl

section
variable {i : Fin 4} {s : State} {x : Split} (mode : s.chains[i].mode = .split x)
include mode

/-- A frame of a side is sent, with the side's phase. -/
theorem sideSent {left : Bool} {fields : List Field} {c : Chain} {n : Notices} {u : State} (h : Rings i left fields c n s u)
    (same : c.mode.state = s.chains[i].mode.state) {f : Chain → Chain} (splits : ∀ c, (f c).mode.state = .split)
    (mem : .chains ∈ fields := by decide) : Rings i left fields (f c) n s (u.updateChain i f) :=
  h.update (by rw [same, splits, mode]; rfl) mem

/-! ## COUNT of a side (R138) -/

section
variable {e : End} {failures : Nat} (counting : x.phase = .counting e failures)
include counting

theorem countLost_side : s.countLost i = s.sideCountFailed i x e failures := by
  rw [State.countLost, mode]
  dsimp only
  rw [counting]

theorem countReturned_side {f : RingFrame} : s.countReturned i f =
    if countReply f e = some (x.returns s.chains[i].found e) then
      s.updateChain i fun c => Chain.identifySide x e 1 0 (x.positions c.found e) c
    else s.sideCountFailed i x e failures := by
  rw [State.countReturned, mode]
  dsimp only
  rw [counting]

end

/-! ## IDENT of a side (R138) -/

section
variable {e : End} {sent lost : Nat} {unread : List Nat} (identifying : x.phase = .identifying e sent lost unread)
include identifying

theorem identLost_side : s.identLost i = (s.updateChain i fun c => c.retry 1).sideIdentified i x e sent (lost + 1) unread := by
  rw [State.identLost, mode]
  dsimp only
  rw [identifying]

theorem identReturned_side_unclean {f : RingFrame} (unclean : frameClean f .ident e (x.reach e) = false) :
    s.identReturned i f = s.identLost i := by
  rw [State.identReturned, mode]
  dsimp only
  rw [identifying]
  exact if_neg (by rw [unclean]; exact Bool.false_ne_true)

theorem identReturned_side {f : RingFrame} (clean : frameClean f .ident e (x.reach e) = true) :
    s.identReturned i f =
      (s.updateChain i (Chain.readBins ((sidePositions s.chains[i] x e).zip f.slots))).sideIdentified i x e sent lost
        (unreadOfSide (sidePositions s.chains[i] x e) unread f) := by
  rw [State.identReturned, mode]
  dsimp only
  rw [identifying, ← Split.positions_eq]
  exact if_pos clean

end

end

section
variable {i : Fin 4} {u : State} {x : Split} {e : End}

theorem sideIdentified_again {sent lost : Nat} {unread : List Nat} (some' : unread ≠ []) (again : sent < 3) :
    u.sideIdentified i x e sent lost unread = u.updateChain i (Chain.identifySide x e (sent + 1) lost unread) :=
  if_pos ⟨some', again⟩

theorem sideIdentified_lost {unread : List Nat} : u.sideIdentified i x e 3 3 unread = u.failChain i := by
  rw [State.sideIdentified, if_neg (by omega), if_pos rfl]

theorem sideIdentified_ends {lost : Nat} {unread : List Nat} (notAll : lost < 3) : u.sideIdentified i x e 3 lost unread =
    u.concludeIdent i (sidePositions u.chains[i] x e) unread fun s => s.nextSide i x e := by
  rw [State.sideIdentified, if_neg (by omega), if_neg (by omega), Split.positions_eq]

theorem sideIdentified_read {sent lost : Nat} (notAll : lost < 3) : u.sideIdentified i x e sent lost [] =
    (u.updateChain i (Chain.markRead (sidePositions u.chains[i] x e) [])).nextSide i x e := by
  rw [State.sideIdentified, if_neg fun both => both.1 rfl, if_neg (by omega), State.concludeIdent_nil, Split.positions_eq]

end

/-! ## After a side (R137, R138) -/

theorem Chain.settleSplit_eq (x : Split) (c : Chain) : Chain.settleSplit x c = splitSettled c x := rfl

section
variable {i : Fin 4} {left : Bool} {fields : List Field} {c : Chain} {n : Notices} {s u : State}
  (h : Rings i left fields c n s u) (splits : c.mode.state = .split) (x : Split)
include h splits

/-- The IN side follows. -/
theorem Rings.nextSide (mem : .chains ∈ fields := by decide) (more : 0 < x.inReach) :
    Rings i left fields { c with
      mode := .split { x with phase := .counting .inn 0 }
      sent := { sender := .inn, frame := countFrame .inn x.inReach c.found } :: c.sent } n s (u.nextSide i x .out) := by
  rw [State.nextSide, if_pos ⟨rfl, more⟩]
  exact h.update (f := Chain.countSide x .inn 0) (by rw [splits]; rfl) mem

/-- The entry to SPLIT is finished, but for its report. -/
theorem Rings.settles (few : n.list.length ≤ 8)
    (mem : .chains ∈ fields ∧ .notices ∈ fields ∧ .noticeLow ∈ fields := by decide) :
    Rings i left fields (splitSettled c x) (n.after .chainState (.chain i)
        (.chain (.split { lastOut := x.outReach, firstIn := c.found - x.inReach + 1 }))) s
      ((u.updateChain i (Chain.settleSplit x)).raiseChain i (.split (x.break u.chains[i].found))) := by
  have settled := (h.update (f := Chain.settleSplit x) (by rw [splits]; rfl) mem.1).raise few .chainState (.chain i)
    (.chain (.split (x.break u.chains[i].found))) mem.2
  rw [h.chain] at settled ⊢
  exact settled

theorem Rings.finishes (few : n.list.length ≤ 8) (idle : s.power.state ≠ .powering)
    (mem : .chains ∈ fields ∧ .notices ∈ fields ∧ .noticeLow ∈ fields := by decide) (free : .power ∉ fields := by decide) :
    Rings i left fields (splitSettled c x) (n.after .chainState (.chain i)
        (.chain (.split { lastOut := x.outReach, firstIn := c.found - x.inReach + 1 }))) s (u.finishSplit i x) := by
  have settled := h.settles splits x few mem
  rw [State.finishSplit, State.chainArrived_unawaited (by rw [settled.power free]; exact idle)]
  exact settled

end

theorem State.nextSide_last {u : State} {i : Fin 4} {x : Split} {e : End} (last : ¬ (e = .out ∧ 0 < x.inReach)) :
    u.nextSide i x e = u.finishSplit i x := if_neg last

/-- The IDENT of a side has ended with some nodes never read (R130, R138). -/
theorem Rings.sideEndsUnread {i : Fin 4} {c : Chain} {s u : State} (h : Rings i false ringFields c s.notices s u)
    (splits : c.mode.state = .split) (few : s.notices.list.length ≤ 8) (idle : s.power.state ≠ .powering) (x : Split) (e : End)
    {unread : List Nat} (some' : unread ≠ []) :
    SideEndsUnread i x e c unread s (u.concludeIdent i (sidePositions c x e) unread fun s => s.nextSide i x e) := by
  obtain ⟨v, rings, conclude⟩ := h.concludes few (sidePositions c x e) unread fun s => s.nextSide i x e
  have few' : (unreadNotices s.notices i unread).list.length ≤ 8 := by
    rw [unreadNotices_eq]
    exact unreadFaults_length i _ few
  rw [conclude]
  by_cases halt : c.rejoin = .halt
  · rw [if_pos ⟨some', halt⟩]
    have failed := rings.fails few' idle (by rw [show (c.markOff unread).mode = c.mode from rfl, splits]; exact nofun)
    exact ⟨⟨fun no => absurd halt no, fun _ => ⟨fun k => by rw [failed.chain]; exact Chain.markOff_node _ _ _,
      by rw [failed.chain]; rfl, failed.marked, failed.notices⟩⟩, failed.others, failed.only⟩
  · rw [if_neg fun both => halt both.2]
    have marked := rings.update (f := Chain.markRead (sidePositions c x e) unread) rfl
    have node := Chain.markRead_markOff (sidePositions c x e) unread c
    have rest : (c.markOff unread).markRead (sidePositions c x e) unread =
        { c with nodes := ((c.markOff unread).markRead (sidePositions c x e) unread).nodes } := rfl
    generalize (c.markOff unread).markRead (sidePositions c x e) unread = d at *
    have split' : d.mode.state = .split := by rw [rest]; exact splits
    by_cases more : e = .out ∧ 0 < x.inReach
    · obtain ⟨rfl, more⟩ := more
      have next := marked.nextSide split' x (by decide) more
      refine ⟨⟨fun _ => ⟨fun k => ?_, next.marks, fun _ => ⟨?_, next.notices⟩, fun last => absurd ⟨rfl, more⟩ last⟩,
        fun no => absurd no halt⟩, next.others, next.only⟩
      · rw [next.chain]
        exact node k
      · rw [next.chain, rest]
    · have next := marked.finishes split' x few' idle
      rw [State.nextSide_last more]
      have found : d.found = c.found := by rw [rest]
      rw [found] at next
      refine ⟨⟨fun _ => ⟨fun k => ?_, next.marks, fun yes => absurd yes more, fun _ => ⟨?_, next.notices⟩⟩,
        fun no => absurd no halt⟩, next.others, next.only⟩
      · rw [next.chain]
        exact node k
      · rw [next.chain, rest]
        rfl

end Sys2Proof.Machine

/-! PROOFS. The end of a LOCATE and the entry to SPLIT (sections 7.6 and 7.6.1). -/

namespace Sys2Proof.Machine

open Sys2Proof

/-! ## The end of a LOCATE (R136, R137) -/

section
variable {i : Fin 4} {j m : Nat} {fromRing : Bool} {event : Instr} {s : State} (last : LastProbe i j m fromRing event s)
include last

theorem LastProbe.locating : s.chains[i].mode.state = .locating := by
  rcases last with ⟨-, mode⟩ | ⟨-, -, second, mode⟩ <;> rw [mode] <;> rfl

theorem LastProbe.located (awake : s.resetLow = false) : exec event s = .next (s.located i j m) := by
  rcases last with ⟨rfl, mode⟩ | ⟨rfl, rfl, second, mode⟩
  · exact exec_probeLost_locates mode awake
  · refine (exec_probeReturned_locates mode awake).trans ?_
    rw [State.probeReached, if_pos (Nat.le_refl 60)]

theorem LastProbe.enters (awake : s.resetLow = false) (some' : 0 < j + m) (few : j + m ≤ 60) :
    exec event s = .next (s.enterSplit i j m) := by
  rw [last.located awake, State.located, if_neg (by omega), if_neg (by omega)]

end

/-- The operation of a side that has just been entered. -/
abbrev entered (j m : Nat) : Split := { outReach := j, inReach := m, phase := .driving .idle .idle [], restore := .stopped }

/-- The records on entry to SPLIT (R137, 3 and 4). -/
theorem Chain.split_eachNode (n : Nat) (x : Split) (renew : Bool) (c : Chain) (k : Fin 60) :
    (Chain.split n x renew c).nodes[k] = if n ≤ k.val then { c.nodes[k] with state := .absent }
      else if x.outReach ≤ k.val ∧ k.val + 1 ≤ n - x.inReach then { c.nodes[k] with state := .unreachable }
      else if renew then { c.nodes[k] with state := .suspect, badReplies := 0, goodRun := 0 } else c.nodes[k] := by
  rw [Chain.split_node, splitNode]
  simp only [Nat.lt_succ_iff]

section
variable {i : Fin 4} {s : State} (locating : s.chains[i].mode.state = .locating) {j m : Nat}
include locating

/-- The record as it enters SPLIT. -/
theorem Rings.splits {left : Bool} {fields : List Field} {n : Notices} {u : State} (h : Rings i left fields s.chains[i] n s u)
    (count : Nat) (x : Split) (renew : Bool) (mem : .chains ∈ fields ∧ .composer ∈ fields := by decide) :
    Rings i true fields (Chain.split count x renew s.chains[i]) n s (u.updateChain i (Chain.split count x renew)) :=
  h.leave (f := Chain.split count x renew) (by rw [locating]; exact nofun) mem

/-- A chain that has been enumerated, with reaches that fit its found count, drives its sides. -/
theorem enterSplit_drives (done : s.chains[i].ringDone = true) (fits : j + m ≤ s.chains[i].found)
    (idle : s.power.state ≠ .powering) (short : s.notices.list.length ≤ 8) :
    Rings i true ringFields (splitSettled (Chain.split s.chains[i].found (entered j m) false s.chains[i]) (entered j m))
      (s.notices.after .chainState (.chain i) (.chain (.split { lastOut := j, firstIn := s.chains[i].found - m + 1 }))) s
      (s.enterSplit i j m) := by
  have reference : s.chains[i].reference = s.chains[i].found := if_pos done
  have fit : ¬ s.chains[i].found < j + m := by omega
  have settled := ((Rings.refl ringFields i s).splits locating s.chains[i].found (entered j m) false).finishes rfl (entered j m)
    short idle
  have enters : s.enterSplit i j m =
      (s.updateChain i (Chain.split s.chains[i].found (entered j m) false)).finishSplit i (entered j m) := by
    simp only [State.enterSplit, reference, decide_eq_false fit, done, Bool.not_true, Bool.or_false, Bool.false_eq_true, if_false]
  rw [enters]
  exact settled

/-- Both sides are enumerated where the reaches exceed the reference count, or the chain has never been enumerated. -/
theorem enterSplit_counts (anew : s.chains[i].ringDone = false ∨ s.chains[i].reference < j + m)
    (short : s.notices.list.length ≤ 8) (fields : List Field) (mem : .chains ∈ fields ∧ .composer ∈ fields)
    (mem' : j + m ≤ s.chains[i].reference ∨ .notices ∈ fields ∧ .noticeLow ∈ fields) :
    Rings i true fields (Chain.countSide (entered j m) (if 0 < j then .out else .inn) 0
        (Chain.split (max s.chains[i].reference (j + m)) (entered j m) true s.chains[i]))
      (if s.chains[i].reference < j + m then s.notices.after .countMismatch (.chain i) (.number (j + m)) else s.notices) s
      (s.enterSplit i j m) := by
  by_cases more : s.chains[i].reference < j + m
  · have raised := (Rings.refl fields i s).raise short .countMismatch (.chain i) (.number (j + m))
      (mem'.resolve_left (by omega))
    have counted := (raised.splits locating (j + m) (entered j m) true mem).update
      (f := Chain.countSide (entered j m) (if 0 < j then .out else .inn) 0) rfl mem.1
    have enters : s.enterSplit i j m = ((s.raiseMismatch i (j + m)).updateChain i (Chain.split (j + m) (entered j m) true)).updateChain i
        (Chain.countSide (entered j m) (if 0 < j then .out else .inn) 0) := by
      simp only [State.enterSplit, decide_eq_true more, Bool.true_or, if_true]
    rw [if_pos more, Nat.max_eq_right (Nat.le_of_lt more), enters]
    exact counted
  · have done : s.chains[i].ringDone = false := anew.resolve_right more
    have counted := ((Rings.refl fields i s).splits locating s.chains[i].reference (entered j m) true mem).update
      (f := Chain.countSide (entered j m) (if 0 < j then .out else .inn) 0) rfl mem.1
    have enters : s.enterSplit i j m = (s.updateChain i (Chain.split s.chains[i].reference (entered j m) true)).updateChain i
        (Chain.countSide (entered j m) (if 0 < j then .out else .inn) 0) := by
      simp only [State.enterSplit, decide_eq_false more, done, Bool.not_false, Bool.or_true, Bool.false_eq_true, if_false, if_true]
    rw [if_neg more, Nat.max_eq_left (by omega), enters]
    exact counted

end

/-! ## A side (R138) -/

/-- The phase of a side's COUNT failure that is not the third in a row. -/
theorem sideCountFailed_again {i : Fin 4} {s : State} {x : Split} (mode : s.chains[i].mode = .split x) {e : End} {failures : Nat}
    (few : failures < 2) : Rings i false [.chains]
      (Chain.countSide x e (failures + 1) { s.chains[i] with retries := min 65535 (s.chains[i].retries + 1) }) s.notices s
      (s.sideCountFailed i x e failures) := by
  rw [State.sideCountFailed, if_pos few]
  exact sideSent mode ((Rings.refl [.chains] i s).update (f := fun c => c.retry 1) rfl) rfl
    (f := Chain.countSide x e (failures + 1)) fun _ => rfl

theorem sideCountFailed_third {i : Fin 4} {s : State} {x : Split} (mode : s.chains[i].mode = .split x) {e : End} {failures : Nat}
    (third : 2 ≤ failures) (idle : s.power.state ≠ .powering) (short : s.notices.list.length ≤ 8) : Rings i true ringFields
      (failedChain { s.chains[i] with retries := min 65535 (s.chains[i].retries + 1) })
      (s.notices.after .chainState (.chain i) (.chain .failed)) s (s.sideCountFailed i x e failures) := by
  rw [State.sideCountFailed, if_neg (by omega)]
  exact ((Rings.refl ringFields i s).update (f := fun c => c.retry 1) rfl).fails short idle
    (by change s.chains[i].mode.state ≠ _; rw [mode]; exact nofun)

/-- A COUNT that is not clean, or reads another value, is as a lost one. -/
theorem countReply_other {f : RingFrame} {e : End} {r : Nat} (other : frameClean f .count e 1 = true → ∀ y ∈ f.slots,
    slotHolds y = true → (y.extractLsb' 40 8).toNat ≠ r) : countReply f e ≠ some r := by
  unfold countReply
  split
  · next clean =>
    intro reads
    obtain ⟨y, first, position⟩ := Option.map_eq_some_iff.1 reads
    obtain ⟨first, holds⟩ := Option.filter_eq_some_iff.1 first
    exact other clean y (List.mem_of_mem_head? first) holds position
  · exact nofun

end Sys2Proof.Machine

/-! PROOFS. The IDENT of a side, and the entry to SPLIT in every outcome (sections 7.6 and 7.6.1). -/

namespace Sys2Proof.Machine

open Sys2Proof

theorem find_of_mem {replies : List (Nat × BitVec 48)} {y : Nat × BitVec 48} {p : Nat} (once : (replies.map Prod.fst).Nodup)
    (mem : y ∈ replies) (at' : y.1 = p) : (replies.find? fun z => z.1 == p) = some y := by
  induction replies with
  | nil => cases mem
  | cons z replies ih =>
    obtain ⟨fresh, once⟩ := List.nodup_cons.1 once
    rcases List.mem_cons.1 mem with rfl | later
    · exact List.find?_cons_of_pos (beq_iff_eq.2 at')
    · rw [List.find?_cons_of_neg]
      · exact ih once later
      · rw [beq_iff_eq]
        exact fun e => fresh (by rw [e, ← at']; exact List.mem_map_of_mem later)

section
variable {i : Fin 4} {s : State} {x : Split} (mode : s.chains[i].mode = .split x) {e : End} {sent lost : Nat} {unread : List Nat}
  (identifying : x.phase = .identifying e sent lost unread) (inside : ∀ p ∈ unread, p ∈ sidePositions s.chains[i] x e)
  {f : RingFrame} (clean : frameClean f .ident e (x.reach e) = true) (long : f.slots.length = x.reach e)
  {fields : List Field} (mem : .chains ∈ fields)
include mode identifying inside clean long mem

/-- A clean IDENT of a side that leaves a node unread. -/
theorem identReturned_side_unread (some' : unreadOfSide (sidePositions s.chains[i] x e) unread f ≠ []) :
    Rings i false fields (sideRead s.chains[i] (sidePositions s.chains[i] x e) f) s.notices s
        (s.updateChain i (Chain.readBins ((sidePositions s.chains[i] x e).zip f.slots))) ∧
      s.identReturned i f =
        (s.updateChain i (Chain.readBins ((sidePositions s.chains[i] x e).zip f.slots))).sideIdentified i x e sent lost
          (unreadOfSide (sidePositions s.chains[i] x e) unread f) := by
  have long' : f.slots.length = (sidePositions s.chains[i] x e).length := by rw [sidePositions_length, long]
  have reads := s.chains[i].readBins_side (sidePositions_nodup s.chains[i] x e) long' (badSlots_of_unread long' inside some')
  refine ⟨?_, identReturned_side mode identifying clean⟩
  exact ((Rings.refl fields i s).update (by rw [reads]; rfl) mem).of_eq reads

/-- A clean IDENT of a side with every slot good: the record, before the other side or the entry to SPLIT. -/
theorem identReturned_side_good (notAll : lost < 3) (good : ∀ b ∈ f.slots, goodIdentReply b = true) :
    ∃ (c : Chain) (u : State), Rings i false fields c s.notices s u ∧ s.identReturned i f = u.nextSide i x e ∧
      c = { s.chains[i] with nodes := c.nodes } ∧
      (∀ (k : Fin 60) (p : Nat × BitVec 48), p ∈ (sidePositions s.chains[i] x e).zip f.slots → p.1 = k.val + 1 →
        c.nodes[k] = { s.chains[i].nodes[k] with bin := slotBin p.2, state := .online }) ∧
      ∀ k : Fin 60, k.val + 1 ∉ sidePositions s.chains[i] x e → c.nodes[k] = s.chains[i].nodes[k] := by
  have long' : f.slots.length = (sidePositions s.chains[i] x e).length := by rw [sidePositions_length, long]
  have once := sidePositions_nodup s.chains[i] x e
  have none' : unreadOfSide (sidePositions s.chains[i] x e) unread f = [] := stillUnread_nil long' inside good
  obtain ⟨nodes, rest⟩ := Chain.readBins_good once long' good s.chains[i]
  have firsts : ((sidePositions s.chains[i] x e).zip f.slots).map Prod.fst = sidePositions s.chains[i] x e :=
    List.map_fst_zip (by omega)
  have member : ∀ p ∈ (sidePositions s.chains[i] x e).zip f.slots, p.1 ∈ sidePositions s.chains[i] x e ∧ p.2 ∈ f.slots :=
    fun p mem => List.of_mem_zip mem
  have run := identReturned_side mode identifying clean
  rw [none', sideIdentified_read notAll] at run
  generalize (sidePositions s.chains[i] x e).zip f.slots = replies at *
  have read := (Rings.refl fields i s).update (f := Chain.readBins replies) (by rw [rest]) mem
  have marked := read.update (f := Chain.markRead (sidePositions s.chains[i] x e) []) rfl mem
  have same : sidePositions (s.updateChain i (Chain.readBins replies)).chains[i] x e = sidePositions s.chains[i] x e := by
    rw [read.chain, rest]
    rfl
  rw [same] at run
  refine ⟨_, _, marked, run, by rw [Chain.markRead, Chain.mapNodes, rest], fun k p mem at' => ?_, fun k outside => ?_⟩
  · obtain ⟨here, slot⟩ := member p mem
    have find := find_of_mem (by rw [firsts]; exact once) mem at'
    rw [Chain.markRead_node, nodes, if_pos ⟨at' ▸ here, List.not_mem_nil⟩, readNode_some find, if_pos (good _ slot)]
  · have missing : (replies.find? fun y => y.1 == k.val + 1) = none :=
      List.find?_eq_none.2 fun p mem is => outside (beq_iff_eq.1 is ▸ (member p mem).1)
    rw [Chain.markRead_node, nodes, if_neg fun both => outside both.1, readNode_none missing]

end

/-- The COUNT of a side: sent on as IDENT, sent again, or failed (R138). -/
theorem sideCounts {i : Fin 4} {s : State} {x : Split} (mode : s.chains[i].mode = .split x) {e : End} {failures : Nat}
    (counting : x.phase = .counting e failures) (reach : x.outReach + x.inReach ≤ s.chains[i].found)
    (few : s.chains[i].found ≤ 60) :
    s.countReturned i (countFrame e 0 (x.returns s.chains[i].found e)) =
        s.updateChain i (fun c => Chain.identifySide x e 1 0 (x.positions c.found e) c) ∧
      ∀ f : RingFrame, countReply f e ≠ some (x.returns s.chains[i].found e) →
        s.countReturned i f = s.sideCountFailed i x e failures := by
  have small : x.returns s.chains[i].found e ≤ 255 := by
    cases e <;> simp only [Split.returns] <;> omega
  refine ⟨?_, fun f other => ?_⟩
  · rw [countReturned_side mode counting]
    exact if_pos (countReply_sent small e 0)
  · rw [countReturned_side mode counting, if_neg other]

end Sys2Proof.Machine

/-! PROOFS. The end of a LOCATE, with every outcome of the enumeration of its sides (sections 7.6 and 7.6.1). -/

namespace Sys2Proof.Machine

open Sys2Proof

/-- Settles O47: the chain drives its sides, or enumerates them first. -/
theorem locateEntersSplit : Obligations.LocateEntersSplit := by
  refine ⟨fun i j m fromRing event s awake last some' fits few done idle short => ?_,
    fun i j m fromRing event s awake last some' fits few expected short anew => ?_,
    fun i x e s awake mode few reaches idle short => ⟨fun failures counting => ⟨?_, fun again => ?_, fun third => ?_,
      fun f other => ?_⟩, fun sent lost unread identifying fewer most inside => ⟨fun some' again => ?_, fun third two => ?_,
        fun third notTwo some' => ?_, fun f unclean => ?_, fun f clean some' => ⟨fun again => ?_, fun third => ?_⟩⟩,
      fun sent lost unread f identifying fewer most inside long clean good => ?_⟩⟩
  · have rings := enterSplit_drives last.locating done fits idle short
    have run := last.enters awake some' (by omega)
    generalize s.enterSplit i j m = t at *
    refine ⟨t, run, ⟨by rw [rings.chain]; rfl, fun k => ?_, rings.notices⟩, rings.others, rings.marked, rings.only⟩
    rw [rings.chain]
    exact Chain.split_eachNode _ _ _ _ _
  · have run := last.enters awake some' fits
    have rings := enterSplit_counts last.locating anew short ringFields (by decide) (.inr (by decide))
    have low : j + m ≤ s.chains[i].reference → (s.enterSplit i j m).noticeLow = s.noticeLow := fun within =>
      (enterSplit_counts last.locating anew short [.chains, .composer] (by decide) (.inl within)).only.field .noticeLow
    generalize s.enterSplit i j m = t at *
    refine ⟨t, run, ?_, fun k => ?_, fun more => by rw [rings.notices]; exact if_pos more,
      fun within => ⟨by rw [rings.notices]; exact if_neg (Nat.not_lt.2 within), low within⟩, rings.others, rings.marked, rings.only⟩
    · rw [rings.chain]
      by_cases out : 0 < j
      · simp only [if_pos out]
        rfl
      · simp only [if_neg out]
        rfl
    · rw [rings.chain]
      exact Chain.split_eachNode _ _ _ _ _
  · have run := exec_countReturned awake i (countFrame e 0 (x.returns s.chains[i].found e))
    rw [(sideCounts mode counting reaches few).1] at run
    have rings := sideSent mode (Rings.refl [.chains] i s) rfl (f := fun c => Chain.identifySide x e 1 0 (x.positions c.found e) c)
      fun _ => rfl
    exact ⟨_, run, rings.chain, rings.others, rings.only⟩
  · have run := exec_countLost awake i
    rw [countLost_side mode counting] at run
    have rings := sideCountFailed_again mode (e := e) again
    exact ⟨_, run, rings.chain, rings.others, rings.only⟩
  · have run := exec_countLost awake i
    rw [countLost_side mode counting] at run
    have rings := sideCountFailed_third mode (e := e) third idle short
    exact ⟨_, run, rings.chain, rings.notices, rings.others, rings.marked, rings.only⟩
  · rw [exec_countReturned awake, exec_countLost awake, countLost_side mode counting,
      (sideCounts mode counting reaches few).2 f (countReply_other other)]
  · have run := exec_identLost awake i
    rw [identLost_side mode identifying, sideIdentified_again some' again] at run
    have rings := sideSent mode ((Rings.refl [.chains] i s).update (f := fun c => c.retry 1) rfl) rfl
      (f := Chain.identifySide x e (sent + 1) (lost + 1) unread) fun _ => rfl
    exact ⟨_, run, rings.chain, rings.others, rings.only⟩
  · have run := exec_identLost awake i
    rw [identLost_side mode identifying, third, two, sideIdentified_lost] at run
    have rings := ((Rings.refl ringFields i s).update (f := fun c => c.retry 1) rfl).fails short idle
      (by change s.chains[i].mode.state ≠ _; rw [mode]; exact nofun)
    exact ⟨_, run, rings.chain, rings.notices, rings.others, rings.marked, rings.only⟩
  · have run := exec_identLost awake i
    have rings := (Rings.refl ringFields i s).update (f := fun c => c.retry 1) rfl
    rw [identLost_side mode identifying, third, sideIdentified_ends (by omega), rings.chain] at run
    exact ⟨_, run, rings.sideEndsUnread (by change s.chains[i].mode.state = _; rw [mode]; rfl) short idle x e some'⟩
  · rw [exec_identReturned awake, exec_identLost awake, identReturned_side_unclean mode identifying unclean]
  · have long : f.slots.length = x.reach e := ((frameClean_iff (by cases e <;> dsimp only <;> omega)).1 clean).2
    obtain ⟨rings, reads⟩ := identReturned_side_unread mode identifying inside clean long (fields := [.chains]) (by decide) some'
    have run := exec_identReturned awake i f
    rw [reads, sideIdentified_again some' again] at run
    have sent' := sideSent mode rings rfl (f := Chain.identifySide x e (sent + 1) lost
      (unreadOfSide (sidePositions s.chains[i] x e) unread f)) fun _ => rfl
    exact ⟨_, run, sent'.chain, sent'.others, sent'.only⟩
  · have long : f.slots.length = x.reach e := ((frameClean_iff (by cases e <;> dsimp only <;> omega)).1 clean).2
    obtain ⟨rings, reads⟩ := identReturned_side_unread mode identifying inside clean long (fields := ringFields) (by decide) some'
    have run := exec_identReturned awake i f
    rw [reads, third, sideIdentified_ends (by omega), rings.chain] at run
    exact ⟨_, run, rings.sideEndsUnread (by change s.chains[i].mode.state = _; rw [mode]; rfl) short idle x e some'⟩
  · have run := exec_identReturned awake i f
    have reads {fields : List Field} (mem : .chains ∈ fields) :=
      identReturned_side_good mode identifying inside clean long mem (by omega : lost < 3) good
    have splits : s.chains[i].mode.state = .split := by rw [mode]; rfl
    by_cases more : e = .out ∧ 0 < x.inReach
    · obtain ⟨rfl, more⟩ := more
      obtain ⟨c, u, rings, read, rest, inside', outside⟩ := reads (fields := [.chains]) (by decide)
      have next := rings.nextSide (by rw [rest]; exact splits) x (by decide) more
      rw [read] at run
      generalize u.nextSide i x .out = t at *
      refine ⟨t, run, fun k p mem at' => ?_, fun k out => ?_, fun _ _ => ⟨?_, next.only⟩, fun last => ?_, next.others⟩
      · rw [next.chain]
        exact inside' k p mem at'
      · rw [next.chain]
        exact outside k out
      · rw [next.chain, rest]
      · rcases last with no | none'
        · cases no
        · omega
    · obtain ⟨c, u, rings, read, rest, inside', outside⟩ := reads (fields := [.chains, .notices, .noticeLow]) (by decide)
      have next := rings.finishes (by rw [rest]; exact splits) x short idle
      rw [read, State.nextSide_last more] at run
      have found : c.found = s.chains[i].found := by rw [rest]
      rw [found] at next
      generalize u.finishSplit i x = t at *
      refine ⟨t, run, fun k p mem at' => ?_, fun k out => ?_, fun out some' => absurd ⟨out, some'⟩ more,
        fun _ => ⟨⟨?_, next.notices⟩, next.only⟩, next.others⟩
      · rw [next.chain]
        exact inside' k p mem at'
      · rw [next.chain]
        exact outside k out
      · rw [next.chain, rest]
        rfl

end Sys2Proof.Machine

/-! PROOFS. The arrival of a chain in POWERING (sections 9.4 and 9.5). -/

namespace Sys2Proof.Machine

open Sys2Proof

/-! ## The awaited set (R175) -/

theorem awaited_without (a : BitVec 4) (i j : Fin 4) :
    (a &&& ~~~ BitVec.twoPow 4 i).getLsbD j = (a.getLsbD j && decide (j ≠ i)) := by
  rw [BitVec.getLsbD_and, BitVec.getLsbD_not, BitVec.getLsbD_twoPow]
  by_cases e : j = i
  · simp [e]
  · have apart : i.val ≠ j.val := fun e' => e (Fin.ext e'.symm)
    simp [e, apart]

theorem awaited_last {a : BitVec 4} {i : Fin 4} (on : a.getLsbD i = true) :
    a &&& ~~~ BitVec.twoPow 4 i = 0 ↔ a = BitVec.twoPow 4 i := by
  constructor
  · intro none'
    refine BitVec.eq_of_getLsbD_eq fun j hj => ?_
    have bit := awaited_without a i ⟨j, hj⟩
    rw [none'] at bit
    rw [BitVec.getLsbD_twoPow]
    by_cases e : i.val = j
    · subst e
      simpa using on
    · have apart : (⟨j, hj⟩ : Fin 4) ≠ i := fun e' => e (by rw [← e'])
      simpa [apart, e] using bit.symm
  · rintro rfl
    exact BitVec.and_not_self _

/-! ## The arrival (R175, R176) -/

/-- What an operation of a chain leaves of the Composer, whether or not the chain has left its state. -/
theorem Rings.composes {i : Fin 4} {left : Bool} {fields : List Field} {c : Chain} {n : Notices} {s u : State}
    (h : Rings i left fields c n s u) : u.composer.timer = s.composer.timer ∧ u.composer.period = s.composer.period ∧
      u.composer.latest = s.composer.latest ∧ u.composer.frame.map (·.snap) = s.composer.frame.map (·.snap) := by
  cases left with
  | false =>
    have same : u.composer = s.composer := h.marks
    rw [same]
    exact ⟨rfl, rfl, rfl, rfl⟩
  | true =>
    obtain ⟨period, timer, latest, idle, flight⟩ := h.marked
    refine ⟨timer, period, latest, ?_⟩
    cases frame : s.composer.frame with
    | none => rw [idle frame]
    | some f =>
      obtain ⟨f', frame', snap, -⟩ := flight f frame
      rw [frame', Option.map_some, Option.map_some, snap]

section
variable {i : Fin 4} {left : Bool} {c : Chain} {n : Notices} {s u : State} (h : Rings i left ringFields c n s u)
  (awake : s.resetLow = false) (powering : s.power.state = .powering) (awaited : s.power.awaited.getLsbD i = true)
  {cause : PathCause} (path : s.power.cause = some cause) (few : n.list.length ≤ 8)
include h awake powering awaited path few

/-- An awaited chain arrives in POWERING: it leaves the awaited set, and the last one lights the part. -/
theorem Rings.arrivesInPowering :
    (u.chainArrived i).chains[i] = c ∧ ArrivesInPowering i cause n s (u.chainArrived i) := by
  obtain ⟨timer, period, latest, snap⟩ := h.composes
  have power := h.power
  have arrived : u.chainArrived i = if s.power.awaited &&& ~~~ BitVec.twoPow 4 i = 0 then
      (u.setPower { s.power with awaited := s.power.awaited &&& ~~~ BitVec.twoPow 4 i }).enterLit
      else u.setPower { s.power with awaited := s.power.awaited &&& ~~~ BitVec.twoPow 4 i } := by
    rw [State.chainArrived, power, if_pos ⟨powering, awaited⟩]
  have chains : (u.chainArrived i).chains = u.chains := (u.chainArrived_only i).field .chains
  refine ⟨by rw [chains, h.chain], h.others.congr chains, fun others => ?_, fun last => ?_⟩
  · rw [arrived, if_neg ((awaited_last awaited).not.2 others)]
    exact ⟨awaited_without _ i, rfl, h.notices, timer, period, latest, snap, h.only.mono.trans (u.setPower_only _).mono⟩
  · rw [arrived, if_pos ((awaited_last awaited).2 last)]
    have only := u.setPower_only { s.power with awaited := s.power.awaited &&& ~~~ BitVec.twoPow 4 i }
    have changed : OnlyChanges (.power :: ringFields) s
        (u.setPower { s.power with awaited := s.power.awaited &&& ~~~ BitVec.twoPow 4 i }) := h.only.mono.trans only.mono
    have power' : (u.setPower { s.power with awaited := s.power.awaited &&& ~~~ BitVec.twoPow 4 i }).power =
      { s.power with awaited := s.power.awaited &&& ~~~ BitVec.twoPow 4 i, settle := s.power.settle } := rfl
    have notices : (u.setPower { s.power with awaited := s.power.awaited &&& ~~~ BitVec.twoPow 4 i }).notices = n := h.notices
    have period' : (u.setPower { s.power with awaited := s.power.awaited &&& ~~~ BitVec.twoPow 4 i }).composer.period =
      s.composer.period := period
    generalize u.setPower { s.power with awaited := s.power.awaited &&& ~~~ BitVec.twoPow 4 i } = v at *
    have cond : v.cond = s.cond := changed.field .cond
    have counter : v.freeCounter = s.freeCounter := changed.field .freeCounter
    obtain ⟨clears, waits⟩ := State.enterLit_enters (s := v) (by rw [power']; exact path) (by rw [notices]; exact few)
      ((changed.field .resetLow).trans awake)
    rw [power', notices] at clears waits
    refine ⟨fun still => ?_, fun wakes armed => ⟨v.lightUp.useFree, ?_⟩⟩
    · obtain ⟨enters, only⟩ := clears still
      exact ⟨enters.from power' cond period', changed.mono.trans only.mono⟩
    · obtain ⟨enters, only, orders⟩ := waits wakes armed
      refine ⟨enters.from power' cond period', changed.mono.trans only.mono, ?_⟩
      rw [OrdersWakeStart, counter] at orders
      exact orders

end

section
variable {i : Fin 4} {left : Bool} {c : Chain} {n : Notices} {s u : State} (h : Rings i left ringFields c n s u)
  (awake : s.resetLow = false) (powering : s.power.state = .powering) (awaited : s.power.awaited.getLsbD i = true)
  {cause : PathCause} (path : s.power.cause = some cause) (few : n.list.length ≤ 8)
include h awake powering awaited path few

/-- A chain enters RING in POWERING. -/
theorem Rings.arrivesRing (starts : c.mode.state ≠ .ring) :
    (u.arriveRing i).chains[i] = { c with mode := .ring none, ringDone := true } ∧
      ArrivesInPowering i cause n s (u.arriveRing i) :=
  (h.leave (f := fun c => { c with mode := .ring none, ringDone := true }) starts).arrivesInPowering awake powering awaited path few

/-- A chain fails in POWERING. -/
theorem Rings.failsInPowering (runs : c.mode.state ≠ .failed) :
    (u.failChain i).chains[i] = failedChain c ∧
      ArrivesInPowering i cause (n.after .chainState (.chain i) (.chain .failed)) s (u.failChain i) :=
  (h.failing few runs).arrivesInPowering awake powering awaited path (Notices.after_length few _ _ _)

/-- A chain finishes its entry to SPLIT in POWERING. -/
theorem Rings.splitsInPowering (splits : c.mode.state = .split) (x : Split) :
    (u.finishSplit i x).chains[i] = splitSettled c x ∧
      ArrivesInPowering i cause (n.after .chainState (.chain i)
        (.chain (.split { lastOut := x.outReach, firstIn := c.found - x.inReach + 1 }))) s (u.finishSplit i x) :=
  (h.settles splits x few).arrivesInPowering awake powering awaited path (Notices.after_length few _ _ _)

end

/-- Settles O44: each way to arrive, and what the arrival does. -/
theorem lastArrivalEntersLit : Obligations.LastArrivalEntersLit := by
  refine fun i cause s awake powering awaited path short => ⟨fun failures mode => ⟨fun expected => ?_, fun third slow halt => ?_,
    fun n many small => ?_⟩, fun sent lost unread f mode fewer most few inside clean good => ?_,
    fun x e sent lost unread f mode identifying last fewer most few reaches inside long clean good => ?_⟩
  · have run := exec_countReturned awake i (countFrame .out 0 1)
    rw [countReturned_sent mode (n := 0) (by omega), startCounted_eq (Nat.zero_le _), if_pos rfl] at run
    have counted := startCounted_found (i := i) (n := 0) short ringFields (by decide) (.inr (by decide))
    rw [Chain.count_zero, if_neg (Ne.symm expected)] at counted
    obtain ⟨chain, arrives⟩ := counted.arrivesRing awake powering awaited path (Notices.after_length short _ _ _)
      (by rw [mode]; exact nofun)
    exact ⟨_, run, by rw [chain], arrives⟩
  · have run := exec_countLost awake i
    have rings := (Rings.refl ringFields i s).update (f := fun c => c.retry 1) rfl
    rw [countLost_starts mode, startCountFailed_last third slow, State.giveUp, if_pos (by rw [rings.chain]; exact halt)] at run
    obtain ⟨chain, arrives⟩ := rings.failsInPowering awake powering awaited path short
      (by change s.chains[i].mode.state ≠ _; rw [mode]; exact nofun)
    exact ⟨_, run, chain, arrives⟩
  · have run := exec_countReturned awake i (countFrame .out 0 (n + 1))
    rw [countReturned_sent mode small, startCounted_many many small] at run
    obtain ⟨chain, arrives⟩ := ((Rings.refl ringFields i s).raise short .countMismatch (.chain i)
      (.number 61)).failsInPowering awake powering awaited path (Notices.after_length short _ _ _) (by rw [mode]; exact nofun)
    exact ⟨_, run, chain, arrives⟩
  · obtain ⟨c, u, rings, read, rest, -, -⟩ := identReturned_good mode clean few inside (by omega) good (fields := ringFields)
      (by decide)
    have run := exec_identReturned awake i f
    rw [read] at run
    obtain ⟨chain, arrives⟩ := rings.arrivesRing awake powering awaited path short (by rw [rest, mode]; exact nofun)
    exact ⟨_, run, by rw [chain, rest], arrives⟩
  · have within : ∀ p ∈ unread, p ∈ sidePositions s.chains[i] x e := fun p mem => by
      have bounds := inside p mem
      cases e with
      | out =>
        refine List.mem_range'_1.2 ?_
        dsimp only at bounds
        omega
      | inn =>
        refine List.mem_reverse.2 (List.mem_range'_1.2 ?_)
        dsimp only at bounds
        omega
    obtain ⟨c, u, rings, read, rest, -, -⟩ := identReturned_side_good mode identifying within clean long (fields := ringFields)
      (by decide) (by omega) good
    have run := exec_identReturned awake i f
    have alone : ¬ (e = .out ∧ 0 < x.inReach) := fun both => by
      rcases last with is | none'
      · rw [both.1] at is
        cases is
      · omega
    have found : c.found = s.chains[i].found := by rw [rest]
    rw [read, State.nextSide_last alone] at run
    obtain ⟨chain, arrives⟩ := rings.splitsInPowering awake powering awaited path short (by rw [rest, mode]; rfl) x
    rw [found] at arrives
    exact ⟨_, run, by rw [chain, rest]; rfl, arrives⟩

end Sys2Proof.Machine

/-! PROOFS. The restore attempt of a SPLIT chain (section 7.6.4). -/

namespace Sys2Proof.Machine

open Sys2Proof

/-- The record of a chain whose attempt has failed. -/
theorem Chain.attemptFailed_eq (x : Split) (c : Chain) : c.attemptFailed x = { c with mode := .split { x with
    phase := .driving .idle .idle []
    restore := if c.rejoin = .auto then .running c.restoreInterval else .stopped } } := rfl

section
variable {i : Fin 4} {s : State} {x : Split} (mode : s.chains[i].mode = .split x)
include mode

/-- The attempt fails (R141). -/
theorem attempt_fails : Rings i false [.chains] (s.chains[i].attemptFailed x) s.notices s
    (s.updateChain i (Chain.attemptFailed x)) :=
  sideSent mode (Rings.refl [.chains] i s) rfl fun _ => rfl

theorem restoreExpired_running {interval : Nat} (running : x.restore = .running interval) :
    Chain.restoreExpired s.chains[i] = { s.chains[i] with mode := .split { x with restore := .expired } } := by
  rw [Chain.restoreExpired, mode]
  dsimp only
  rw [running]

theorem attempt_ready {set : List DutyEntry} (expired : x.restore = .expired) (idle : x.phase = .driving .idle .idle set) :
    Chain.attempt s.chains[i] = { s.chains[i] with
      mode := .split { x with phase := .restoreProbe, restore := .stopped }
      sent := { sender := .out, frame := probeFrame .out 0 } :: s.chains[i].sent } := by
  have ready : x.attemptReady = true := by
    rw [Split.attemptReady, expired, idle]
    rfl
  rw [Chain.attempt, mode]
  exact if_pos ready

/-! ## Its PROBE -/

section
variable (probing : x.phase = .restoreProbe)
include probing

theorem probeLost_restores : s.probeLost i .out = s.updateChain i (Chain.attemptFailed x) := by
  rw [State.probeLost, mode]
  dsimp only
  rw [probing]
  exact if_pos rfl

theorem probeReturned_restores {hop : Nat} : s.probeReturned i .out (probeFrame .out hop) =
    s.updateChain i fun c => (c.phase x .restoreCount).transmit .out (countFrame .out 0 1) := by
  rw [State.probeReturned, if_pos (frameClean_probe _ _), mode]
  dsimp only
  rw [probing]
  exact if_pos rfl

end

/-! ## Its COUNT -/

section
variable (counting : x.phase = .restoreCount)
include counting

theorem countLost_restores : s.countLost i = s.updateChain i (Chain.attemptFailed x) := by
  rw [State.countLost, mode]
  dsimp only
  rw [counting]

theorem countReturned_restores_none {f : RingFrame} (nothing : countReply f .out = none) :
    s.countReturned i f = s.countLost i := by
  rw [countLost_restores mode counting, State.countReturned, mode]
  dsimp only
  rw [counting]
  dsimp only
  rw [nothing]

theorem countReturned_restores {n : Nat} (small : n ≤ 254) :
    s.countReturned i (countFrame .out 0 (n + 1)) = s.attemptCounted i x (n + 1) := by
  rw [State.countReturned, mode]
  dsimp only
  rw [counting]
  dsimp only
  rw [countReply_sent (by omega)]

end

omit mode in
theorem attemptCounted_found : s.attemptCounted i x (s.chains[i].found + 1) = s.updateChain i fun c =>
    (c.phase x .restoreIdent).transmit .out (identFrame .out 0 s.chains[i].found) := if_pos rfl

omit mode in
theorem attemptCounted_other {n : Nat} (small : n ≤ 254) (other : n ≠ s.chains[i].found) :
    s.attemptCounted i x (n + 1) = (s.raiseMismatch i (min 61 n)).updateChain i (Chain.attemptFailed x) := by
  rw [State.attemptCounted, if_neg (by omega), countedNumber_succ small]

/-! ## Its IDENT -/

section
variable (identifying : x.phase = .restoreIdent)
include identifying

theorem identLost_restores : s.identLost i = s.updateChain i (Chain.attemptFailed x) := by
  rw [State.identLost, mode]
  dsimp only
  rw [identifying]

theorem identReturned_restores {f : RingFrame} : s.identReturned i f = s.attemptIdentified i x f := by
  rw [State.identReturned, mode]
  dsimp only
  rw [identifying]

theorem identReturned_restores_bad {f : RingFrame} (bad : frameClean f .ident .out s.chains[i].found = true →
    ∃ b ∈ f.slots, goodIdentReply b = false) : s.identReturned i f = s.identLost i := by
  rw [identReturned_restores mode identifying, identLost_restores mode identifying]
  refine if_neg fun both => ?_
  obtain ⟨clean, good⟩ := Bool.and_eq_true_iff.1 both
  obtain ⟨b, mem, wrong⟩ := bad clean
  rw [List.all_eq_true.1 good b mem] at wrong
  exact Bool.noConfusion wrong

/-- The IDENT of an attempt with every slot good brings the chain to RING (R141). -/
theorem identReturned_restored {f : RingFrame} (clean : frameClean f .ident .out s.chains[i].found = true)
    (good : ∀ b ∈ f.slots, goodIdentReply b = true) (short : s.notices.list.length ≤ 8) :
    Rings i true ringFields (Chain.restored ((outPositions s.chains[i].found).zip f.slots) s.chains[i])
      (s.notices.after .chainState (.chain i) (.chain .restored)) s (s.identReturned i f) := by
  rw [identReturned_restores mode identifying, State.attemptIdentified,
    if_pos (Bool.and_eq_true_iff.2 ⟨clean, List.all_eq_true.2 good⟩)]
  exact ((Rings.refl ringFields i s).leave (f := Chain.restored ((outPositions s.chains[i].found).zip f.slots))
    (by rw [mode]; exact nofun)).raise short _ _ _

end

end

/-- What a restore does to a record of the loop. -/
theorem Chain.restored_node (replies : List (Nat × BitVec 48)) (c : Chain) (k : Fin 60) :
    (c.restored replies).nodes[k] = if (c.readBins replies).nodes[k].state = .unreachable then
      { (c.readBins replies).nodes[k] with state := .suspect, badReplies := 0, goodRun := 0 }
      else (c.readBins replies).nodes[k] :=
  Chain.mapNodes_node (c.readBins replies) (fun _ n =>
    if n.state = .unreachable then { n with state := .suspect, badReplies := 0, goodRun := 0 } else n) k

theorem Chain.restored_eq (replies : List (Nat × BitVec 48)) (c : Chain)
    (rest : c.readBins replies = { c with nodes := (c.readBins replies).nodes }) :
    c.restored replies = { c with
      mode := .ring none, ringDone := true, brk := none, mailbox := none, runOut := 0, runIn := 0
      switches := min 255 (c.switches + 1), nodes := (c.restored replies).nodes } := by
  rw [Chain.restored, Chain.mapNodes, rest, Chain.switched]

/-- Settles O49: the timer and the attempt, its three frames, and the return to RING. -/
theorem restoreReturnsToRing : Obligations.RestoreReturnsToRing := by
  refine fun i x s awake mode => ⟨fun interval running => ?_, fun set expired idle => ?_,
    ⟨fun probing => ⟨?_, ?_, fun f unclean => ?_⟩,
      fun counting => ⟨fun f bad => ?_, fun few => ?_, fun n small other short => ?_, ?_⟩,
      fun identifying => ⟨?_, fun f bad => ?_⟩⟩, fun f identifying few short clean good => ?_⟩
  · have eq := restoreExpired_running mode running
    have rings := (Rings.refl [.chains] i s).update (f := Chain.restoreExpired) (by rw [eq, mode]; rfl)
    exact ⟨_, exec_restoreTimerExpiry awake i, rings.chain.trans eq, rings.others, rings.only⟩
  · have eq := attempt_ready mode expired idle
    have rings := (Rings.refl [.chains] i s).update (f := Chain.attempt) (by rw [eq, mode]; rfl)
    exact ⟨_, exec_restoreAttempt awake i, rings.chain.trans eq, rings.others, rings.only⟩
  · have rings := sideSent mode (Rings.refl [.chains] i s) rfl
      (f := fun c => (c.phase x .restoreCount).transmit .out (countFrame .out 0 1)) fun _ => rfl
    exact ⟨_, (exec_probeReturned awake i _ _).trans (congrArg _ (probeReturned_restores mode probing)), rings.chain,
      rings.others, rings.only⟩
  · have rings := attempt_fails mode
    exact ⟨_, (exec_probeLost awake i _).trans (congrArg _ (probeLost_restores mode probing)), rings.chain, rings.others,
      rings.only⟩
  · rw [exec_probeReturned awake, exec_probeLost awake, probeReturned_unclean unclean]
  · rw [exec_countReturned awake, exec_countLost awake, countReturned_restores_none mode counting (countReply_none bad)]
  · have rings := sideSent mode (Rings.refl [.chains] i s) rfl
      (f := fun c => (c.phase x .restoreIdent).transmit .out (identFrame .out 0 s.chains[i].found)) fun _ => rfl
    exact ⟨_, (exec_countReturned awake i _).trans (congrArg _
      ((countReturned_restores mode counting (by omega)).trans attemptCounted_found)), rings.chain, rings.others, rings.only⟩
  · have rings := sideSent mode ((Rings.refl [.chains, .notices, .noticeLow] i s).raise short .countMismatch (.chain i)
      (.number (min 61 n))) rfl (f := Chain.attemptFailed x) fun _ => rfl
    exact ⟨_, (exec_countReturned awake i _).trans (congrArg _
      ((countReturned_restores mode counting small).trans (attemptCounted_other small other))), rings.chain, rings.notices,
      rings.others, rings.only⟩
  · have rings := attempt_fails mode
    exact ⟨_, (exec_countLost awake i).trans (congrArg _ (countLost_restores mode counting)), rings.chain, rings.others,
      rings.only⟩
  · have rings := attempt_fails mode
    exact ⟨_, (exec_identLost awake i).trans (congrArg _ (identLost_restores mode identifying)), rings.chain, rings.others,
      rings.only⟩
  · rw [exec_identReturned awake, exec_identLost awake, identReturned_restores_bad mode identifying bad]
  · have long : f.slots.length = s.chains[i].found := ((frameClean_iff few).1 clean).2
    obtain ⟨nodes, rest⟩ := Chain.readBins_good (outPositions_nodup _) (by rw [outPositions_length, long]) good s.chains[i]
    obtain ⟨chain, others, notices, marks, only⟩ := identReturned_restored mode identifying clean good short
    refine ⟨_, exec_identReturned awake i f, ?_, fun k => ?_, notices, others, marks, only⟩
    · rw [chain]
      exact Chain.restored_eq _ _ rest
    · have read : (s.chains[i].readBins ((outPositions s.chains[i].found).zip f.slots)).nodes[k] =
          { s.chains[i].nodes[k] with bin := match f.slots[k.val]? with
             | some b => slotBin b
             | none => s.chains[i].nodes[k].bin } := by
        rw [nodes, readNode, zip_outPositions_find long]
        cases slot : f.slots[k.val]? with
        | none => rfl
        | some b => exact if_pos (good b (List.mem_of_getElem? slot))
      rw [chain, Chain.restored_node, read] <;> rfl

end Sys2Proof.Machine

/-! PROOFS. The reply checks of a clean DUTY frame (sections 6.4 and 7.5). -/

namespace Sys2Proof.Machine

open Sys2Proof

/-! ## The notices of a node's faults -/

/-- A list of faults of a node, each raised. -/
def faultsRaised (n : Notices) (node : NodeRef) (faults : List NodeFault) : Notices :=
  faults.foldl (fun n f => n.after .nodeFault (.node node) (.node f)) n

theorem faultsRaised_append (n : Notices) (node : NodeRef) (fs gs : List NodeFault) :
    faultsRaised n node (fs ++ gs) = faultsRaised (faultsRaised n node fs) node gs := List.foldl_append

theorem faultsRaised_if (n : Notices) (node : NodeRef) (was now : Bool) (f : NodeFault) :
    faultsRaised n node (if !was && now then [f] else []) =
      if was = false ∧ now = true then n.after .nodeFault (.node node) (.node f) else n := by
  cases was <;> cases now <;> rfl

/-- The faults that a reply newly sets, in their order (R109, R134). -/
theorem faultsRaised_newFaults (n : Notices) (node : NodeRef) (before after : NodeFlags) :
    faultsRaised n node (newFaults before after) = faultNotices n node before after := by
  simp only [newFaults, faultsRaised_append, faultsRaised_if, faultNotices]

theorem Rings.raisesFaults {i : Fin 4} {left : Bool} {fields : List Field} {c : Chain} {s : State} (position : Nat)
    (faults : List NodeFault) : ∀ {n : Notices} {u : State}, Rings i left fields c n s u →
      (faults = [] ∨ n.list.length ≤ 8 ∧ .notices ∈ fields ∧ .noticeLow ∈ fields) →
      Rings i left fields c (faultsRaised n { chain := i, position := position } faults) s
        (faults.foldl (fun s f => s.raiseNode i position f) u) := by
  induction faults with
  | nil => exact fun h _ => h
  | cons f faults ih =>
    intro n u h may
    obtain ⟨few, named⟩ := may.resolve_left (List.cons_ne_nil _ _)
    exact ih (h.raise few .nodeFault (.node { chain := i, position := position }) (.node f) named)
      (.inr ⟨Notices.after_length few _ _ _, named⟩)

/-! ## A node record after a reply -/

theorem Node.goodReply_flags (n : Node) (rejoin : Rejoin) (reply : BitVec 48) :
    (n.goodReply rejoin reply).flags = flagsAfter n.flags reply := by
  unfold Node.goodReply
  dsimp only
  split
  · rfl
  · rfl
  · split <;> rfl
  · rfl
  · rfl

theorem Node.goodReply_driven {n : Node} (driven : n.state = .online ∨ n.state = .suspect) (rejoin : Rejoin)
    (reply : BitVec 48) : n.goodReply rejoin reply = { n with
      state := .online, badReplies := 0, temperature := slotTemperature reply, flags := flagsAfter n.flags reply } := by
  rcases driven with e | e <;> rw [Node.goodReply, e] <;> rfl

theorem Node.goodReply_offline {n : Node} (off : n.state = .offline) (rejoin : Rejoin) (reply : BitVec 48) :
    n.goodReply rejoin reply = { n with
      badReplies := 0, temperature := slotTemperature reply, flags := flagsAfter n.flags reply
      state := if rejoin = .auto ∧ 2 ≤ n.goodRun then .online else .offline
      goodRun := if rejoin = .auto ∧ 2 ≤ n.goodRun then 0 else min 255 (n.goodRun + 1) } := by
  rw [Node.goodReply, off]
  dsimp only
  by_cases back : rejoin = .auto ∧ 2 ≤ n.goodRun
  · rw [if_pos ⟨back.1, by omega⟩, if_pos back, if_pos back]
    rfl
  · rw [if_neg fun both => back ⟨both.1, by omega⟩, if_neg back, if_neg back]
    rfl

theorem Node.goodReply_well {n : Node} (shown : n.state = .online ∨ n.state = .suspect ∨ n.state = .offline)
    (rejoin : Rejoin) (reply : BitVec 48) : n.repliesWell (n.goodReply rejoin reply) rejoin reply := by
  rcases or_assoc.2 shown with driven | off
  · rw [Node.goodReply_driven driven]
    exact ⟨rfl, fun _ => ⟨rfl, rfl⟩, fun off => absurd off (by rcases driven with e | e <;> rw [e] <;> exact nofun)⟩
  · rw [Node.goodReply_offline off]
    refine ⟨rfl, fun driven => absurd off (by rcases driven with e | e <;> rw [e] <;> exact nofun), fun _ => ?_⟩
    split <;> exact ⟨rfl, rfl⟩

section
variable {reply : BitVec 48} (clear : reply.extractLsb' 36 4 = 0) (cool : slotTemperature reply < 125)
include clear cool

/-- A reply that reports no fault and no heat (R109, R134). -/
theorem flagsAfter_quiet (f : NodeFlags) : flagsAfter f reply =
    { openRed := false, openGreen := false, openBlue := false, short := false
      overheat := f.overheat && decide (110 < slotTemperature reply) } := by
  have bit : ∀ j, j < 4 → reply.getLsbD (36 + j) = false := fun j hj => by
    have bit := congrArg (BitVec.getLsbD · j) clear
    rw [BitVec.getLsbD_extractLsb', decide_eq_true hj, Bool.true_and] at bit
    exact bit.trans BitVec.getLsbD_zero
  rw [flagsAfter, bit 0 (by omega), bit 1 (by omega), bit 2 (by omega), bit 3 (by omega),
    decide_eq_false (show ¬ 125 ≤ slotTemperature reply by omega)]
  cases f.overheat <;> rfl

theorem newFaults_quiet (f : NodeFlags) : newFaults f (flagsAfter f reply) = [] := by
  rw [flagsAfter_quiet clear cool, newFaults]
  cases f.overheat <;> simp

theorem Node.goodReply_quiet {n : Node} (driven : n.state = .online ∨ n.state = .suspect) (rejoin : Rejoin) :
    n.goodReply rejoin reply = n.answered reply := by
  rw [Node.goodReply_driven driven, flagsAfter_quiet clear cool]
  rfl

end

section
variable {n : Node} (driven : n.state = .online ∨ n.state = .suspect) {limit : Nat}
include driven

theorem Node.badReply_within (within : n.badReplies + 1 ≤ limit) :
    n.badReply limit = { n with state := .suspect, badReplies := n.badReplies + 1 } ∧ n.dropsOut limit = false := by
  rcases driven with e | e <;> rw [Node.badReply, Node.dropsOut, e] <;>
    exact ⟨if_neg (by omega), decide_eq_false (by omega)⟩

theorem Node.badReply_beyond (beyond : limit < n.badReplies + 1) :
    n.badReply limit = { n with state := .offline, badReplies := n.badReplies + 1, goodRun := 0 } ∧
      n.dropsOut limit = true := by
  rcases driven with e | e <;> rw [Node.badReply, Node.dropsOut, e] <;>
    exact ⟨if_pos beyond, decide_eq_true beyond⟩

end

/-! ## One record of a chain is replaced -/

/-- Of a chain record, one node record is new. -/
structure SetsNode (k : Fin 60) (n : Node) (c d : Chain) : Prop where
  here : d.nodes[k] = n
  elsewhere : ∀ j : Fin 60, j ≠ k → d.nodes[j] = c.nodes[j]
  rest : d = { c with nodes := d.nodes }

theorem Chain.setNode_sets (c : Chain) (k : Fin 60) (n : Node) : SetsNode k n c (c.setNode (k.val + 1) n) := by
  rw [Chain.setNode_succ]
  refine ⟨?_, fun j other => ?_, rfl⟩
  · rw [getElem_setFin, if_pos rfl]
  · rw [getElem_setFin, if_neg other]

/-! ## One reply -/

section
variable {i : Fin 4} {left : Bool} {fields : List Field} {c : Chain} {n : Notices} {s u : State}
  (h : Rings i left fields c n s u) {x : SentSlot × BitVec 48} {k : Fin 60} (here : x.1.position = k.val + 1) (mark : Bool)
include h here

/-- A good reply (R109, R133, R134). -/
theorem Rings.repliedWell (good : goodDutyReply x.1.bits x.2 = true)
    (mem : .chains ∈ fields) (may : newFaults c.nodes[k].flags (flagsAfter c.nodes[k].flags x.2) = [] ∨
      n.list.length ≤ 8 ∧ .notices ∈ fields ∧ .noticeLow ∈ fields) :
    Rings i left fields (c.setNode (k.val + 1) (c.nodes[k].goodReply c.rejoin x.2))
        (faultNotices n { chain := i, position := k.val + 1 } c.nodes[k].flags (flagsAfter c.nodes[k].flags x.2)) s
        (State.handleReply i (u, mark) x).1 ∧
      (State.handleReply i (u, mark) x).2 = mark := by
  have same := (Chain.setNode_sets c k (c.nodes[k].goodReply c.rejoin x.2)).rest
  have set' := h.update (f := fun d => d.setNode (k.val + 1) (c.nodes[k].goodReply c.rejoin x.2)) (by rw [same]) mem
  have raised := set'.raisesFaults (k.val + 1) _ may
  rw [faultsRaised_newFaults, ← Node.goodReply_flags _ c.rejoin] at raised
  rw [← Node.goodReply_flags _ c.rejoin, State.handleReply, h.chain, here, Chain.nodeAt_succ]
  dsimp only
  rw [if_pos good]
  exact ⟨raised, rfl⟩

/-- A bad reply within the retry limit (R133). -/
theorem Rings.repliedBadly (bad : goodDutyReply x.1.bits x.2 = false)
    (driven : c.nodes[k].state = .online ∨ c.nodes[k].state = .suspect) (within : c.nodes[k].badReplies + 1 ≤ c.retryLimit)
    (mem : .chains ∈ fields) :
    Rings i left fields ((c.setNode (k.val + 1) { c.nodes[k] with
        state := .suspect, badReplies := c.nodes[k].badReplies + 1 }).retry 1) n s (State.handleReply i (u, mark) x).1 ∧
      (State.handleReply i (u, mark) x).2 = mark := by
  obtain ⟨record, stays⟩ := Node.badReply_within driven within
  have same := (Chain.setNode_sets c k (c.nodes[k].badReply c.retryLimit)).rest
  have set' := h.update (f := fun d => (d.setNode (k.val + 1) (c.nodes[k].badReply c.retryLimit)).retry 1) (by rw [same]; rfl)
    mem
  rw [State.handleReply, h.chain, here, Chain.nodeAt_succ]
  dsimp only
  rw [if_neg (by rw [bad]; exact Bool.false_ne_true), if_neg (by rw [stays]; exact Bool.false_ne_true), ← record]
  exact ⟨set', rfl⟩

/-- A bad reply beyond the retry limit (R133). -/
theorem Rings.dropsOut (few : n.list.length ≤ 8) (bad : goodDutyReply x.1.bits x.2 = false)
    (driven : c.nodes[k].state = .online ∨ c.nodes[k].state = .suspect) (beyond : c.retryLimit < c.nodes[k].badReplies + 1)
    (mem : .chains ∈ fields ∧ .notices ∈ fields ∧ .noticeLow ∈ fields) :
    Rings i left fields ((c.setNode (k.val + 1) { c.nodes[k] with
        state := .offline, badReplies := c.nodes[k].badReplies + 1, goodRun := 0 }).retry 1)
        (n.after .nodeFault (.node { chain := i, position := k.val + 1 }) (.node .offline)) s
        (State.handleReply i (u, mark) x).1 ∧
      (State.handleReply i (u, mark) x).2 = true := by
  obtain ⟨record, drops⟩ := Node.badReply_beyond driven beyond
  have same := (Chain.setNode_sets c k (c.nodes[k].badReply c.retryLimit)).rest
  have set' := (h.update (f := fun d => (d.setNode (k.val + 1) (c.nodes[k].badReply c.retryLimit)).retry 1)
    (by rw [same]; rfl) mem.1).raise few .nodeFault (.node { chain := i, position := k.val + 1 }) (.node .offline) mem.2
  rw [State.handleReply, h.chain, here, Chain.nodeAt_succ]
  dsimp only
  rw [if_neg (by rw [bad]; exact Bool.false_ne_true), if_pos drops, ← record]
  exact ⟨set', rfl⟩

end

/-! ## The replies of a frame -/

theorem State.checkReplies_unmarked {u : State} {i : Fin 4} {slots : List SentSlot} {replies : List (BitVec 48)}
    (none' : ((slots.zip replies).foldl (State.handleReply i) (u, false)).2 = false) :
    u.checkReplies i slots replies = ((slots.zip replies).foldl (State.handleReply i) (u, false)).1 := by
  rw [State.checkReplies, none']
  rfl

/-- A reply of a driven node that is good and reports no fault and no heat. -/
def quietReply (p : SentSlot × BitVec 48) : Prop :=
  goodDutyReply p.1.bits p.2 = true ∧ p.2.extractLsb' 36 4 = 0 ∧ slotTemperature p.2 < 125

/-- Quiet replies of driven nodes, each once: each record is answered, and nothing else changes. -/
theorem Rings.repliesQuietly {i : Fin 4} {left : Bool} {fields : List Field} {n : Notices} {s : State}
    (mem : .chains ∈ fields) (mark : Bool) (ps : List (SentSlot × BitVec 48)) :
    ∀ {c : Chain} {u : State}, Rings i left fields c n s u → (ps.map (·.1.position)).Nodup → (∀ p ∈ ps, quietReply p) →
      (∀ k : Fin 60, k.val + 1 ∈ ps.map (·.1.position) → c.nodes[k].state = .online ∨ c.nodes[k].state = .suspect) →
      ∃ d, Rings i left fields d n s (ps.foldl (State.handleReply i) (u, mark)).1 ∧
        (ps.foldl (State.handleReply i) (u, mark)).2 = mark ∧ d = { c with nodes := d.nodes } ∧
        (∀ (k : Fin 60) (p : SentSlot × BitVec 48), p ∈ ps → p.1.position = k.val + 1 →
          d.nodes[k] = c.nodes[k].answered p.2) ∧
        ∀ k : Fin 60, k.val + 1 ∉ ps.map (·.1.position) → d.nodes[k] = c.nodes[k] := by
  induction ps with
  | nil => exact fun {c u} h _ _ _ => ⟨c, h, rfl, rfl, nofun, fun _ _ => rfl⟩
  | cons p ps ih =>
    intro c u h once quiet driven
    rw [List.map_cons, List.nodup_cons] at once
    rw [List.forall_mem_cons] at quiet
    obtain ⟨⟨good, clear, cool⟩, quiet⟩ := quiet
    cases place : placeOf p.1.position with
    | none =>
      have away : ∀ k : Fin 60, p.1.position ≠ k.val + 1 := fun k e => by
        rw [e, placeOf_succ] at place
        exact Option.some_ne_none k place
      have skipped : State.handleReply i (u, mark) p = (u, mark) := by
        rw [State.handleReply, Chain.nodeAt, place]
        rfl
      rw [List.foldl_cons, skipped]
      obtain ⟨d, rings, marked, rest, named, others⟩ := ih h once.2 quiet fun k mem => driven k (List.mem_cons_of_mem _ mem)
      refine ⟨d, rings, marked, rest, fun k q mem at' => ?_, fun k none' => others k fun mem => none' (List.mem_cons_of_mem _ mem)⟩
      rcases List.mem_cons.1 mem with rfl | mem
      · exact absurd at' (away k)
      · exact named k q mem at'
    | some k =>
      have here : p.1.position = k.val + 1 := placeOf_eq_some.1 place
      have on := driven k (by rw [← here]; exact List.mem_cons_self)
      obtain ⟨replied, kept⟩ := h.repliedWell here mark good mem (.inl (newFaults_quiet clear cool _))
      rw [Node.goodReply_quiet clear cool on, ← faultsRaised_newFaults, newFaults_quiet clear cool] at replied
      have sets := Chain.setNode_sets c k (c.nodes[k].answered p.2)
      have apart : ∀ j : Fin 60, j.val + 1 ∈ ps.map (·.1.position) → j ≠ k := fun j mem e => once.1 (by rw [here, ← e]; exact mem)
      have next : State.handleReply i (u, mark) p = ((State.handleReply i (u, mark) p).1, mark) := Prod.ext rfl kept
      rw [List.foldl_cons, next]
      generalize (State.handleReply i (u, mark) p).1 = v at *
      generalize c.setNode (k.val + 1) (c.nodes[k].answered p.2) = e at *
      obtain ⟨d, rings, marked, rest, named, others⟩ := ih replied once.2 quiet fun j mem => by
        rw [sets.elsewhere j (apart j mem)]
        exact driven j (List.mem_cons_of_mem _ mem)
      refine ⟨d, rings, marked, by rw [rest, sets.rest], fun j q mem at' => ?_, fun j none' => ?_⟩
      · rcases List.mem_cons.1 mem with rfl | mem
        · have same : j = k := Fin.ext (by omega)
          rw [same, others k (by rw [← here]; exact once.1), sets.here]
        · have other : j ≠ k := apart j (by rw [← at']; exact List.mem_map_of_mem mem)
          rw [named j q mem at', sets.elsewhere j other]
      · have other : j ≠ k := fun e' => none' (by rw [e', ← here]; exact List.mem_cons_self)
        rw [others j fun mem => none' (List.mem_cons_of_mem _ mem), sets.elsewhere j other]

end Sys2Proof.Machine

/-! PROOFS. Duty frames in RING (section 7.5). -/

namespace Sys2Proof.Machine

open Sys2Proof

/-! ## The checks of a clean frame, where it is returned -/

theorem State.checkReplies_one {u : State} {i : Fin 4} {y : SentSlot} {reply : BitVec 48}
    (none' : (State.handleReply i (u, false) (y, reply)).2 = false) :
    u.checkReplies i [y] [reply] = (State.handleReply i (u, false) (y, reply)).1 :=
  State.checkReplies_unmarked (slots := [y]) (replies := [reply]) none'

section
variable {i : Fin 4} {left : Bool} {fields : List Field} {c : Chain} {n : Notices} {s u : State}
  (h : Rings i left fields c n s u)
include h

/-- Every slot is answered well (R133). -/
theorem Rings.checksQuietly {slots : List SentSlot} {replies : List (BitVec 48)}
    (long : replies.length = slots.length) (once : (slots.map (·.position)).Nodup)
    (quiet : ∀ p ∈ slots.zip replies, quietReply p)
    (driven : ∀ k : Fin 60, k.val + 1 ∈ slots.map (·.position) → c.nodes[k].state = .online ∨ c.nodes[k].state = .suspect)
    (mem : .chains ∈ fields := by decide) :
    ∃ d, Rings i left fields d n s (u.checkReplies i slots replies) ∧ d = { c with nodes := d.nodes } ∧
      (∀ (k : Fin 60) (p : SentSlot × BitVec 48), p ∈ slots.zip replies → p.1.position = k.val + 1 →
        d.nodes[k] = c.nodes[k].answered p.2) ∧
      ∀ k : Fin 60, k.val + 1 ∉ slots.map (·.position) → d.nodes[k] = c.nodes[k] := by
  have firsts : (slots.zip replies).map (fun p => p.1.position) = slots.map (·.position) := by
    calc (slots.zip replies).map (fun p => p.1.position) = ((slots.zip replies).map Prod.fst).map (·.position) :=
          List.map_map.symm
      _ = slots.map (·.position) := by rw [List.map_fst_zip (by omega)]
  obtain ⟨d, rings, marked, rest⟩ := Rings.repliesQuietly mem false (slots.zip replies) h (by rw [firsts]; exact once)
    quiet (by rw [firsts]; exact driven)
  rw [firsts] at rest
  rw [State.checkReplies_unmarked marked]
  exact ⟨d, rings, rest⟩

variable {y : SentSlot} {reply : BitVec 48} {k : Fin 60} (here : y.position = k.val + 1)
include here

/-- The one slot is answered well (R133, R134). -/
theorem Rings.checksWell (good : goodDutyReply y.bits reply = true)
    (may : newFaults c.nodes[k].flags (flagsAfter c.nodes[k].flags reply) = [] ∨
      n.list.length ≤ 8 ∧ .notices ∈ fields ∧ .noticeLow ∈ fields) (mem : .chains ∈ fields := by decide) :
    Rings i left fields (c.setNode (k.val + 1) (c.nodes[k].goodReply c.rejoin reply))
      (faultNotices n { chain := i, position := k.val + 1 } c.nodes[k].flags (flagsAfter c.nodes[k].flags reply)) s
      (u.checkReplies i [y] [reply]) := by
  obtain ⟨rings, marked⟩ := h.repliedWell (x := (y, reply)) here false good mem may
  rw [State.checkReplies_one marked]
  exact rings

variable (bad : goodDutyReply y.bits reply = false) (driven : c.nodes[k].state = .online ∨ c.nodes[k].state = .suspect)
include bad driven

/-- The one slot is answered badly, within the retry limit (R133). -/
theorem Rings.checksBadly (within : c.nodes[k].badReplies + 1 ≤ c.retryLimit) (mem : .chains ∈ fields := by decide) :
    Rings i left fields ((c.setNode (k.val + 1) { c.nodes[k] with
        state := .suspect, badReplies := c.nodes[k].badReplies + 1 }).retry 1) n s (u.checkReplies i [y] [reply]) := by
  obtain ⟨rings, marked⟩ := h.repliedBadly (x := (y, reply)) here false bad driven within mem
  rw [State.checkReplies_one marked]
  exact rings

end

/-- What the check of a frame leaves whose one slot takes a node OFFLINE, outside POWERING: `c` is the record without its
nodes (R133, R142). -/
structure NodeDrops (i : Fin 4) (k : Fin 60) (c : Chain) (s t : State) : Prop where
  node : t.chains[i].nodes[k] = { c.nodes[k] with
    state := .offline, badReplies := c.nodes[k].badReplies + 1, goodRun := 0 }
  elsewhere : ∀ j : Fin 60, j ≠ k → t.chains[i].nodes[j] = c.nodes[j]
  goesOn : c.rejoin ≠ .halt → t.chains[i] = { c with
      retries := min 65535 (c.retries + 1), nodes := t.chains[i].nodes } ∧
    t.notices = s.notices.after .nodeFault (.node { chain := i, position := k.val + 1 }) (.node .offline) ∧
    t.composer = s.composer
  halts : c.rejoin = .halt → t.chains[i] = failedChain { c with
      retries := min 65535 (c.retries + 1), nodes := t.chains[i].nodes } ∧ onlyMarks i s t ∧
    t.notices = (s.notices.after .nodeFault (.node { chain := i, position := k.val + 1 }) (.node .offline)).after
      .chainState (.chain i) (.chain .failed)
  others : OnlyChain i s t
  only : OnlyChanges ringFields s t

theorem Rings.checksOut {i : Fin 4} {c : Chain} {s u : State} (h : Rings i false ringFields c s.notices s u)
    (few : s.notices.list.length ≤ 8) (idle : s.power.state ≠ .powering) (runs : c.mode.state ≠ .failed)
    {y : SentSlot} {reply : BitVec 48} {k : Fin 60} (here : y.position = k.val + 1)
    (bad : goodDutyReply y.bits reply = false) (driven : c.nodes[k].state = .online ∨ c.nodes[k].state = .suspect)
    (beyond : c.retryLimit < c.nodes[k].badReplies + 1) : NodeDrops i k c s (u.checkReplies i [y] [reply]) := by
  obtain ⟨rings, marked⟩ := h.dropsOut (x := (y, reply)) here false few bad driven beyond (by decide)
  have sets := Chain.setNode_sets c k { c.nodes[k] with
    state := .offline, badReplies := c.nodes[k].badReplies + 1, goodRun := 0 }
  have check : u.checkReplies i [y] [reply] = if (State.handleReply i (u, false) (y, reply)).2 &&
      (State.handleReply i (u, false) (y, reply)).1.chains[i].rejoin == .halt then
    (State.handleReply i (u, false) (y, reply)).1.failChain i else (State.handleReply i (u, false) (y, reply)).1 := rfl
  rw [check, marked, Bool.true_and, rings.chain]
  generalize (State.handleReply i (u, false) (y, reply)).1 = v at *
  generalize c.setNode (k.val + 1) { c.nodes[k] with
    state := .offline, badReplies := c.nodes[k].badReplies + 1, goodRun := 0 } = d at *
  obtain ⟨node, elsewhere, rest⟩ := sets
  have rejoin : (d.retry 1).rejoin = c.rejoin := by rw [rest]; rfl
  have whole : d.retry 1 = { c with retries := min 65535 (c.retries + 1), nodes := d.nodes } := by
    rw [rest]
    rfl
  rw [rejoin]
  by_cases halt : c.rejoin = .halt
  · have failed := rings.fails (Notices.after_length few _ _ _) idle (by rw [whole]; exact runs)
    rw [if_pos (by rw [halt]; rfl)]
    refine ⟨by rw [failed.chain]; exact node, fun j other => by rw [failed.chain]; exact elsewhere j other,
      fun no => absurd halt no, fun _ => ⟨?_, failed.marked, failed.notices⟩, failed.others, failed.only⟩
    rw [failed.chain, whole]
    rfl
  · rw [if_neg (by rw [beq_iff_eq]; exact halt)]
    refine ⟨by rw [rings.chain]; exact node, fun j other => by rw [rings.chain]; exact elsewhere j other,
      fun _ => ⟨?_, rings.notices, rings.marks⟩, fun yes => absurd yes halt, rings.others, rings.only⟩
    rw [rings.chain, whole]

/-! ## The slots of a DUTY frame (R198, section 11.5) -/

theorem ofNat_twelve {n : Nat} (small : n ≤ 4095) : (BitVec.ofNat 12 n).toNat = n :=
  BitVec.toNat_ofNat _ _ ▸ Nat.mod_eq_of_lt (by omega)

theorem dutySlot_live {r g b : Nat} (hr : r ≤ 4095) (hg : g ≤ 4095) (hb : b ≤ 4095) :
    Checked (dutySlot (.live r g b)) ∧ ((dutySlot (.live r g b)).extractLsb' 36 12).toNat = r ∧
      ((dutySlot (.live r g b)).extractLsb' 24 12).toNat = g ∧ ((dutySlot (.live r g b)).extractLsb' 12 12).toNat = b ∧
      ((dutySlot (.live r g b)).extractLsb' 8 4).toNat = 8 := by
  refine ⟨slotOf_checked _, ?_, ?_, ?_, ?_⟩ <;> rw [dutySlot]
  · rw [slotOf_high _ 28 12, extract_high _ _ 12 12, extract_high _ _ 0 12, extract_all, ofNat_twelve hr]
  · rw [slotOf_high _ 16 12, extract_high _ _ 0 12, extract_low _ _ (by omega), extract_all, ofNat_twelve hg]
  · rw [slotOf_high _ 4 12, extract_low _ _ (by omega), extract_high _ _ 0 12, extract_all, ofNat_twelve hb]
  · rw [slotOf_high _ 0 4, extract_low _ _ (by omega), extract_low _ _ (by omega), extract_all]
    rfl

theorem dutySlot_blank : Checked (dutySlot .blank) ∧ (dutySlot .blank).extractLsb' 8 40 = 0 :=
  ⟨slotOf_checked _, (slotOf_high 0 0 40).trans (extract_all _)⟩

theorem goodDutyReply_iff (sent reply : BitVec 48) : goodDutyReply sent reply = true ↔
    Checked reply ∧ reply.extractLsb' 27 8 = sent.extractLsb' 0 8 ∧ reply ≠ sent := by
  rw [goodDutyReply, Bool.and_eq_true, Bool.and_eq_true, slotHolds_iff, beq_iff_eq, bne_iff_ne, slotDutyCheck, and_assoc]

/-! ## A DUTY frame in RING -/

theorem Chain.sentSlot_eq (c : Chain) (d : DutyEntry) : c.sentSlot d = slotSent c d := rfl

/-- The record of a chain in RING whose DUTY frame is back. -/
abbrev ringBack (c : Chain) : Chain := { c with runOut := 0, mode := .ring none }

section
variable {i : Fin 4} {s : State}

theorem dutySend_ring {set : List DutyEntry} (mode : s.chains[i].mode = .ring none) (waits : s.chains[i].mailbox = some set) :
    Chain.dutySend s.chains[i] = Chain.sendRing set s.chains[i] := by
  rw [Chain.dutySend, waits, mode]

variable {d : DutyFlight} (mode : s.chains[i].mode = .ring (some d))
include mode

theorem dutyLost_ring : s.dutyLost i .out = s.ringLost i d.set := by
  rw [State.dutyLost, mode]
  exact if_pos rfl

theorem dutyReturned_ring_unclean {f : RingFrame} (unclean : frameClean f .duty .out d.slots.length = false) :
    s.dutyReturned i .out f = s.dutyLost i .out := by
  rw [State.dutyReturned, mode]
  exact if_neg fun both => Bool.false_ne_true (unclean.symm.trans both.2)

theorem exec_dutyReturned_ring (awake : s.resetLow = false) {f : RingFrame}
    (clean : frameClean f .duty .out d.slots.length = true) :
    exec (.dutyReturned i .out f) s = .next ((s.updateChain i ringBack).checkReplies i d.slots f.slots) := by
  rw [exec_dutyReturned awake, State.dutyReturned, mode]
  exact congrArg _ (if_pos ⟨rfl, clean⟩)

theorem ring_back (fields : List Field) (mem : .chains ∈ fields := by decide) :
    Rings i false fields (ringBack s.chains[i]) s.notices s (s.updateChain i ringBack) :=
  (Rings.refl fields i s).update (f := ringBack) (by rw [mode]; rfl) mem

/-- A lost frame within the retry limit is sent again (R131). -/
theorem ringLost_again (set : List DutyEntry) (within : s.chains[i].runOut + 1 ≤ s.chains[i].retryLimit) :
    Rings i false [.chains] (Chain.sendRing (s.chains[i].mailbox.getD set)
        { s.chains[i] with retries := min 65535 (s.chains[i].retries + 1), runOut := s.chains[i].runOut + 1 })
      s.notices s (s.ringLost i set) := by
  have retried := (Rings.refl [.chains] i s).update (f := fun c => c.retry 1) rfl
  rw [State.ringLost, if_neg (by rw [retried.chain]; exact Nat.not_lt.2 within)]
  exact retried.update (f := fun c => Chain.sendRing (c.mailbox.getD set) { c with runOut := c.runOut + 1 })
    (by change s.chains[i].mode.state = _; rw [mode]; rfl)

omit mode in
/-- One beyond the limit gives the ring up (R132). -/
theorem ringLost_beyond (set : List DutyEntry) (beyond : s.chains[i].retryLimit < s.chains[i].runOut + 1) :
    ∃ u, Rings i false ringFields { s.chains[i] with retries := min 65535 (s.chains[i].retries + 1), runOut := 0 }
        s.notices s u ∧ s.ringLost i set = u.giveUp i true := by
  have retried := (Rings.refl ringFields i s).update (f := fun c => c.retry 1) rfl
  refine ⟨_, retried.update (f := fun c => { c with runOut := 0 }) rfl, ?_⟩
  rw [State.ringLost, if_pos (by rw [retried.chain]; exact beyond)]

end

end Sys2Proof.Machine

/-! PROOFS. Duty frames in RING: the outcomes (section 7.5). -/

namespace Sys2Proof.Machine

open Sys2Proof

/-- Settles O45: the slots of a DUTY frame, and what each outcome of it leaves in RING. -/
theorem dutyFramesInRing : Obligations.DutyFramesInRing := by
  refine ⟨fun r g b hr hg hb => dutySlot_live hr hg hb, dutySlot_blank, fun e hop slots => rfl,
    fun sent reply => ⟨goodDutyReply_iff sent reply, rfl⟩, fun i s awake => ⟨fun d f mode unclean => ?_,
      fun set mode waits => ?_, fun d x reply f k mode one one' clean good here driven clear cool => ?_,
      fun d f mode once long clean quiet driven => ?_,
      fun d x reply f k mode one one' clean here => ⟨fun good off clear cool => ?_, fun bad driven =>
        ⟨fun within => ?_, fun beyond short idle => ?_⟩⟩,
      fun d x reply f k mode one one' clean good here short shown => ?_,
      fun d mode => ⟨fun within => ?_, fun beyond rejoin short => ?_, fun beyond halt idle short => ?_⟩⟩⟩
  · rw [exec_dutyReturned awake, exec_dutyLost awake, dutyReturned_ring_unclean mode unclean]
  · have eq := dutySend_ring mode waits
    have rings := (Rings.refl [.chains] i s).update (f := Chain.dutySend) (by rw [eq, mode]; rfl)
    exact ⟨_, exec_dutyFrameSend awake i, rings.chain.trans eq, rings.others, rings.only⟩
  · have run := exec_dutyReturned_ring mode awake (f := f) (by rw [one]; exact clean)
    rw [one, one'] at run
    have rings := (ring_back mode [.chains]).checksWell here good (.inl (newFaults_quiet clear cool _))
    rw [Node.goodReply_quiet clear cool driven] at rings
    obtain ⟨node, elsewhere, rest⟩ := Chain.setNode_sets (ringBack s.chains[i]) k (s.chains[i].nodes[k].answered reply)
    refine ⟨_, run, ?_, ?_, ?_, rings.others, rings.only⟩ <;> rw [rings.chain]
    · exact node
    · exact elsewhere
    · exact rest
  · obtain ⟨c, rings, rest, named, others⟩ := (ring_back mode [.chains]).checksQuietly long once quiet driven
    refine ⟨_, exec_dutyReturned_ring mode awake clean, ?_, ?_, ?_, rings.others, rings.only⟩ <;> rw [rings.chain]
    · exact named
    · exact others
    · exact rest
  · have run := exec_dutyReturned_ring mode awake (f := f) (by rw [one]; exact clean)
    rw [one, one'] at run
    have rings := (ring_back mode [.chains]).checksWell here good (.inl (newFaults_quiet clear cool _))
    obtain ⟨node, -, -⟩ := Chain.setNode_sets (ringBack s.chains[i]) k
      (s.chains[i].nodes[k].goodReply s.chains[i].rejoin reply)
    refine ⟨_, run, ?_, rings.others, rings.only⟩
    rw [rings.chain, node, Node.goodReply_offline off]
    exact ⟨rfl, rfl, rfl, rfl⟩
  · have run := exec_dutyReturned_ring mode awake (f := f) (by rw [one]; exact clean)
    rw [one, one'] at run
    have rings := (ring_back mode [.chains]).checksBadly here bad driven within
    obtain ⟨node, elsewhere, rest⟩ := Chain.setNode_sets (ringBack s.chains[i]) k
      { s.chains[i].nodes[k] with state := .suspect, badReplies := s.chains[i].nodes[k].badReplies + 1 }
    refine ⟨_, run, ?_, ?_, ?_, rings.others, rings.only⟩ <;> rw [rings.chain]
    · exact node
    · exact elsewhere
    · rw [rest]
      rfl
  · have run := exec_dutyReturned_ring mode awake (f := f) (by rw [one]; exact clean)
    rw [one, one'] at run
    obtain ⟨node, elsewhere, goesOn, halts, others, only⟩ := (ring_back mode ringFields).checksOut short idle nofun here bad
      driven beyond
    exact ⟨_, run, node, elsewhere, ⟨goesOn, halts⟩, others, only⟩
  · have run := exec_dutyReturned_ring mode awake (f := f) (by rw [one]; exact clean)
    rw [one, one'] at run
    have rings := (ring_back mode [.chains, .notices, .noticeLow]).checksWell here good (.inr ⟨short, by decide⟩)
    obtain ⟨node, elsewhere, rest⟩ := Chain.setNode_sets (ringBack s.chains[i]) k
      (s.chains[i].nodes[k].goodReply s.chains[i].rejoin reply)
    refine ⟨_, run, ?_, ?_, ?_, rings.notices, rings.others, rings.only⟩ <;> rw [rings.chain]
    · rw [node]
      exact Node.goodReply_well shown _ _
    · exact elsewhere
    · exact rest
  · have rings := ringLost_again mode d.set within
    exact ⟨_, (exec_dutyLost awake i _).trans (congrArg _ (dutyLost_ring mode)), rings.chain, rings.others, rings.only⟩
  · obtain ⟨u, rings, lost⟩ := ringLost_beyond (i := i) d.set beyond
    rw [State.giveUp, if_neg (by rw [rings.chain]; exact rejoin)] at lost
    obtain ⟨chain, others, notices, marks, only⟩ := rings.locates short true (by rw [mode]; exact nofun)
    rw [← lost] at chain others notices marks only
    exact ⟨_, (exec_dutyLost awake i _).trans (congrArg _ (dutyLost_ring mode)), chain, notices, others, marks, only⟩
  · obtain ⟨u, rings, lost⟩ := ringLost_beyond (i := i) d.set beyond
    rw [State.giveUp, if_pos (by rw [rings.chain]; exact halt)] at lost
    obtain ⟨chain, others, notices, marks, only⟩ := rings.fails short idle (by rw [mode]; exact nofun)
    rw [← lost] at chain others notices marks only
    exact ⟨_, (exec_dutyLost awake i _).trans (congrArg _ (dutyLost_ring mode)), chain, notices, others, marks, only⟩

end Sys2Proof.Machine

/-! PROOFS. The halves of a duty set in SPLIT (section 7.6.2). -/

namespace Sys2Proof.Machine

open Sys2Proof

/-! ## The halves (R139) -/

theorem Split.entries_sent (c : Chain) (x : Split) (set : List DutyEntry) (e : End) :
    (x.entries c.found set e).map c.sentSlot = halfSlots c x set e := by
  cases e with
  | out => rfl
  | inn => exact List.map_reverse

theorem Chain.sendHalf_eq (x : Split) (e : End) (set : List DutyEntry) (c : Chain) : c.sendHalf x e set = { c with
    mode := .split { x with phase := x.phase.withSide e (.half (halfSlots c x set e)) }
    sent := { sender := e, frame := dutyFrame e (x.reach e) (halfSlots c x set e) } :: c.sent } := by
  rw [← Split.entries_sent]
  rfl

theorem Chain.sendIdle_sends {c : Chain} {x : Split} {e : End} (mode : c.mode = .split x)
    (may : x.phase.side e = some .idle ∧ 0 < x.reach e) : c.sendIdle e = c.sendHalf x e x.phase.carried := by
  rw [Chain.sendIdle, mode]
  exact if_pos may

theorem Chain.sendIdle_waits {c : Chain} {x : Split} {e : End} (mode : c.mode = .split x)
    (may : ¬ (x.phase.side e = some .idle ∧ 0 < x.reach e)) : c.sendIdle e = c := by
  rw [Chain.sendIdle, mode]
  exact if_neg may

/-- The record of a SPLIT chain whose idle sides have sent their halves of a set. -/
def halvesSent (c : Chain) (x : Split) (a b : Side) (set : List DutyEntry) (outSends inSends : Bool) : Chain :=
  { c with
    mailbox := none
    mode := .split { x with
      phase := .driving (if outSends then .half (halfSlots c x set .out) else a)
        (if inSends then .half (halfSlots c x set .inn) else b) set }
    sent := (if inSends then [{ sender := .inn, frame := dutyFrame .inn x.inReach (halfSlots c x set .inn) }] else []) ++
      (if outSends then [{ sender := .out, frame := dutyFrame .out x.outReach (halfSlots c x set .out) }] else []) ++
      c.sent }

theorem Chain.takeSplit_eq {x : Split} {a b : Side} {old : List DutyEntry} (phase : x.phase = .driving a b old)
    (set : List DutyEntry) (c : Chain) : c.takeSplit x set =
      halvesSent c x a b set (decide (a = .idle ∧ 0 < x.outReach)) (decide (b = .idle ∧ 0 < x.inReach)) := by
  have inn : ∀ (d : Chain) (v : Side), d.mode = .split { x with phase := .driving v b set } →
      d.sendIdle .inn = if b = .idle ∧ 0 < x.inReach then
        d.sendHalf { x with phase := .driving v b set } .inn set else d := fun d v mode => by
    by_cases may : b = .idle ∧ 0 < x.inReach
    · rw [if_pos may]
      exact Chain.sendIdle_sends mode ⟨congrArg some may.1, may.2⟩
    · rw [if_neg may]
      exact Chain.sendIdle_waits mode fun both => may ⟨Option.some.inj both.1, both.2⟩
  rw [Chain.takeSplit, phase]
  dsimp only
  by_cases may : a = .idle ∧ 0 < x.outReach
  · rw [decide_eq_true may, Chain.sendIdle_sends (x := { x with phase := .driving a b set }) (e := .out) rfl ⟨congrArg some may.1, may.2⟩,
      inn _ (.half (halfSlots c x set .out)) (by rw [Chain.sendHalf_eq]; rfl)]
    by_cases more : b = .idle ∧ 0 < x.inReach
    · rw [if_pos more, decide_eq_true more, Chain.sendHalf_eq, Chain.sendHalf_eq]
      rfl
    · rw [if_neg more, decide_eq_false more, Chain.sendHalf_eq]
      rfl
  · rw [decide_eq_false may, Chain.sendIdle_waits (x := { x with phase := .driving a b set }) (e := .out)
      (by rfl)
      fun both => may ⟨Option.some.inj both.1, both.2⟩, inn _ a rfl]
    by_cases more : b = .idle ∧ 0 < x.inReach
    · rw [if_pos more, decide_eq_true more, Chain.sendHalf_eq]
      rfl
    · rw [if_neg more, decide_eq_false more]
      rfl

/-! ## When a set is taken (R139, R141; log 17) -/

theorem Side.busy_iff (v : Side) : v.busy = false ↔ ∀ slots, v ≠ .half slots := by
  cases v with
  | half slots => exact ⟨nofun, fun no => absurd rfl (no slots)⟩
  | _ => exact ⟨fun _ => nofun, fun _ => rfl⟩

theorem Split.ready_iff {x : Split} {a b : Side} {old : List DutyEntry} (phase : x.phase = .driving a b old) :
    x.ready = true ↔ (x.restore ≠ .expired ∧ (∀ slots, a ≠ .half slots) ∧ ∀ slots, b ≠ .half slots) ∧
      (decide (a = .idle ∧ 0 < x.outReach) = true ∨ decide (b = .idle ∧ 0 < x.inReach) = true) := by
  rw [Split.ready, phase, ← Side.busy_iff, ← Side.busy_iff]
  simp only [Bool.and_eq_true, Bool.or_eq_true, Bool.not_eq_true', bne_iff_ne, beq_iff_eq, decide_eq_true_eq]
  refine and_congr_left' ⟨fun ⟨⟨out, inn⟩, timer⟩ => ⟨timer, out, inn⟩, fun ⟨timer, out, inn⟩ => ⟨⟨out, inn⟩, timer⟩⟩

theorem State.updateChain_fixed {s : State} {i : Fin 4} {f : Chain → Chain} (fixed : f s.chains[i] = s.chains[i]) :
    s.updateChain i f = s := by
  rw [State.updateChain, fixed, State.setChain, if_pos rfl]
  exact congrArg s.setChains (Vector.set_getElem_self _)

section
variable {i : Fin 4} {s : State} {x : Split} (mode : s.chains[i].mode = .split x)
include mode

theorem dutySend_split {set : List DutyEntry} (waits : s.chains[i].mailbox = some set) :
    Chain.dutySend s.chains[i] = if x.ready then s.chains[i].takeSplit x set else s.chains[i] := by
  rw [Chain.dutySend, waits, mode]

/-! ## What comes back on a side -/

section
variable {e : End} {slots : List SentSlot} (half : x.phase.side e = some (.half slots))
include half

theorem dutyLost_split : s.dutyLost i e = s.halfLost i x e := by
  rw [State.dutyLost, mode]
  dsimp only
  rw [half]

theorem dutyReturned_split {f : RingFrame} (clean : frameClean f .duty e slots.length = true) :
    s.dutyReturned i e f =
      (s.updateChain i fun c => (c.setRun e 0).phase x (x.phase.withSide e .idle)).checkReplies i slots f.slots := by
  rw [State.dutyReturned, mode]
  dsimp only
  rw [half]
  exact if_pos clean

end

section
variable {e : End} {hop : Nat} {second : Bool} (relocating : x.phase.side e = some (.relocating hop second))
include relocating

theorem probeLost_split : s.probeLost i e = s.sideMissed i x e hop second := by
  rw [State.probeLost, mode]
  dsimp only
  rw [relocating]
  cases phase : x.phase with
  | restoreProbe =>
    rw [phase] at relocating
    cases e <;> exact nomatch relocating
  | _ => rfl

theorem probeReturned_split {hop' : Nat} : s.probeReturned i e (probeFrame e hop') = s.sideReached i x e hop := by
  rw [State.probeReturned, if_pos (frameClean_probe _ _), mode]
  dsimp only
  rw [relocating]
  cases phase : x.phase with
  | restoreProbe =>
    rw [phase] at relocating
    cases e <;> exact nomatch relocating
  | _ => rfl

end

end

end Sys2Proof.Machine

/-! PROOFS. The outcomes on a side of a SPLIT chain (sections 7.6.2 and 7.6.3). -/

namespace Sys2Proof.Machine

open Sys2Proof

/-! ## The run of an end -/

section
variable (c : Chain) (e : End) (n : Nat)

theorem Chain.setRun_retryLimit : (c.setRun e n).retryLimit = c.retryLimit := by cases e <;> rfl

theorem Chain.setRun_rejoin : (c.setRun e n).rejoin = c.rejoin := by cases e <;> rfl

theorem Chain.setRun_retry (k : Nat) : (c.retry k).setRun e n = { c.setRun e n with retries := min 65535 (c.retries + k) } := by
  cases e <;> rfl

theorem Chain.setRun_nodes : (c.setRun e n).nodes = c.nodes := by cases e <;> rfl

theorem Chain.setRun_found : (c.setRun e n).found = c.found := by cases e <;> rfl

theorem Chain.setRun_sent : (c.setRun e n).sent = c.sent := by cases e <;> rfl

theorem Chain.setRun_mailbox : (c.setRun e n).mailbox = c.mailbox := by cases e <;> rfl

theorem Chain.setRun_retries : (c.setRun e n).retries = c.retries := by cases e <;> rfl

end

theorem halfSlots_congr {c d : Chain} (nodes : d.nodes = c.nodes) (found : d.found = c.found) (x : Split)
    (set : List DutyEntry) (e : End) : halfSlots d x set e = halfSlots c x set e := by
  have slot : slotSent d = slotSent c := funext fun y => by rw [slotSent, slotSent, Chain.nodeAt, nodes, Chain.nodeAt]
  cases e with
  | out => rw [halfSlots, halfSlots, slot]
  | inn => rw [halfSlots, halfSlots, slot, found]

section
variable {i : Fin 4} {s : State} {x : Split} (mode : s.chains[i].mode = .split x) (e : End)
include mode

/-! ## A half is lost (R139) -/

omit mode in
theorem half_retried (fields : List Field) (mem : .chains ∈ fields := by decide) :
    Rings i false fields { s.chains[i].setRun e (s.chains[i].run e + 1) with retries := min 65535 (s.chains[i].retries + 1) }
      s.notices s (s.updateChain i fun c => (c.retry 1).setRun e (c.run e + 1)) := by
  have same : (s.chains[i].retry 1).setRun e (s.chains[i].run e + 1) = { s.chains[i].setRun e (s.chains[i].run e + 1) with
    retries := min 65535 (s.chains[i].retries + 1) } := Chain.setRun_retry _ _ _ _
  rw [← same]
  exact (Rings.refl fields i s).update (f := fun c => (c.retry 1).setRun e (c.run e + 1))
    (congrArg ChainMode.state (Chain.setRun_mode (s.chains[i].retry 1) e (s.chains[i].run e + 1)).symm) mem

/-- Within the retry limit it is sent again. -/
theorem halfLost_again (within : s.chains[i].run e + 1 ≤ s.chains[i].retryLimit) :
    Rings i false [.chains] { s.chains[i].setRun e (s.chains[i].run e + 1) with
      retries := min 65535 (s.chains[i].retries + 1)
      mode := .split { x with
        phase := x.phase.withSide e (.half (halfSlots s.chains[i] x (s.chains[i].mailbox.getD x.phase.carried) e)) }
      sent :=
        { sender := e
          frame := dutyFrame e (x.reach e) (halfSlots s.chains[i] x (s.chains[i].mailbox.getD x.phase.carried) e) } ::
          s.chains[i].sent } s.notices s
      (s.halfLost i x e) := by
  have retried := half_retried (i := i) (s := s) e [.chains]
  have slots := fun set => halfSlots_congr (Chain.setRun_nodes s.chains[i] e (s.chains[i].run e + 1))
    (Chain.setRun_found _ _ _) x set e
  have sent' := Chain.setRun_sent s.chains[i] e (s.chains[i].run e + 1)
  have mailbox := Chain.setRun_mailbox s.chains[i] e (s.chains[i].run e + 1)
  have state := Chain.setRun_mode s.chains[i] e (s.chains[i].run e + 1)
  rw [State.halfLost, if_neg (by
    rw [retried.chain]
    exact Nat.not_lt.2 ((Chain.setRun_run _ _ _).trans_le (within.trans_eq (Chain.setRun_retryLimit _ _ _).symm)))]
  generalize s.chains[i].setRun e (s.chains[i].run e + 1) = d at *
  have again := sideSent mode retried (f := fun c => c.sendHalf x e (c.mailbox.getD x.phase.carried))
    (congrArg ChainMode.state state) fun _ => rfl
  refine again.of_eq ?_
  rw [Chain.sendHalf_eq]
  dsimp only
  rw [mailbox, sent', ← slots]
  rfl

/-- Beyond it the side is re-located. -/
theorem halfLost_relocates (beyond : s.chains[i].retryLimit < s.chains[i].run e + 1) (rejoin : s.chains[i].rejoin ≠ .halt) :
    Rings i false [.chains] { s.chains[i].setRun e (s.chains[i].run e + 1) with
      retries := min 65535 (s.chains[i].retries + 1)
      mode := .split { x with phase := x.phase.withSide e (.relocating 1 false) }
      sent := { sender := e, frame := probeFrame e 1 } :: s.chains[i].sent } s.notices s (s.halfLost i x e) := by
  have retried := half_retried (i := i) (s := s) e [.chains]
  have sent' := Chain.setRun_sent s.chains[i] e (s.chains[i].run e + 1)
  have state := Chain.setRun_mode s.chains[i] e (s.chains[i].run e + 1)
  have rejoin' := Chain.setRun_rejoin s.chains[i] e (s.chains[i].run e + 1)
  rw [State.halfLost, if_pos (by
    rw [retried.chain]
    exact ((Chain.setRun_retryLimit _ _ _).trans_lt beyond).trans_eq (Chain.setRun_run _ _ _).symm),
    if_neg (by rw [retried.chain, rejoin']; exact rejoin)]
  generalize s.chains[i].setRun e (s.chains[i].run e + 1) = d at *
  refine (sideSent mode retried (f := Chain.probeSide x e 1 false) (congrArg ChainMode.state state) fun _ => rfl).of_eq ?_
  rw [← sent']
  rfl

/-- Under HALT the chain fails, outside POWERING. -/
theorem halfLost_fails (beyond : s.chains[i].retryLimit < s.chains[i].run e + 1) (halt : s.chains[i].rejoin = .halt)
    (idle : s.power.state ≠ .powering) (short : s.notices.list.length ≤ 8) :
    Rings i true ringFields (failedChain { s.chains[i].setRun e (s.chains[i].run e + 1) with
      retries := min 65535 (s.chains[i].retries + 1) }) (s.notices.after .chainState (.chain i) (.chain .failed)) s
      (s.halfLost i x e) := by
  have retried := half_retried (i := i) (s := s) e ringFields
  have state := Chain.setRun_mode s.chains[i] e (s.chains[i].run e + 1)
  have rejoin' := Chain.setRun_rejoin s.chains[i] e (s.chains[i].run e + 1)
  rw [State.halfLost, if_pos (by
    rw [retried.chain]
    exact ((Chain.setRun_retryLimit _ _ _).trans_lt beyond).trans_eq (Chain.setRun_run _ _ _).symm),
    if_pos (by rw [retried.chain, rejoin']; exact halt)]
  refine retried.fails short idle ?_
  dsimp only
  rw [state, mode]
  exact nofun

/-! ## A half is back (R139) -/

/-- The record of a SPLIT chain of which a half is back. -/
abbrev halfBack (x : Split) (e : End) (c : Chain) : Chain := (c.setRun e 0).phase x (x.phase.withSide e .idle)

theorem half_back (fields : List Field) (mem : .chains ∈ fields := by decide) :
    Rings i false fields (halfBack x e s.chains[i]) s.notices s (s.updateChain i (halfBack x e)) :=
  sideSent mode (Rings.refl fields i s) rfl (f := halfBack x e) (fun _ => rfl) mem

/-! ## A re-location (R140) -/

theorem sideProbed (hop : Nat) (second : Bool) : Rings i false [.chains] (Chain.probeSide x e hop second s.chains[i]) s.notices s
    (s.updateChain i (Chain.probeSide x e hop second)) :=
  sideSent mode (Rings.refl [.chains] i s) rfl fun _ => rfl

theorem relocated_whole : Rings i false [.chains] (halfBack x e s.chains[i]) s.notices s (s.relocated i x e (x.reach e)) := by
  rw [State.relocated, if_pos rfl]
  have cleared := (Rings.refl [.chains] i s).update (f := fun c => c.setRun e 0)
    (congrArg ChainMode.state (Chain.setRun_mode _ _ _).symm)
  exact sideSent mode cleared (congrArg ChainMode.state (Chain.setRun_mode _ _ _))
    (f := fun c => c.phase x (x.phase.withSide e .idle)) fun _ => rfl

section
variable {reach : Nat} (other : reach ≠ x.reach e) (short : s.notices.list.length ≤ 8) (fields : List Field)
  (mem : .chains ∈ fields ∧ .notices ∈ fields ∧ .noticeLow ∈ fields)
include other short mem

/-- The side shrinks, before the chain may fail. -/
theorem relocated_shrunk : ∃ u, Rings i false fields (Chain.shrink x e reach (s.chains[i].setRun e 0))
      (s.notices.after .chainState (.chain i) (.chain (.split ((x.withReach e reach).break s.chains[i].found)))) s u ∧
    s.relocated i x e reach =
      if (x.withReach e reach).outReach = 0 ∧ (x.withReach e reach).inReach = 0 then u.failChain i else u := by
  have cleared := (Rings.refl fields i s).update (f := fun c => c.setRun e 0)
    (congrArg ChainMode.state (Chain.setRun_mode _ _ _).symm) mem.1
  have shrunk := (sideSent mode cleared (f := Chain.shrink x e reach) (congrArg ChainMode.state (Chain.setRun_mode _ _ _))
    (fun _ => rfl) mem.1).raise short .chainState (.chain i)
      (.chain (.split ((x.withReach e reach).break s.chains[i].found))) mem.2
  refine ⟨_, shrunk, ?_⟩
  rw [State.relocated, if_neg other, cleared.chain, Chain.setRun_found]
  rfl

end

end

theorem Chain.shrink_node (x : Split) (e : End) (reach : Nat) (c : Chain) (k : Fin 60) :
    (Chain.shrink x e reach c).nodes[k] =
      if x.beyond c.found e reach (k.val + 1) then { c.nodes[k] with state := .unreachable } else c.nodes[k] :=
  Chain.mapNodes_node _ (fun p n => if x.beyond c.found e reach p then { n with state := .unreachable } else n) k

theorem Chain.shrink_eq (x : Split) (e : End) (reach : Nat) (c : Chain) : Chain.shrink x e reach c = { c with
    nodes := (Chain.shrink x e reach c).nodes, brk := some ((x.withReach e reach).break c.found)
    mode := .split { x.withReach e reach with phase := x.phase.withSide e .idle } } := rfl

end Sys2Proof.Machine

/-! PROOFS. Duty sets in SPLIT: the outcomes (sections 7.6.2 and 7.6.3). -/

namespace Sys2Proof.Machine

open Sys2Proof

/-- What a side of a driven SPLIT chain does, and the phase in which it does something else. -/
theorem SplitPhase.side_driving (e : End) (a b : Side) (set : List DutyEntry) :
    (SplitPhase.driving a b set).side e = some (match e with
      | .out => a
      | .inn => b) ∧
    ∀ v, (SplitPhase.driving a b set).withSide e v = (match e with
      | .out => .driving v b set
      | .inn => .driving a v set) := by
  cases e <;> exact ⟨rfl, fun _ => rfl⟩

section
variable (x : Split) (e : End) (c : Chain)

theorem halfBack_nodes : (halfBack x e c).nodes = c.nodes := Chain.setRun_nodes c e 0

theorem halfBack_rejoin : (halfBack x e c).rejoin = c.rejoin := Chain.setRun_rejoin c e 0

theorem halfBack_retryLimit : (halfBack x e c).retryLimit = c.retryLimit := Chain.setRun_retryLimit c e 0

theorem halfBack_retries : (halfBack x e c).retries = c.retries := Chain.setRun_retries c e 0

end

theorem halfBack_eq {x : Split} {e : End} {c : Chain} {f : Side → SplitPhase} (withSide : ∀ v, x.phase.withSide e v = f v) :
    halfBack x e c = { c.setRun e 0 with mode := .split { x with phase := f .idle } } := by
  rw [halfBack, withSide]
  rfl

theorem probeSide_eq {x : Split} {e : End} {c : Chain} {f : Side → SplitPhase} (withSide : ∀ v, x.phase.withSide e v = f v)
    (hop : Nat) (second : Bool) : Chain.probeSide x e hop second c = { c with
      mode := .split { x with phase := f (.relocating hop second) }
      sent := { sender := e, frame := probeFrame e hop } :: c.sent } := by
  rw [Chain.probeSide, withSide]
  rfl

theorem Split.beyond_succ (x : Split) (n : Nat) (e : End) (reach k : Nat) : x.beyond n e reach (k + 1) = (match e with
    | .out => decide (reach ≤ k ∧ k < x.outReach)
    | .inn => decide (n - x.inReach ≤ k ∧ k < n - reach)) := by
  cases e <;> exact decide_eq_decide.2 (and_congr_left' Nat.lt_succ_iff)

/-- A record of which one node record is new, with one retry more. -/
theorem SetsNode.retried {k : Fin 60} {n : Node} {c d : Chain} (sets : SetsNode k n c d) {r : Nat} (retries : c.retries = r) :
    d.retry 1 = { c with retries := min 65535 (r + 1), nodes := (d.retry 1).nodes } := by
  rw [sets.rest, ← retries]
  rfl

/-- Settles O48: a set is taken, and what each outcome on a side leaves. -/
theorem splitSendsTwoHalves : Obligations.SplitSendsTwoHalves := by
  refine fun i x s awake mode => ⟨fun set old a b phase waits => ⟨fun free sends => ?_, fun no => ?_⟩,
    fun e a b carried phase => ?_⟩
  · have eq : Chain.dutySend s.chains[i] = halvesSent s.chains[i] x a b set (decide (a = .idle ∧ 0 < x.outReach))
        (decide (b = .idle ∧ 0 < x.inReach)) := by
      rw [dutySend_split mode waits, if_pos ((Split.ready_iff phase).2 ⟨free, sends⟩), Chain.takeSplit_eq phase]
    have rings := (Rings.refl [.chains] i s).update (f := Chain.dutySend) (by rw [eq, mode]; rfl)
    exact ⟨_, exec_dutyFrameSend awake i, rings.chain.trans eq, rings.others, rings.only⟩
  · rw [exec_dutyFrameSend awake, State.updateChain_fixed]
    rw [dutySend_split mode waits, if_neg fun ready => no ((Split.ready_iff phase).1 ready)]
  obtain ⟨side, withSide⟩ := SplitPhase.side_driving e a b carried
  have reach : ∀ e : End, (match e with
      | .out => x.outReach
      | .inn => x.inReach) = x.reach e := fun e => by cases e <;> rfl
  have carries : x.phase.carried = carried := by rw [phase]; rfl
  rw [← phase] at side withSide
  have returned : ∀ {slots f}, frameClean f .duty e slots.length = true → (match e with
      | .out => a
      | .inn => b) = .half slots → exec (.dutyReturned i e f) s =
        .next ((s.updateChain i (halfBack x e)).checkReplies i slots f.slots) := fun clean half =>
    (exec_dutyReturned awake i e _).trans
      (congrArg _ (dutyReturned_split mode (side.trans (congrArg some half)) clean))
  refine ⟨fun slots half => ⟨fun within => ?_, fun beyond rejoin => ?_, fun beyond halt idle short => ?_⟩,
    fun slots f half long clean => ⟨fun once quiet driven => ?_, fun y reply k one one' here good short shown => ?_,
      fun y reply k one one' here bad driven => ⟨fun within => ?_, fun beyond short idle => ?_⟩⟩,
    fun hop second relocating low high => ⟨fun less => ?_, fun last => ?_, fun first => ?_,
      fun again fits few short some' => ?_, fun again one fits few idle short none' => ?_⟩⟩
  · have rings := halfLost_again mode e within
    rw [carries, withSide] at rings
    exact ⟨_, (exec_dutyLost awake i e).trans (congrArg _ (dutyLost_split mode (side.trans (congrArg some half)))), rings.chain,
      rings.others, rings.only⟩
  · have rings := halfLost_relocates mode e beyond rejoin
    rw [withSide] at rings
    exact ⟨_, (exec_dutyLost awake i e).trans (congrArg _ (dutyLost_split mode (side.trans (congrArg some half)))), rings.chain,
      rings.others, rings.only⟩
  · obtain ⟨chain, others, notices, marks, only⟩ := halfLost_fails mode e beyond halt idle short
    exact ⟨_, (exec_dutyLost awake i e).trans (congrArg _ (dutyLost_split mode (side.trans (congrArg some half)))), chain,
      notices, others, marks, only⟩
  · obtain ⟨c, rings, rest, named, others⟩ := (half_back mode e [.chains]).checksQuietly long once quiet
      (by rw [halfBack_nodes]; exact driven)
    rw [halfBack_nodes] at named others
    rw [halfBack_eq withSide] at rest
    refine ⟨_, returned clean half, ?_, ?_, ?_, rings.others, rings.only⟩ <;> rw [rings.chain]
    · exact named
    · exact others
    · exact rest
  · have run := returned clean half
    have rings := (half_back mode e [.chains, .notices, .noticeLow]).checksWell here good (.inr ⟨short, by decide⟩)
    have sets := Chain.setNode_sets (halfBack x e s.chains[i]) k
      ((halfBack x e s.chains[i]).nodes[k].goodReply (halfBack x e s.chains[i]).rejoin reply)
    rw [one, one'] at run
    rw [halfBack_nodes, halfBack_rejoin] at rings sets
    obtain ⟨node, elsewhere, rest⟩ := sets
    rw [halfBack_nodes] at elsewhere
    rw [halfBack_eq withSide] at node elsewhere rest rings
    refine ⟨_, run, ?_, ?_, ?_, rings.notices, rings.others, rings.only⟩ <;> rw [rings.chain]
    · rw [node]
      exact Node.goodReply_well shown _ _
    · exact elsewhere
    · exact rest
  · have run := returned clean half
    have rings := (half_back mode e [.chains]).checksBadly here bad (by rw [halfBack_nodes]; exact driven)
      (by rw [halfBack_nodes, halfBack_retryLimit]; exact within)
    have sets := Chain.setNode_sets (halfBack x e s.chains[i]) k { s.chains[i].nodes[k] with
      state := .suspect, badReplies := s.chains[i].nodes[k].badReplies + 1 }
    have whole := sets.retried (halfBack_retries x e s.chains[i])
    rw [one, one'] at run
    rw [halfBack_nodes] at rings
    obtain ⟨node, elsewhere, -⟩ := sets
    rw [halfBack_nodes] at elsewhere
    rw [halfBack_eq withSide] at node elsewhere whole rings
    rw [← rings.chain] at whole
    refine ⟨_, run, ?_, ?_, whole, rings.others, rings.only⟩ <;> rw [rings.chain]
    · exact node
    · exact elsewhere
  · have run := returned clean half
    obtain ⟨node, elsewhere, goesOn, halts, others, only⟩ := (half_back mode e ringFields).checksOut short idle nofun here bad
      (by rw [halfBack_nodes]; exact driven) (by rw [halfBack_nodes, halfBack_retryLimit]; exact beyond)
    rw [one, one'] at run
    have retries := halfBack_retries x e s.chains[i]
    have rejoin' := halfBack_rejoin x e s.chains[i]
    rw [retries] at goesOn halts
    rw [halfBack_nodes] at node elsewhere
    rw [halfBack_eq withSide] at goesOn halts rejoin'
    exact ⟨_, run, node, elsewhere, ⟨fun rejoin => goesOn (rejoin'.trans_ne rejoin), fun halt => halts (rejoin'.trans halt)⟩,
      others, only⟩
  · have reached := probeReturned_split mode (hop' := 0) (side.trans (congrArg some relocating))
    rw [State.sideReached, if_neg (Nat.not_le.2 (less.trans_eq (reach e)))] at reached
    have rings := sideProbed mode e (hop + 1) false
    rw [probeSide_eq withSide] at rings
    exact ⟨_, (exec_probeReturned awake i e _).trans (congrArg _ reached), rings.chain, rings.others, rings.only⟩
  · have reached := probeReturned_split mode (hop' := 0) (side.trans (congrArg some relocating))
    have last' : hop = x.reach e := last.trans (reach e)
    rw [State.sideReached, if_pos last'.ge, last'] at reached
    have rings := relocated_whole mode e
    rw [halfBack_eq withSide] at rings
    exact ⟨_, (exec_probeReturned awake i e _).trans (congrArg _ reached), rings.chain, rings.others, rings.only⟩
  · have missed := probeLost_split mode (side.trans (congrArg some relocating))
    rw [State.sideMissed, if_neg (by rw [first]; exact Bool.false_ne_true)] at missed
    have rings := sideProbed mode e hop true
    rw [probeSide_eq withSide] at rings
    exact ⟨_, (exec_probeLost awake i e).trans (congrArg _ missed), rings.chain, rings.others, rings.only⟩
  · have missed := probeLost_split mode (side.trans (congrArg some relocating))
    have high' : hop ≤ x.reach e := high.trans_eq (reach e)
    rw [State.sideMissed, if_pos again] at missed
    obtain ⟨u, rings, shrunk⟩ := relocated_shrunk mode e (reach := hop - 1) (by omega) short [.chains, .notices, .noticeLow]
      (by decide)
    rw [if_neg (by cases e <;> simp only [Split.withReach] <;> omega)] at shrunk
    rw [shrunk] at missed
    have chain := rings.chain.trans (Chain.shrink_eq _ _ _ _)
    rw [Chain.setRun_found, withSide, ← rings.chain] at chain
    refine ⟨u, (exec_probeLost awake i e).trans (congrArg _ missed), ⟨?_, fun k => ?_, ?_⟩, rings.others, rings.only⟩
    · cases e <;> exact chain
    · rw [rings.chain, Chain.shrink_node, Chain.setRun_found, Chain.setRun_nodes, Split.beyond_succ] <;> cases e <;> rfl
    · cases e <;> exact rings.notices
  · have missed := probeLost_split mode (side.trans (congrArg some relocating))
    have high' : hop ≤ x.reach e := high.trans_eq (reach e)
    rw [State.sideMissed, if_pos again] at missed
    obtain ⟨u, rings, shrunk⟩ := relocated_shrunk mode e (reach := hop - 1) (by omega) short ringFields (by decide)
    have empty : (x.withReach e (hop - 1)).outReach = 0 ∧ (x.withReach e (hop - 1)).inReach = 0 := by
      rw [one]
      cases e
      · exact ⟨rfl, none'⟩
      · exact ⟨none', rfl⟩
    have brk : (x.withReach e (hop - 1)).break s.chains[i].found = { lastOut := 0, firstIn := s.chains[i].found + 1 } := by
      rw [Split.break, empty.1, empty.2, Nat.sub_zero]
    have failed := rings.fails (Notices.after_length short _ _ _) idle (by exact nofun)
    rw [if_pos empty] at shrunk
    rw [shrunk] at missed
    have chain := failed.chain
    have nodes : (u.failChain i).chains[i].nodes = (Chain.shrink x e (hop - 1) (s.chains[i].setRun e 0)).nodes := by
      rw [chain]
      rfl
    rw [Chain.shrink_eq, Chain.setRun_found, brk, ← nodes] at chain
    refine ⟨_, (exec_probeLost awake i e).trans (congrArg _ missed), ⟨?_, fun k => ?_, ?_⟩, failed.others, failed.marked,
      failed.only⟩
    · cases e <;> exact chain
    · rw [nodes, Chain.shrink_node, Chain.setRun_found, Chain.setRun_nodes, Split.beyond_succ, one]
      cases e
      · exact if_congr (by rw [decide_eq_true_eq, decide_eq_true_eq]; exact and_iff_right (Nat.zero_le _)) rfl rfl
      · rfl
    · rw [failed.notices, brk]

end Sys2Proof.Machine

/-! PROOFS. Stages 6 to 10 of a frame: drives, calibration, derating and the duty set (chapter 6). -/

namespace Sys2Proof.Machine

open Sys2Proof

/-! ## Which records are delivered (R100) -/

theorem Node.lit_iff (n : Node) : n.lit = true ↔ n.burns := by
  rw [Node.lit, Bool.and_eq_true, Bool.not_eq_true', Node.burns]
  refine and_congr_left' ?_
  cases n.state <;> decide

theorem ChainState.driven_iff (c : ChainState) : c.driven = true ↔ c = .ring ∨ c = .split := by
  cases c <;> decide

section
variable {f : Snapshot} {r : Record}

theorem Snapshot.deliverable_burns {k : Fin 60} (place : r.node.position = k.val + 1)
    (drives : f.chains[r.node.chain].state = .ring ∨ f.chains[r.node.chain].state = .split)
    (burns : f.chains[r.node.chain].nodes[k].burns) : f.deliverable r = some f.chains[r.node.chain].nodes[k] := by
  rw [Snapshot.deliverable, if_pos ((ChainState.driven_iff _).2 drives), Snapshot.nodeAt, placeOf_eq_some.2 place]
  exact Option.filter_some_pos ((Node.lit_iff _).2 burns)

theorem Snapshot.deliverable_none
    (dark : f.chains[r.node.chain].state ≠ .ring ∧ f.chains[r.node.chain].state ≠ .split ∨
      ∀ k : Fin 60, r.node.position = k.val + 1 → ¬ f.chains[r.node.chain].nodes[k].burns) : f.deliverable r = none := by
  refine Option.eq_none_iff_forall_not_mem.2 fun n delivered => ?_
  rw [Option.mem_def, Snapshot.deliverable] at delivered
  split at delivered
  · next drives =>
    obtain ⟨found, lit⟩ := Option.filter_eq_some_iff.1 delivered
    obtain ⟨k, place, rfl⟩ := Option.map_eq_some_iff.1 found
    rcases dark with ⟨ring, split⟩ | dark
    · exact ((ChainState.driven_iff _).1 drives).elim ring split
    · exact dark k (placeOf_eq_some.1 place) ((Node.lit_iff _).1 lit)
  · cases delivered

/-- The drive of a deliverable record (R103, R108, R111). -/
theorem Snapshot.drive_burns {k : Fin 60} (place : r.node.position = k.val + 1) {n : Node} (delivered : f.deliverable r = some n) :
    f.drive r = some { position := k.val + 1, bin := n.bin, duty := (f.bins[n.bin].calibrate
      (r.colour.map fun x => x * (f.level * f.envelope / 1000) / 1000)).map fun x => x * f.thermal r.node.chain / 1000 } := by
  rw [Snapshot.drive, delivered, ← place]
  rfl

end

/-! ## Calibration (R108) -/

theorem rowDrive_toNat (row : Int × Int × Int) (p : Rgb) : (rowDrive row p).toNat = rowValue row p := by
  rw [rowValue, ← rowDrive]
  omega

theorem Bin.calibrate_eq (b : Bin) (p : Rgb) : b.calibrate p =
    Rgb.gamut { r := rowValue b.red p, g := rowValue b.green p, b := rowValue b.blue p } := by
  rw [Bin.calibrate, rowDrive_toNat, rowDrive_toNat, rowDrive_toNat]

theorem Rgb.gamut_within {q : Rgb} (within : max q.r (max q.g q.b) ≤ 4095) : q.gamut = q :=
  if_neg (Nat.not_lt.2 within)

theorem Rgb.gamut_beyond {q : Rgb} (beyond : 4095 < max q.r (max q.g q.b)) : q.gamut =
    { r := q.r * 4095 / max q.r (max q.g q.b), g := q.g * 4095 / max q.r (max q.g q.b)
      b := q.b * 4095 / max q.r (max q.g q.b) } :=
  if_pos beyond

/-- The identity matrix leaves a colour as it is. -/
theorem Bin.calibrate_identity {b : Bin} (red : b.red = (1024, 0, 0)) (green : b.green = (0, 1024, 0))
    (blue : b.blue = (0, 0, 1024)) {p : Rgb} (low : p.le 4095) : b.calibrate p = p := by
  obtain ⟨r, g, b'⟩ := p
  obtain ⟨hr, hg, hb⟩ := low
  have value : rowValue b.red ⟨r, g, b'⟩ = r ∧ rowValue b.green ⟨r, g, b'⟩ = g ∧ rowValue b.blue ⟨r, g, b'⟩ = b' := by
    rw [red, green, blue]
    dsimp only [rowValue]
    omega
  rw [Bin.calibrate_eq, value.1, value.2.1, value.2.2]
  dsimp only at hr hg hb
  exact Rgb.gamut_within (by dsimp only; omega)

/-! ## Thermal derating (R110) -/

theorem thermalFactor_between {knee limit t : Int} (above : knee < t) (below : t < limit) :
    (thermalFactor knee limit (some t) : Int) = 1000 - 700 * (t - knee) / (limit - knee) := by
  have least : 0 ≤ 700 * (t - knee) / (limit - knee) := Int.ediv_nonneg (by omega) (by omega)
  have most : 700 * (t - knee) / (limit - knee) ≤ 700 := Int.ediv_le_of_le_mul (by omega) (by nlinarith)
  have factor : thermalFactor knee limit (some t) = 1000 - (700 * (t - knee) / (limit - knee)).toNat := by
    rw [thermalFactor, if_neg (by omega), if_pos below]
  omega

section
variable (c : ChainSnapshot)

theorem ChainSnapshot.hottest_none (dark : ∀ k : Fin 60, ¬ c.nodes[k].burns) : c.hottest = none := by
  rw [ChainSnapshot.hottest, List.max?_eq_none_iff, List.map_eq_nil_iff, List.filter_eq_nil_iff]
  intro n mem lit
  obtain ⟨k, hk, e⟩ := List.mem_iff_getElem.1 mem
  rw [Vector.length_toList] at hk
  exact dark ⟨k, hk⟩ ((Node.lit_iff _).1 (e ▸ lit))

theorem ChainSnapshot.hottest_some {k : Fin 60} (burns : c.nodes[k].burns)
    (most : ∀ j : Fin 60, c.nodes[j].burns → c.nodes[j].temperature ≤ c.nodes[k].temperature) :
    c.hottest = some c.nodes[k].temperature := by
  rw [ChainSnapshot.hottest, List.max?_eq_some_iff]
  refine ⟨List.mem_map.2 ⟨c.nodes[k], List.mem_filter.2 ⟨?_, (Node.lit_iff _).2 burns⟩, rfl⟩, fun t mem => ?_⟩
  · exact Vector.mem_toList_iff.2 (Vector.getElem_mem k.isLt)
  · obtain ⟨n, kept, rfl⟩ := List.mem_map.1 mem
    obtain ⟨inside, lit⟩ := List.mem_filter.1 kept
    obtain ⟨j, hj, e⟩ := List.mem_iff_getElem.1 inside
    rw [Vector.length_toList] at hj
    subst e
    exact most ⟨j, hj⟩ ((Node.lit_iff _).1 lit)

end

/-! ## The duty set (R116) -/

theorem dutyEntry_none_iff (ds : List Drive) (k : Fin 60) (n : Node) :
    dutyEntry ds k n = none ↔ ¬ (n.state ≠ .absent ∧ n.state ≠ .unreachable) := by
  unfold dutyEntry
  cases n.state with
  | absent => exact iff_of_true rfl fun both => both.1 rfl
  | unreachable => exact iff_of_true rfl fun both => both.2 rfl
  | online | suspect | offline =>
    refine iff_of_false (fun none' => ?_) fun no => no ⟨nofun, nofun⟩
    dsimp only at none'
    split at none' <;> cases none'

theorem dutyEntry_position {ds : List Drive} {k : Fin 60} {n : Node} {e : DutyEntry} (h : dutyEntry ds k n = some e) :
    e.position = k.val + 1 := by
  rcases dutyEntry_eq_some h with rfl | ⟨d, -, rfl⟩ <;> rfl

section
variable (f : Snapshot) (c : Fin 4)

theorem Snapshot.mem_dutySet {e : DutyEntry} :
    e ∈ f.dutySet c ↔ ∃ k : Fin 60, dutyEntry (f.budgeted c) k f.chains[c].nodes[k] = some e := by
  rw [Snapshot.dutySet, List.mem_filterMap]
  exact ⟨fun ⟨k, _, h⟩ => ⟨k, h⟩, fun ⟨k, h⟩ => ⟨k, List.mem_finRange k, h⟩⟩

theorem Snapshot.budgeted_duty_le {d : Drive} (h : d ∈ f.budgeted c) : d.duty.le 4095 := by
  rw [Snapshot.budgeted_eq] at h
  obtain ⟨d, mem, rfl⟩ := List.mem_map.1 h
  refine Rgb.le_map (Snapshot.drives_duty_le mem) fun x hx => ?_
  exact Nat.div_le_of_le_mul ((Nat.mul_le_mul hx (budgetFactor_le _ _)).trans_eq (Nat.mul_comm _ _))

theorem Snapshot.dutySet_le {e : DutyEntry} (mem : e ∈ f.dutySet c) {r g b : Nat} (live : e.duty = .live r g b) :
    r ≤ 4095 ∧ g ≤ 4095 ∧ b ≤ 4095 := by
  obtain ⟨k, entry⟩ := (f.mem_dutySet c).1 mem
  rcases dutyEntry_eq_some entry with rfl | ⟨d, found, rfl⟩
  · cases live
  · have low := f.budgeted_duty_le c (List.mem_of_find?_eq_some found)
    cases live
    exact low

theorem Snapshot.dutySet_ascends : ((f.dutySet c).map (·.position)).IsChain (· < ·) := by
  refine List.Pairwise.isChain ?_
  rw [List.pairwise_map, Snapshot.dutySet, List.pairwise_filterMap]
  refine (List.pairwise_lt_finRange 60).imp fun {j k} less d found d' found' => ?_
  rw [dutyEntry_position found, dutyEntry_position found']
  exact Nat.succ_lt_succ less

theorem Snapshot.dutySet_positions (k : Fin 60) : k.val + 1 ∈ (f.dutySet c).map (·.position) ↔
    f.chains[c].nodes[k].state ≠ .absent ∧ f.chains[c].nodes[k].state ≠ .unreachable := by
  constructor
  · intro mem
    obtain ⟨e, mem, at'⟩ := List.mem_map.1 mem
    obtain ⟨j, entry⟩ := (f.mem_dutySet c).1 mem
    obtain rfl : j = k := Fin.ext (Nat.succ.inj ((dutyEntry_position entry).symm.trans at'))
    by_contra no
    rw [(dutyEntry_none_iff _ _ _).2 no] at entry
    cases entry
  · intro holds
    cases entry : dutyEntry (f.budgeted c) k f.chains[c].nodes[k] with
    | none => exact absurd holds ((dutyEntry_none_iff _ _ _).1 entry)
    | some e => exact List.mem_map.2 ⟨e, (f.mem_dutySet c).2 ⟨k, entry⟩, dutyEntry_position entry⟩

theorem Snapshot.estimate_le : (f.output c).estimate ≤ 10 * f.chains[c].budget := by
  have draw : totalLoad f.bins (f.budgeted c) ≤ 40950 * f.chains[c].budget := f.budgeted_draw_le c
  show totalLoad f.bins (f.budgeted c) / 4095 ≤ _
  omega

variable (k : Fin 60)

/-- A place that holds a node has the entry of the drive that stands there, or a BLANK one. -/
theorem Snapshot.dutySet_holds
    (holds : f.chains[c].nodes[k].state ≠ .absent ∧ f.chains[c].nodes[k].state ≠ .unreachable) :
    (⟨k.val + 1, match f.driveAt c k with
      | none => .blank
      | some d => .live d.duty.r d.duty.g d.duty.b⟩ : DutyEntry) ∈ f.dutySet c := by
  refine (f.mem_dutySet c).2 ⟨k, ?_⟩
  have entry : ∀ ds n, n.state ≠ .absent ∧ n.state ≠ .unreachable → dutyEntry ds k n =
      some ⟨k.val + 1, match ds.find? fun d => d.position == k.val + 1 with
        | none => .blank
        | some d => .live d.duty.r d.duty.g d.duty.b⟩ := fun ds n some' => by
    unfold dutyEntry
    cases state : n.state with
    | absent => exact absurd state some'.1
    | unreachable => exact absurd state some'.2
    | online | suspect | offline =>
      dsimp only
      cases ds.find? fun d => d.position == k.val + 1 <;> rfl
  exact entry _ _ holds

/-- No drive stands at a place of which no record is delivered. -/
theorem Snapshot.driveAt_none (dark : ∀ r ∈ f.allRecords, r.node = ⟨c, k.val + 1⟩ → f.deliverable r = none) :
    f.driveAt c k = none := by
  refine Option.eq_none_iff_forall_not_mem.2 fun d found => ?_
  obtain ⟨mem, place, -⟩ := Snapshot.driveAt_eq_some (Option.mem_def.1 found)
  rw [Snapshot.budgeted_eq] at mem
  obtain ⟨d, stands, rfl⟩ := List.mem_map.1 mem
  obtain ⟨r, record, rfl, drive⟩ := Snapshot.mem_drives.1 stands
  have none' := dark r record (congrArg (NodeRef.mk _) ((Snapshot.drive_eq_some drive).1.symm.trans place))
  rw [Snapshot.drive_none none'] at drive
  cases drive

theorem Snapshot.driveAt_dark (dark : ¬ f.chains[c].nodes[k].burns) : f.driveAt c k = none := by
  refine f.driveAt_none c k fun r _ node => ?_
  obtain ⟨place, colour⟩ := r
  obtain rfl : place = ⟨c, k.val + 1⟩ := node
  refine Snapshot.deliverable_none (.inr fun j same => ?_)
  obtain rfl : j = k := Fin.ext (Nat.succ.inj same).symm
  exact dark

theorem Snapshot.dutySet_blank
    (holds : f.chains[c].nodes[k].state ≠ .absent ∧ f.chains[c].nodes[k].state ≠ .unreachable) (dark : f.driveAt c k = none) :
    (⟨k.val + 1, .blank⟩ : DutyEntry) ∈ f.dutySet c := by
  have entry := f.dutySet_holds c k holds
  rw [dark] at entry
  exact entry

/-- Where no two records are of one node, the drive of a record stands at its place, scaled by the budget factor. -/
theorem Snapshot.driveAt_record (once : (f.allRecords.map (·.node)).Nodup) {r : Record} (mem : r ∈ f.allRecords)
    (node : r.node = ⟨c, k.val + 1⟩) {d : Drive} (drive : f.drive r = some d) :
    f.driveAt c k = some (d.scaled (f.output c).budget) := by
  have position : d.position = k.val + 1 := by rw [(Snapshot.drive_eq_some drive).1, node]
  have scaled : d.scaled (f.output c).budget ∈ f.budgeted c :=
    List.mem_map_of_mem (Snapshot.mem_drives.2 ⟨r, mem, by rw [node], drive⟩)
  cases found : f.driveAt c k with
  | none =>
    exact absurd (beq_iff_eq.2 position) (List.find?_eq_none.1 found (d.scaled (f.output c).budget) scaled)
  | some d' =>
    obtain ⟨mem', place, -⟩ := Snapshot.driveAt_eq_some found
    obtain ⟨e, here, rfl⟩ := List.mem_map.1 mem'
    have same : e = d := List.inj_on_of_nodup_map (Snapshot.drives_nodup once c) here
      (Snapshot.mem_drives.2 ⟨r, mem, by rw [node], drive⟩) (place.trans position.symm)
    rw [same]
    rfl

end

end Sys2Proof.Machine

/-! PROOFS. Stages 1 to 3 of a frame: which cues light a zone, and the levels and colours of a cue (chapter 5, section 2). -/

namespace Sys2Proof.Machine

open Sys2Proof

/-! ## Selection (R87, R88) -/

section
variable {α : Type}

/-- The last member of the highest rank in a list. -/
def highest (rank : α → Nat) (l : List α) : Option α :=
  l.foldl (fun best k =>
    match best with
    | none => some k
    | some j => if rank k < rank j then some j else some k) none

theorem highest_append (rank : α → Nat) (l : List α) (x : α) : highest rank (l ++ [x]) =
    (highest rank l).elim (some x) fun j => if rank x < rank j then some j else some x := by
  rw [highest, List.foldl_append, ← highest]
  cases highest rank l <;> rfl

/-- A member that ranks above every other of a list, or as high and after it. -/
def ranksFirst (rank : α → Nat) (before : α → α → Prop) (l : List α) (k : α) : Prop :=
  k ∈ l ∧ ∀ j ∈ l, j ≠ k → rank j < rank k ∨ rank j = rank k ∧ before j k

variable (rank : α → Nat) {before : α → α → Prop}

theorem highest_spec (l : List α) (sorted : l.Pairwise before) :
    l = [] ∨ ∃ k, highest rank l = some k ∧ ranksFirst rank before l k := by
  induction l using List.reverseRecOn with
  | nil => exact .inl rfl
  | append_singleton l x ih =>
    obtain ⟨sorted, -, last⟩ := List.pairwise_append.1 sorted
    have last := fun j mem => last j mem x (List.mem_singleton_self x)
    refine .inr ?_
    rw [highest_append]
    rcases ih sorted with rfl | ⟨k, best, mem, first⟩
    · exact ⟨x, rfl, List.mem_singleton_self x, fun j mem other => absurd (List.mem_singleton.1 mem) other⟩
    · rw [best, Option.elim_some]
      by_cases less : rank x < rank k
      · rw [if_pos less]
        refine ⟨k, rfl, List.mem_append_left _ mem, fun j mem other => ?_⟩
        rcases List.mem_append.1 mem with mem | mem
        · exact first j mem other
        · rw [List.mem_singleton.1 mem]
          exact .inl less
      · rw [if_neg less]
        refine ⟨x, rfl, List.mem_append_right _ (List.mem_singleton_self x), fun j inside other => ?_⟩
        rcases List.mem_append.1 inside with inside | inside
        · have low : rank j ≤ rank k := by
            by_cases same : j = k
            · rw [same]
            · exact (first j inside same).elim Nat.le_of_lt fun both => both.1.le
          rcases Nat.lt_or_ge (rank j) (rank x) with under | above
          · exact .inl under
          · exact .inr ⟨by omega, last j inside⟩
        · exact absurd (List.mem_singleton.1 inside) other

theorem highest_iff (asymm : ∀ a b, before a b → ¬ before b a) {l : List α} (sorted : l.Pairwise before) (k : α) :
    highest rank l = some k ↔ ranksFirst rank before l k := by
  rcases highest_spec rank l sorted with rfl | ⟨k', best, spec⟩
  · exact iff_of_false nofun fun first => List.not_mem_nil first.1
  · rw [best, Option.some.injEq]
    refine ⟨fun same => same ▸ spec, fun first => ?_⟩
    by_contra other
    rcases spec.2 k first.1 fun same => other same.symm with less | ⟨-, earlier⟩
    · rcases first.2 k' spec.1 other with less' | ⟨same, -⟩ <;> omega
    · rcases first.2 k' spec.1 other with less' | ⟨-, later⟩
      · rcases spec.2 k first.1 fun same => other same.symm with less | ⟨same, -⟩ <;> omega
      · exact asymm _ _ earlier later

theorem highest_last (l : List α) : highest (fun _ => 0) l = l.getLast? := by
  induction l using List.reverseRecOn with
  | nil => rfl
  | append_singleton l x ih =>
    rw [highest_append, List.getLast?_append, List.getLast?_singleton, Option.some_or]
    cases highest (fun _ => 0) l <;> rfl

theorem pairwise_idxOf [DecidableEq α] {l : List α} (once : l.Nodup) :
    l.Pairwise fun a b => l.idxOf a < l.idxOf b := by
  rw [List.pairwise_iff_getElem]
  intro i j hi hj less
  rw [once.idxOf_getElem i hi, once.idxOf_getElem j hj]
  exact less

end

section
variable (t : CueTable) (z : Fin 16) (l : Layer) (k : Fin 48)

theorem CueTable.has_iff (p : Cue → Bool) : t.has z l p k = true ↔ ∃ c, t.slots[k].cue = some c ∧ c.desc.layer = l ∧
    c.desc.zones.getLsbD z = true ∧ p c = true := by
  rw [CueTable.has, Option.any_eq_true]
  simp only [Bool.and_eq_true, beq_iff_eq, Cue.touches, and_assoc]

theorem Cue.eligible_iff (c : Cue) : c.eligible = true ↔ c.phase.isFadingOut = false ∧
    ∀ g, c.gateRun = some g → g.opened = true ∨ c.gateEnvelope ≠ 0 := by
  rw [Cue.eligible, Bool.and_eq_true, Bool.not_eq_true']
  refine and_congr_right' ?_
  cases run : c.gateRun with
  | none => exact iff_of_true rfl nofun
  | some g => simp only [Option.any_some, Option.some.injEq, forall_eq', Bool.not_eq_true', Bool.and_eq_false_iff,
      Bool.not_eq_false', beq_eq_false_iff_ne, ne_eq]

theorem CueTable.has_eligible : t.has z l Cue.eligible k = true ↔ mayLight t z l k := by
  rw [CueTable.has_iff, mayLight]
  simp only [Cue.eligible_iff]

theorem CueTable.winner_iff (once : t.postOrder.Nodup) : t.winner z l = some k ↔
    k ∈ t.postOrder ∧ mayLight t z l k ∧ ∀ j ∈ t.postOrder, j ≠ k → mayLight t z l j →
      t.priority j < t.priority k ∨ (t.priority j = t.priority k ∧ t.postOrder.idxOf j < t.postOrder.idxOf k) := by
  have best : t.winner z l = highest t.priority (t.postOrder.filter (t.has z l Cue.eligible)) := by
    refine congrArg (fun step => List.foldl step none _) (funext fun best => funext fun j => ?_)
    cases best <;> rfl
  rw [best, highest_iff t.priority (before := fun a b => t.postOrder.idxOf a < t.postOrder.idxOf b)
    (fun _ _ => Nat.lt_asymm) ((pairwise_idxOf once).filter _), ranksFirst, List.mem_filter, CueTable.has_eligible, and_assoc]
  refine and_congr_right' (and_congr_right' (forall_congr' fun j => ?_))
  rw [List.mem_filter, CueTable.has_eligible]
  exact ⟨fun h mem other may => h ⟨mem, may⟩ other, fun h both other => h both.1 other both.2⟩

theorem CueTable.outgoing_iff (once : t.retiring.Nodup) : t.outgoing z l = some k ↔
    k ∈ t.retiring ∧ fadesFrom t z l k ∧ ∀ j ∈ t.retiring, j ≠ k → fadesFrom t z l j →
      t.retiring.idxOf j < t.retiring.idxOf k := by
  have fades : ∀ j, t.has z l (fun c => c.phase.isFadingOut) j = true ↔ fadesFrom t z l j := fun j => t.has_iff z l j _
  rw [CueTable.outgoing, ← highest_last, highest_iff _ (before := fun a b => t.retiring.idxOf a < t.retiring.idxOf b)
    (fun _ _ => Nat.lt_asymm) ((pairwise_idxOf once).filter _), ranksFirst, List.mem_filter, fades, and_assoc]
  refine and_congr_right' (and_congr_right' (forall_congr' fun j => ?_))
  rw [List.mem_filter, fades]
  exact ⟨fun h mem other may => (h ⟨mem, may⟩ other).elim (fun no => absurd no (Nat.lt_irrefl 0)) fun both => both.2,
    fun h both other => .inr ⟨rfl, h both.1 other both.2⟩⟩

end

/-! ## Effects (R49 to R52) -/

section
variable {period floor : Nat}

/-- How far a pulse is from its floor, at most half its period. -/
theorem pulse_distance_le (even : period % 2 = 0) {phase : Nat} (within : phase < period) :
    (if phase < period / 2 then phase else period - phase) ≤ period / 2 := by
  split <;> omega

theorem pulseFactor_le (low : floor ≤ 1000) (long : 2 ≤ period) (even : period % 2 = 0) (offset clock : Nat) :
    pulseFactor period floor offset clock ≤ 1000 := by
  have near := pulse_distance_le even (Nat.mod_lt (clock + offset) (show 0 < period by omega))
  have rise : (1000 - floor) * (if (clock + offset) % period < period / 2 then (clock + offset) % period
      else period - (clock + offset) % period) / (period / 2) ≤ 1000 - floor :=
    Nat.div_le_of_le_mul ((Nat.mul_le_mul_left _ near).trans_eq (Nat.mul_comm _ _))
  rw [pulseFactor]
  omega

theorem pulseFactor_floor_le (offset clock : Nat) : floor ≤ pulseFactor period floor offset clock := Nat.le_add_right _ _

theorem pulseFactor_again (offset clock : Nat) :
    pulseFactor period floor offset (clock + period) = pulseFactor period floor offset clock := by
  rw [pulseFactor, Nat.add_right_comm, Nat.add_mod_right, ← pulseFactor]

theorem pulseFactor_start {offset clock : Nat} (long : 2 ≤ period) (start : (clock + offset) % period = 0) :
    pulseFactor period floor offset clock = floor := by
  rw [pulseFactor, start]
  rw [if_pos (by omega), Nat.mul_zero, Nat.zero_div, Nat.add_zero]

theorem pulseFactor_middle {offset clock : Nat} (low : floor ≤ 1000) (long : 2 ≤ period) (even : period % 2 = 0)
    (middle : (clock + offset) % period = period / 2) : pulseFactor period floor offset clock = 1000 := by
  have half : period - period / 2 = period / 2 := by omega
  rw [pulseFactor, middle]
  rw [if_neg (Nat.lt_irrefl _), half, Nat.mul_div_cancel _ (show 0 < period / 2 by omega)]
  omega

end

section
variable (duration edge clock k i : Nat)

theorem sweepFactor_le : sweepFactor duration edge clock k i ≤ 1000 := by
  rw [sweepFactor]
  split
  · exact Nat.le_refl _
  · split
    · exact Nat.div_le_of_le_mul ((Nat.mul_le_mul_left 1000 (Nat.sub_le _ _)).trans_eq (Nat.mul_comm _ _))
    · exact Nat.zero_le _

variable {duration edge clock k i}

theorem sweepFactor_passed (passed : 16 * i + 8 ≤ 16 * k * min clock duration / duration) :
    sweepFactor duration edge clock k i = 1000 := if_pos passed

theorem sweepFactor_ahead (ahead : 16 * k * min clock duration / duration < 16 * i + 8)
    (far : 16 * k * min clock duration / duration + 16 * edge ≤ 16 * i + 8) : sweepFactor duration edge clock k i = 0 := by
  rw [sweepFactor, if_neg (by omega), if_neg (by omega)]

theorem sweepFactor_edge (ahead : 16 * k * min clock duration / duration < 16 * i + 8)
    (near : 16 * i + 8 < 16 * k * min clock duration / duration + 16 * edge) : sweepFactor duration edge clock k i =
      1000 * (16 * edge - (16 * i + 8 - 16 * k * min clock duration / duration)) / (16 * edge) := by
  rw [sweepFactor, if_neg (by omega), if_pos (by omega)]

theorem sweepFactor_ended (inside : i < k) (some' : 0 < duration) (ended : duration ≤ clock) :
    sweepFactor duration edge clock k i = 1000 := by
  refine sweepFactor_passed ?_
  rw [Nat.min_eq_right ended, Nat.mul_div_cancel _ some']
  omega

end

theorem Direction.index_lt {k i : Nat} (dir : Direction) (inside : i < k) : dir.index k i < k := by
  cases dir <;> simp only [Direction.index] <;> omega

section
variable {k i : Nat} (inside : i < k)

theorem blend_two (many : 2 ≤ k) (a b : Nat) : blend a b k i = (a * (k - 1 - i) + b * i) / (k - 1) := if_neg (by omega)

theorem blend_first (a b : Nat) : blend a b k 0 = a := by
  rw [blend]
  split
  · rfl
  · rw [Nat.sub_zero, Nat.mul_zero, Nat.add_zero, Nat.mul_div_cancel _ (by omega)]

theorem blend_last (many : 2 ≤ k) (last : i + 1 = k) (a b : Nat) : blend a b k i = b := by
  rw [blend_two many, show k - 1 - i = 0 by omega, show k - 1 = i by omega, Nat.mul_zero, Nat.zero_add,
    Nat.mul_div_cancel _ (by omega)]

include inside in
theorem blend_le {a b n : Nat} (ha : a ≤ n) (hb : b ≤ n) : blend a b k i ≤ n := by
  rw [blend]
  split
  · exact ha
  · refine Nat.div_le_of_le_mul ?_
    calc a * (k - 1 - i) + b * i ≤ n * (k - 1 - i) + n * i :=
          Nat.add_le_add (Nat.mul_le_mul_right _ ha) (Nat.mul_le_mul_right _ hb)
      _ = n * (k - 1 - i + i) := (Nat.mul_add _ _ _).symm
      _ = (k - 1) * n := by rw [Nat.sub_add_cancel (by omega), Nat.mul_comm]

variable (a b : Rgb)

theorem gradient_first (dir : Direction) : (Effect.gradient dir).colour a b k 0 = if dir = .forward then a else b := by
  cases dir <;> simp only [Effect.colour, blend_first] <;> rfl

theorem gradient_last (dir : Direction) (many : 2 ≤ k) (last : i + 1 = k) :
    (Effect.gradient dir).colour a b k i = if dir = .forward then b else a := by
  cases dir <;> simp only [Effect.colour, blend_last many last] <;> rfl

theorem gradient_two (dir : Direction) (many : 2 ≤ k) : (Effect.gradient dir).colour a b k i =
    { r := ((if dir = .forward then a else b).r * (k - 1 - i) + (if dir = .forward then b else a).r * i) / (k - 1)
      g := ((if dir = .forward then a else b).g * (k - 1 - i) + (if dir = .forward then b else a).g * i) / (k - 1)
      b := ((if dir = .forward then a else b).b * (k - 1 - i) + (if dir = .forward then b else a).b * i) / (k - 1) } := by
  cases dir <;> simp only [Effect.colour, blend_two many] <;> rfl

theorem Effect.colour_plain {e : Effect} (plain : e.isGradient = false) : e.colour a b k i = a := by
  cases e with
  | gradient => cases plain
  | _ => rfl

include inside in
theorem Effect.colour_le (e : Effect) (ha : a.le 4095) (hb : b.le 4095) : (e.colour a b k i).le 4095 := by
  obtain ⟨ar, ag, ab⟩ := ha
  obtain ⟨br, bg, bb⟩ := hb
  cases e with
  | gradient dir =>
    cases dir with
    | forward => exact ⟨blend_le inside ar br, blend_le inside ag bg, blend_le inside ab bb⟩
    | reverse => exact ⟨blend_le inside br ar, blend_le inside bg ag, blend_le inside bb ab⟩
  | _ => exact ⟨ar, ag, ab⟩

end

end Sys2Proof.Machine

/-! PROOFS. Stages 2 to 5 of a frame: what a cue contributes, the layers and the composite (chapter 5). -/

namespace Sys2Proof.Machine

open Sys2Proof

/-! ## The colour of a cue (R38, R39) -/

section
variable {x : ColourSource} {pal : Vector PaletteEntry 32}

theorem ColourSource.undefined_iff : x.undefined pal = true ↔ NamesUndefined x pal := by
  cases x with
  | direct c => exact iff_of_false nofun fun ⟨e, named, _⟩ => ColourSource.noConfusion named
  | palette e =>
    refine Option.isNone_iff_eq_none.trans ⟨fun none' => ⟨e, rfl, none'⟩, ?_⟩
    rintro ⟨e', named, none'⟩
    rw [ColourSource.palette.injEq] at named
    rw [named]
    exact none'

theorem SourceGives.read {c : Rgb} (gives : SourceGives x pal c) : x.read pal = c := by
  rcases gives with rfl | ⟨e, rfl, colour⟩
  · rfl
  · rw [ColourSource.read, colour, Option.getD_some]

theorem ColourSource.read_le (le : x.le 4095) (palette : ∀ (e : Fin 32) (c : Rgb), pal[e].colour = some c → c.le 4095) :
    (x.read pal).le 4095 := by
  cases x with
  | direct c => exact le
  | palette e =>
    rw [ColourSource.read]
    cases colour : pal[e].colour with
    | none => exact ⟨Nat.zero_le _, Nat.zero_le _, Nat.zero_le _⟩
    | some c => exact palette e c colour

end

section
variable (c : Cue) (pal : Vector PaletteEntry 32) (k i : Nat)

theorem Cue.void_iff : c.void pal = true ↔ NamesUndefined c.desc.a pal ∨
    c.desc.effect.isGradient = true ∧ ∃ b, c.desc.b = some b ∧ NamesUndefined b pal := by
  rw [Cue.void, Bool.or_eq_true, ColourSource.undefined_iff, Bool.and_eq_true, Option.any_eq_true]
  simp only [ColourSource.undefined_iff]

theorem Cue.colourAt_plain {a : Rgb} (gives : SourceGives c.desc.a pal a) (plain : c.desc.effect.isGradient = false) :
    c.colourAt pal k i = a := by
  rw [Cue.colourAt, Effect.colour_plain _ _ plain, gives.read]

theorem Cue.colourAt_both {a b : Rgb} {x : ColourSource} (gives : SourceGives c.desc.a pal a) (named : c.desc.b = some x)
    (gives' : SourceGives x pal b) : c.colourAt pal k i = c.desc.effect.colour a b k i := by
  rw [Cue.colourAt, named, Option.getD_some, gives.read, gives'.read]

/-! ## Its weight (R44, R53, R54) -/

theorem Effect.factor_le {e : Effect} (ok : (match e with
      | .pulse period floor _ => decide (floor ≤ 1000 ∧ 2 ≤ period ∧ period % 2 = 0)
      | _ => true) = true) (clock : Nat) : e.factor clock k i ≤ 1000 := by
  cases e with
  | pulse period floor offset =>
    obtain ⟨low, long, even⟩ := of_decide_eq_true ok
    exact pulseFactor_le low long even _ _
  | sweep => exact sweepFactor_le _ _ _ _ _
  | _ => exact Nat.le_refl _

theorem Cue.fadeEnvelope_le {c : Cue} (ok : (match c.phase with
      | .fadingIn t => decide (t ≤ c.desc.fadeIn)
      | .steady => true
      | .fadingOut _ _ start => decide (start ≤ 1000)) = true) : c.fadeEnvelope ≤ 1000 := by
  rw [Cue.fadeEnvelope]
  cases phase : c.phase with
  | fadingIn t =>
    rw [phase] at ok
    exact Nat.div_le_of_le_mul ((Nat.mul_le_mul_left _ (of_decide_eq_true ok)).trans_eq (Nat.mul_comm _ _))
  | steady => exact Nat.le_refl _
  | fadingOut t exit start =>
    rw [phase] at ok
    exact (Nat.div_le_of_le_mul ((Nat.mul_le_mul_left _ (Nat.sub_le _ _)).trans_eq (Nat.mul_comm _ _))).trans
      (of_decide_eq_true ok)

theorem ramp_le (up : Bool) {start : Nat} (low : start ≤ 1000) (elapsed time : Nat) : ramp up start elapsed time ≤ 1000 := by
  cases up with
  | true =>
    rw [ramp]
    split
    · exact Nat.le_refl _
    · exact Nat.min_le_left _ _
  | false =>
    rw [ramp]
    split
    · exact Nat.zero_le _
    · exact (Nat.sub_le _ _).trans low

theorem Cue.gateEnvelope_le {c : Cue} (ok : (c.gateRun.all fun g => decide (g.start ≤ 1000)) = true) :
    c.gateEnvelope ≤ 1000 := by
  rw [Cue.gateEnvelope]
  cases run : c.gateRun with
  | none => exact Nat.le_refl _
  | some g =>
    rw [run] at ok
    exact ramp_le _ (of_decide_eq_true ok) _ _

/-- A product of two levels per mille is one. -/
theorem scaled_level_le {x y : Nat} (hx : x ≤ 1000) (hy : y ≤ 1000) : x * y / 1000 ≤ 1000 :=
  Nat.div_le_of_le_mul (Nat.mul_le_mul hx hy)

theorem Cue.weight_le {c : Cue} (ok : c.levelsOk = true) : c.weight k i ≤ 1000 := by
  rw [Cue.levelsOk, Bool.and_eq_true, Bool.and_eq_true, Bool.and_eq_true] at ok
  obtain ⟨⟨⟨intensity, effect⟩, fade⟩, gate⟩ := ok
  exact scaled_level_le (scaled_level_le (scaled_level_le (of_decide_eq_true intensity) (Effect.factor_le k i effect _))
    (Cue.fadeEnvelope_le fade)) (Cue.gateEnvelope_le gate)

/-! ## Its contribution (R89, R90) -/

theorem Cue.contribution_void (void : c.void pal = true) : c.contribution pal k i = Comp.clear := if_pos void

theorem Cue.contribution_lit (lit : c.void pal = false) : c.contribution pal k i =
    { colour := (c.colourAt pal k i).map fun x => x * c.weight k i / 1000, coverage := c.weight k i } :=
  if_neg (by rw [lit]; exact Bool.false_ne_true)

end

/-! ## Compositing (R91 to R93) -/

/-- A colour is premultiplied by its coverage, but for an excess `e` per mille that rounding leaves. -/
def Comp.premultiplied (c : Comp) (e : Nat) : Prop :=
  c.coverage ≤ 1000 ∧ 1000 * c.colour.r ≤ 4095 * c.coverage + e ∧ 1000 * c.colour.g ≤ 4095 * c.coverage + e ∧
    1000 * c.colour.b ≤ 4095 * c.coverage + e

theorem Comp.clear_premultiplied : Comp.clear.premultiplied 0 :=
  ⟨Nat.zero_le _, Nat.zero_le _, Nat.zero_le _, Nat.zero_le _⟩

theorem Cue.contribution_premultiplied {c : Cue} {pal : Vector PaletteEntry 32} {k i : Nat} (inside : i < k)
    (ok : c.levelsOk = true) (a : c.desc.a.le 4095) (b : ∀ b, c.desc.b = some b → b.le 4095)
    (palette : ∀ (e : Fin 32) (c : Rgb), pal[e].colour = some c → c.le 4095) :
    (c.contribution pal k i).premultiplied 0 := by
  have source : ((c.desc.b.getD c.desc.a).read pal).le 4095 := by
    refine ColourSource.read_le ?_ palette
    cases named : c.desc.b with
    | none => exact a
    | some x => exact b x named
  obtain ⟨red, green, blue⟩ := Effect.colour_le inside _ _ c.desc.effect (ColourSource.read_le a palette) source
  have part : ∀ x, x ≤ 4095 → 1000 * (x * c.weight k i / 1000) ≤ 4095 * c.weight k i + 0 := fun x hx =>
    (Nat.mul_div_le _ _).trans (Nat.mul_le_mul_right _ hx)
  cases void : c.void pal with
  | true =>
    rw [Cue.contribution_void c pal k i void]
    exact Comp.clear_premultiplied
  | false =>
    rw [Cue.contribution_lit c pal k i void]
    exact ⟨Cue.weight_le k i ok, part _ red, part _ green, part _ blue⟩

section
variable {top bottom : Comp}

theorem over_coverage_le {t b : Nat} (ht : t ≤ 1000) (hb : b ≤ 1000) : t + b * (1000 - t) / 1000 ≤ 1000 := by
  have rest : b * (1000 - t) / 1000 ≤ 1000 - t := Nat.div_le_of_le_mul (Nat.mul_le_mul_right _ hb)
  omega

/-- One component of a colour laid over another that is in range but for `e`. -/
theorem over_part_le {t w x b e n : Nat} (hw : w ≤ 1000) (ht : 1000 * t ≤ 4095 * w + x) (hb : b ≤ 4095 + e)
    (hn : e + x / 1000 ≤ n) : t + b * (1000 - w) / 1000 ≤ 4095 + n := by
  have below : 1000 * (b * (1000 - w) / 1000) ≤ (4095 + e) * (1000 - w) :=
    (Nat.mul_div_le _ _).trans (Nat.mul_le_mul_right _ hb)
  have less : e * (1000 - w) ≤ e * 1000 := Nat.mul_le_mul_left _ (Nat.sub_le _ _)
  rw [Nat.add_mul] at below
  omega

theorem Comp.over_le {x e n : Nat} (ht : top.premultiplied x) (hb : bottom.colour.le (4095 + e)) (hn : e + x / 1000 ≤ n) :
    (top.over bottom).colour.le (4095 + n) := by
  obtain ⟨cover, red, green, blue⟩ := ht
  obtain ⟨red', green', blue'⟩ := hb
  exact ⟨over_part_le cover red red' hn, over_part_le cover green green' hn, over_part_le cover blue blue' hn⟩

/-- One component of a colour laid over another, both premultiplied: rounding can leave less than 4.1 above the coverage. -/
theorem over_part_premultiplied {t w b v : Nat} (ht : 1000 * t ≤ 4095 * w + 0) (hb : 1000 * b ≤ 4095 * v + 0) :
    1000 * (t + b * (1000 - w) / 1000) ≤ 4095 * (w + v * (1000 - w) / 1000) + 4095 := by
  have floor : v * (1000 - w) ≤ 1000 * (v * (1000 - w) / 1000) + 999 := by omega
  have above : 1000 * (b * (1000 - w)) ≤ 4095 * (v * (1000 - w)) := by
    rw [← Nat.mul_assoc, ← Nat.mul_assoc]
    exact Nat.mul_le_mul_right _ (by omega)
  have low : 1000 * (b * (1000 - w) / 1000) ≤ b * (1000 - w) := Nat.mul_div_le _ _
  omega

theorem Comp.over_premultiplied (ht : top.premultiplied 0) (hb : bottom.premultiplied 0) :
    (top.over bottom).premultiplied 4095 :=
  ⟨over_coverage_le ht.1 hb.1, over_part_premultiplied ht.2.1 hb.2.1, over_part_premultiplied ht.2.2.1 hb.2.2.1,
    over_part_premultiplied ht.2.2.2 hb.2.2.2⟩

theorem Comp.over_clear : top.over Comp.clear = top := by
  rw [Comp.over, Comp.clear, Rgb.zip, Rgb.black]
  simp only [Nat.zero_mul, Nat.zero_div, Nat.add_zero]

/-- A colour that covers wholly hides what is below it. -/
theorem Comp.over_whole (whole : top.coverage = 1000) : top.over bottom = top := by
  rw [Comp.over, whole, Rgb.zip]
  simp only [Nat.sub_self, Nat.mul_zero, Nat.zero_div, Nat.add_zero]
  rw [← whole]

end

/-! ## The composite of a node (R92, R93) -/

/-- The four layers over one another. -/
theorem compositeAt_eq (t : CueTable) (pal : Vector PaletteEntry 32) (z : Fin 16) (k i : Nat) : compositeAt t pal z k i =
    (layerResult t pal z k i .alert).over ((layerResult t pal z k i .accent).over
      ((layerResult t pal z k i .theme).over ((layerResult t pal z k i .foundation).over Comp.clear))) := rfl

section
variable {t : CueTable} {pal : Vector PaletteEntry 32} (reads : ReadsInRange t pal) {k i : Nat} (inside : i < k) (z : Fin 16)
include reads inside

theorem contributionOf_premultiplied (c : Option (Fin 48)) : (contributionOf (t.chosen c) pal k i).premultiplied 0 := by
  cases cue : t.chosen c with
  | none => exact Comp.clear_premultiplied
  | some x =>
    obtain ⟨j, -, live⟩ := Option.bind_eq_some_iff.1 cue
    obtain ⟨palette, cues⟩ := reads
    obtain ⟨ok, a, b⟩ := cues j x live
    exact Cue.contribution_premultiplied inside ok a b palette

theorem layerResult_premultiplied (l : Layer) : (layerResult t pal z k i l).premultiplied 4095 :=
  Comp.over_premultiplied (contributionOf_premultiplied reads inside _) (contributionOf_premultiplied reads inside _)

theorem layerResult_alone {l : Layer} (alone : t.outgoing z l = none) : (layerResult t pal z k i l).premultiplied 0 := by
  have top : layerResult t pal z k i l = contributionOf (t.chosen (t.winner z l)) pal k i := by
    rw [layerResult, alone]
    exact Comp.over_clear
  rw [top]
  exact contributionOf_premultiplied reads inside _

theorem compositeAt_coverage_le : (compositeAt t pal z k i).coverage ≤ 1000 := by
  have layer := fun l => (layerResult_premultiplied reads inside z l).1
  exact over_coverage_le (layer _) (over_coverage_le (layer _) (over_coverage_le (layer _)
    (over_coverage_le (layer _) (Nat.zero_le _))))

theorem compositeAt_colour_le : (compositeAt t pal z k i).colour.le 4123 := by
  have layer := layerResult_premultiplied reads inside z
  have clear : Comp.clear.colour.le (4095 + 0) := ⟨Nat.zero_le _, Nat.zero_le _, Nat.zero_le _⟩
  exact Comp.over_le (n := 28) (e := 12) (layer _) (Comp.over_le (e := 8) (layer _) (Comp.over_le (e := 4) (layer _)
    (Comp.over_le (layer _) clear (by decide)) (by decide)) (by decide)) (by decide)

theorem compositeAt_alone_le (alone : ∀ l, t.outgoing z l = none) : (compositeAt t pal z k i).colour.le 4095 := by
  have layer := fun l => layerResult_alone reads inside z (alone l)
  have clear : Comp.clear.colour.le (4095 + 0) := ⟨Nat.zero_le _, Nat.zero_le _, Nat.zero_le _⟩
  exact Comp.over_le (n := 0) (e := 0) (layer _) (Comp.over_le (e := 0) (layer _) (Comp.over_le (e := 0) (layer _)
    (Comp.over_le (layer _) clear (by decide)) (by decide)) (by decide)) (by decide)

end

/-- A zone that has no captured composite is composed from its cues (R86, R94). -/
theorem Snapshot.composite_live {f : Snapshot} {z : Fin 16} (live : ∀ l, f.zones[z].hold ≠ .captured l) :
    f.composite z = (List.range f.zones[z].nodes.length).map fun i =>
      compositeAt f.cues f.palette z f.zones[z].nodes.length i := by
  rw [Snapshot.composite]
  cases hold : f.zones[z].hold with
  | captured l => exact absurd hold (live l)
  | _ => rfl

theorem Snapshot.mem_allRecords (f : Snapshot) (r : Record) : r ∈ f.allRecords ↔ ∃ z : Fin 16, r ∈ f.records z := by
  rw [Snapshot.allRecords, List.mem_flatMap]
  exact ⟨fun ⟨z, _, mem⟩ => ⟨z, mem⟩, fun ⟨z, mem⟩ => ⟨z, List.mem_finRange z, mem⟩⟩

end Sys2Proof.Machine

/-! PROOFS. What a frame computes (chapters 2, 5 and 6). -/

namespace Sys2Proof.Machine

open Sys2Proof

/-- Settles O36: the stages of a frame, from the cues to the duty sets. -/
theorem dutySetIsInRange : Obligations.DutySetIsInRange := by
  refine ⟨fun f c => ⟨fun d mem r g b => f.dutySet_le c mem, f.dutySet_ascends c, f.dutySet_positions c,
      thermalFactor_ge _ _ _, thermalFactor_le _ _ _, rfl, rfl, f.estimate_le c⟩,
    fun f r => ⟨rfl, fun k place drives burns => ?_, fun dark => ?_⟩, fun b p => ⟨fun within => ?_, fun beyond => ?_, ?_,
      fun red green blue low => Bin.calibrate_identity red green blue low⟩,
    fun f c rises => ⟨fun dark => ?_, fun k burns most => ⟨fun low => ?_, fun above below => ?_, fun high => ?_⟩⟩,
    fun f c k => ⟨fun off => ?_, fun driven => ⟨fun dark => ?_, fun r d once mem node drive => ?_⟩⟩,
    fun t z l k => ⟨t.winner_iff z l k, t.outgoing_iff z l k⟩,
    fun period floor offset clock k i low long even => ⟨rfl, pulseFactor_floor_le _ _, pulseFactor_le low long even _ _,
      pulseFactor_again _ _, fun start => pulseFactor_start long start, fun middle => pulseFactor_middle low long even middle⟩,
    fun duration edge clock k i dir inside some' => ?_, fun a b clock k i dir inside => ⟨rfl, rfl, fun first many => ?_,
      fun last many => gradient_last a b dir many last, fun one => ?_, fun many => gradient_two a b dir many,
      fun e plain => Effect.colour_plain a b plain, fun ha hb => Effect.colour_le inside a b _ ha hb⟩,
    fun c => ?_, fun c pal k i => ⟨c.void_iff pal, fun a gives => ⟨fun plain => c.colourAt_plain pal k i gives plain,
      fun x b named gives' => c.colourAt_both pal k i gives named gives'⟩⟩,
    fun c pal k i => ⟨Cue.weight_le k i, c.contribution_void pal k i, fun lit => ?_⟩, fun top bottom _ => rfl,
    fun top bottom red green blue cover low cover' => ?_, fun t pal z k i inside reads => ⟨rfl,
      compositeAt_coverage_le reads inside z, compositeAt_colour_le reads inside z, compositeAt_alone_le reads inside z⟩,
    fun t pal k i => ⟨rfl, fun j c live => ?_⟩, fun f z => ⟨fun l => Snapshot.composite_captured, Snapshot.composite_live,
      f.records_length z, f.mem_allRecords⟩, fun f z n node c place comp => Snapshot.records_getElem? place comp⟩
  · have delivered := Snapshot.deliverable_burns place drives burns
    exact ⟨delivered, Snapshot.drive_burns place delivered⟩
  · have none' := Snapshot.deliverable_none dark
    exact ⟨none', Snapshot.drive_none none'⟩
  · exact (b.calibrate_eq p).trans (Rgb.gamut_within within)
  · exact (b.calibrate_eq p).trans (Rgb.gamut_beyond beyond)
  · rw [Bin.calibrate_eq]
    exact Rgb.gamut_le _
  · rw [Snapshot.thermal, ChainSnapshot.hottest_none _ dark]
    rfl
  · rw [Snapshot.thermal, ChainSnapshot.hottest_some _ burns most]
    exact if_pos low
  · rw [Snapshot.thermal, ChainSnapshot.hottest_some _ burns most]
    exact thermalFactor_between above below
  · rw [Snapshot.thermal, ChainSnapshot.hottest_some _ burns most]
    exact (if_neg (by omega)).trans (if_neg (by omega))
  · exact f.dutySet_blank c k ⟨by rw [off]; exact nofun, by rw [off]; exact nofun⟩
      (f.driveAt_dark c k fun burns => by rcases burns.1 with e | e <;> rw [off] at e <;> cases e)
  · have holds : f.chains[c].nodes[k].state ≠ .absent ∧ f.chains[c].nodes[k].state ≠ .unreachable := by
      rcases driven with e | e <;> rw [e] <;> exact ⟨nofun, nofun⟩
    refine f.dutySet_blank c k holds ?_
    rcases dark with hot | unlisted
    · exact f.driveAt_dark c k fun burns => Bool.false_ne_true (burns.2.symm.trans hot)
    · exact f.driveAt_none c k fun r mem node => absurd node (unlisted r mem)
  · have holds : f.chains[c].nodes[k].state ≠ .absent ∧ f.chains[c].nodes[k].state ≠ .unreachable := by
      rcases driven with e | e <;> rw [e] <;> exact ⟨nofun, nofun⟩
    have entry := f.dutySet_holds c k holds
    rw [f.driveAt_record c k once mem node drive] at entry
    exact entry
  · have centre : dir.index k i < k := dir.index_lt inside
    exact ⟨sweepFactor_le _ _ _ _ _, fun ended => sweepFactor_ended centre some' ended,
      sweepFactor_passed (i := dir.index k i), sweepFactor_ahead (i := dir.index k i), sweepFactor_edge (i := dir.index k i)⟩
  · subst first
    exact gradient_first a b dir
  · obtain rfl : i = 0 := by omega
    exact gradient_first a b dir
  · refine ⟨fun x phase => ?_, fun phase => ?_, fun x exit start phase => ?_, fun none' => ?_, fun g run =>
      ⟨fun up => ?_, fun down => ?_⟩⟩
    · rw [Cue.fadeEnvelope, phase]
    · rw [Cue.fadeEnvelope, phase]
    · rw [Cue.fadeEnvelope, phase]
    · rw [Cue.gateEnvelope, none']
    · rw [Cue.gateEnvelope, run]
      dsimp only
      rw [up]
      rfl
    · rw [Cue.gateEnvelope, run]
      dsimp only
      rw [down]
      rfl
  · rw [c.contribution_lit pal k i lit]
    exact ⟨rfl, rfl, rfl, rfl⟩
  · have colour := Comp.over_le (e := 0) (n := 0) (x := 0) ⟨cover, red, green, blue⟩ low (Nat.le_refl _)
    exact ⟨colour, over_coverage_le cover cover', Nat.le_add_right _ _, Comp.over_whole⟩
  · rw [CueTable.chosen, Option.bind_some, live]
    rfl

end Sys2Proof.Machine
